-- ==== Sys2Proof/Word.lean ====
section
/-! DEFINITION. Word.lean: the two word widths of the part. A frame is made of 8-bit characters
(10 TABLE 10-1), slots and store words have 16 bits (00 Terms "Slot", 11 R165). -/

namespace Sys2Proof

/-- One character of a frame, or one byte of the store line (10 R152, 11 R165). -/
abbrev Byte := BitVec 8

/-- One slot value, or one word of the external memory (00 Terms, 11 R165). -/
abbrev Word := BitVec 16

/-- The 16-bit word of a number, modulo 65,536. -/
def wordOf (n : Nat) : Word := BitVec.ofNat 16 n

/-- The 8-bit character of a number, modulo 256. -/
def byteOf (n : Nat) : Byte := BitVec.ofNat 8 n

end Sys2Proof
end

