-- ==== Sys2Proof/Config.lean ====
section
/-! DEFINITION. Config.lean: the sizes the manual fixes for the part's queues and sets, and the model's
time unit. The spec leaves no computed value open, so there is no free value here (INVENTORY.md, "What the
manual leaves open"). -/

namespace Sys2Proof.Config

/-- Milliseconds that one step on an empty queue stands for (DESIGN CHOICE, entry 2). -/
def tickMs : Nat := 1
/-- Stations that may share the line (00 Terms "Station"). -/
def stations : Nat := 30
/-- Entries of the transmit queue (10 R159). -/
def transmitCapacity : Nat := 8
/-- Commands of the intake queue (10 R158). -/
def intakeCapacity : Nat := 4
/-- Requests of the chime set (08 R129). -/
def chimeCapacity : Nat := 8
/-- Records of the message queue (09 R142). -/
def messageCapacity : Nat := 8
/-- Entries of the NSP write queue (11 R167). -/
def writeCapacity : Nat := 16
/-- Words of the external memory (11 R165). -/
def memoryWords : Nat := 128
/-- Cells of the body line in a millisecond (10 R152). -/
def cellsPerMs : Nat := 8
/-- Records of the journey ring (05 R88). -/
def ringCapacity : Nat := 10
/-- Samples of a sender ring (03 R44). -/
def senderRing : Nat := 16
/-- Samples of the instantaneous ring (04 R74). -/
def instantRing : Nat := 8

end Sys2Proof.Config
end

