-- ==== Sys2Proof/Syntax.lean ====
section
/-! DEFINITION. Syntax.lean: the commands of the part, one constructor per row of spec/opcode_table.json,
with the operands that each row's event brings from outside, and the types of those operands. -/

namespace Sys2Proof

/-- A slot of a frame: its value when its valid flag is set, none when it is invalid; an invalid slot
holds 0 (00 Terms "Slot", 01 R1, 10 TABLE 10-1). -/
abbrev Slot := Option Word

/-- The seven consumed report kinds (01 TABLE 1-5). -/
inductive ReportKind where
  | engine | fuelFlow | chassis | tank | bodyDoors | bodyLamps | rearConsole
deriving DecidableEq, Repr

/-- The kinds of frame (10 TABLE 10-2). -/
inductive FrameKind where
  | rollCall | presence
  | engine | fuelFlow | chassis | tank | bodyDoors | bodyLamps | rearConsole
  | clusterMirror | tripSummary | serviceStatus | chimeStatus | journeyRecord
  | demand | chimeRequest | notice | transferStop | serviceReset | journeyClear | restartRequest | clockSet
deriving DecidableEq, Repr

/-- What a heard frame says beside its kind and target: its source station, its READY and FIRST flags and
its slots, as many as it carried (10 TABLE 10-1, R153). -/
structure Heard where
  source : Nat
  ready : Bool
  first : Bool
  slots : List Slot
deriving DecidableEq, Repr

/-- The five driver keys (09 R146). -/
inductive Key where
  | mode | select | reset | note | journey
deriving DecidableEq, Repr

/-- The two supply-dip inputs (12 R175). -/
inductive DipInput where
  | crank | lowv
deriving DecidableEq, Repr

/-- Why a frame in reception is discarded (10 R152, R153). -/
inductive DiscardCause where
  | dominantStop | longRun | wakePulse | failedTest
deriving DecidableEq, Repr

/-- Identity of a transmit queue entry: kind, target (0 for all), and selector, which is the trip for a
TRIP SUMMARY and the index for a JOURNEY RECORD (10 TABLE 10-6). -/
structure FrameId where
  kind : FrameKind
  target : Nat
  selector : Option Nat
deriving DecidableEq, Repr

/-- What an owner offers again after a full transmit queue: its own frame, or a station's demand answers
(10 R159, 01 R15). -/
inductive Reoffer where
  | presence
  | rollCall
  | staleDemand (target : Nat)
  | chimeStatus
  | transferStop
  | answers (station : Nat)
deriving DecidableEq, Repr

/-- What the memory answers to a try of a store operation: it acknowledges the command byte, or it leaves the
command byte, or a data byte of a write, unacknowledged (11 R165, R166, entry 16). -/
inductive StoreAnswer where
  | commandAcked | commandUnacked | dataUnacked
deriving DecidableEq, Repr

/-- Levels of the strap pins at the STRAPS step, true for high (12 R171, 10 R163, 04 TABLE 4-1). `pk` is
PK1, PK0 and `var` is VAR1, VAR0, the first the more significant. -/
structure StrapPins where
  adr : BitVec 5
  apr : Bool
  var : BitVec 2
  pk : BitVec 2
  unt : Bool
deriving DecidableEq, Repr

/-- The commands: one constructor per row of spec/opcode_table.json, in the table's order. -/
inductive Instr where
  | standbySupplyUp (crank lowv : Bool)
  | standbySupplyLoss (cut : Option Word)
  | settleEnd (pins : StrapPins)
  | loadComplete (whole : Bool)
  | listenEnd
  | ignOn
  | ignOff
  | sleepTimerExpiry
  | wakePulseHeard
  | keyWake (key : Key)
  | supplyDipBegin (input : DipInput)
  | dipInputsClear
  | supplyDipEnd
  | restartRequestRosterRefresh
  | restartRequestWarmRestart
  | reportArrival (kind : ReportKind) (frame : Heard)
  | rollCall (frame : Heard)
  | presence (frame : Heard)
  | otherFrameHeard (kind : Byte) (target : Nat) (frame : Heard)
  | ownAddressFrameHeard
  | frameDiscarded (cause : DiscardCause)
  | addressedFrameAnswer (kind : Byte) (frame : Heard)
  | demand
  | chimeRequest
  | notice
  | serviceReset
  | journeyClear
  | clockSet
  | attemptBegin
  | lostArbitration
  | readbackFault
  | lineFaultPauseExpiry
  | broadcastSentWhole
  | answerSlotClose (run : Option Nat)
  | retryDelayExpiry (id : FrameId)
  | ownerReoffer (what : Reoffer)
  | holdOffExpiry
  | wakePulseSend
  | staleTimerExpiry (kind : ReportKind)
  | rosterTimerExpiry (station : Nat)
  | mirrorTimerExpiry
  | dampingStep
  | coilOffTimerExpiry
  | correctionTimerExpiry
  | standstillTimerExpiry
  | pumpTimerExpiry
  | transferStopTimerExpiry
  | tripSecondTimerExpiry
  | instantSamplerExpiry
  | clockSecond
  | modePress
  | selectPress
  | resetPress
  | notePress
  | journeyPress
  | journeyRelease
  | journeyLongPress
  | tripReset
  | serviceResetPress
  | setModeTimeout
  | blinkTimerExpiry
  | journeyReadoutAlternate
  | displayTimerExpiry
  | displayTransferComplete
  | minimumShowTimeExpiry
  | maximumShowTimeExpiry
  | reminderRepostTimerExpiry
  | evaluationTimerExpiry
  | reOfferTimerExpiry (entry : Nat)
  | reChimeTimerExpiry (entry : Nat)
  | reviewTimerExpiry
  | flashTimerExpiry
  | lampProvingExpiry
  | windowTimerExpiry
  | staleGraceExpiry
  | engineRunningTimerExpiry
  | elementEnd
  | busyPollRetry (answer : StoreAnswer)
  | failedWriteWaitExpiry
  | writeComplete
  | keyRelease (key : Key)
  | wakePulseEnd
deriving DecidableEq, Repr

end Sys2Proof
end

