-- ==== Sys2Proof/Decode.lean ====
section
/-! DEFINITION. Decode.lean: the command that a word spells by the bits of spec/opcode_table.json. The table
gives no row any bits, so no word spells a command (entry 1). The frames that reach the part are decoded by
`Machine.receive` (10 R152, R153). -/

namespace Sys2Proof

/-- The command that a word spells: none (entry 1). -/
def decodeTableWord (_nbits _w : Nat) : Option Instr := none

end Sys2Proof
end

