-- ==== Sys2Proof/Machine/State.lean ====
section
/-! DEFINITION. Machine/State.lean: every piece of state the manual gives the part, as plain data, one
record per block, and the state with no standby supply, from which a cold start begins. INVENTORY.md lists
each field with its rule and its reset value. -/

namespace Sys2Proof.Machine

/-- A timer: the deadline in ms of `State.now` while it runs, none while it is stopped (entry 3). -/
abbrev Timer := Option Nat

/-! ### Power Supervisor (12) -/

/-- The steps of STARTING that last: STRAPS is instantaneous at the end of SETTLE (12 R171). -/
inductive StartStep where
  | settle | load | listen
deriving DecidableEq, Repr

/-- Power states (12 TABLE 12-1). -/
inductive PowerMode where
  | offline
  | starting (step : StartStep)
  | run
  | watch
  | sleep
deriving DecidableEq, Repr

/-- Power Supervisor (12 R171 to R176). -/
structure Power where
  mode : PowerMode
  startTimer : Timer
  ignOn : Bool
  crank : Bool
  lowv : Bool
  dip : Bool
  settleTimer : Timer
  sleepTimer : Timer
  lastStart : Nat
deriving DecidableEq, Repr

/-- What the STRAPS step sampled; `address` is none for listen-only (10 R163, 12 R171). -/
structure Straps where
  address : Option Nat
  variant : BitVec 2
  pulseSel : BitVec 2
  imperial : Bool
deriving DecidableEq, Repr

/-- Five of the six cluster-fault flags; the sixth, rival, is computed (00 Terms, 01 R3, entry 29). -/
structure Faults where
  strap : Bool
  store : Bool
  clash : Bool
  line : Bool
  nv : Bool
deriving DecidableEq, Repr

/-! ### Report table and roster (01) -/

/-- Report entry (01 TABLE 1-6). -/
structure ReportEntry where
  bound : Option Nat
  slots : List Slot
  ready : Bool
  arrivalTime : Nat
  stale : Bool
  base1 : Option Word
  base2 : Option Word
  rivalSeen : Bool
  staleTimer : Timer
deriving DecidableEq, Repr

/-- Roster states (01 TABLE 1-9). -/
inductive RosterStatus where
  | unknown | live | silent
deriving DecidableEq, Repr

/-- Roster entry (01 TABLE 1-9). -/
structure RosterEntry where
  status : RosterStatus
  lastHeard : Nat
  lastReady : Bool
  rival : Bool
  timer : Timer
deriving DecidableEq, Repr

/-- Pending demand of one station (01 R14, R15): `resume` is the bit at which answering goes on while
`wait` runs. -/
structure PendingDemand where
  mask : BitVec 6
  index : Nat
  resume : Nat
  wait : Timer
deriving DecidableEq, Repr

/-- Report table, roster, pending demands and mirror (01). `roster` and `demands` are indexed by station
number less 1. -/
structure Bus where
  engine : ReportEntry
  fuelFlow : ReportEntry
  chassis : ReportEntry
  tank : ReportEntry
  doors : ReportEntry
  lamps : ReportEntry
  rear : ReportEntry
  roster : List RosterEntry
  demands : List PendingDemand
  heldSpeed : Option Word
  mirrorTimer : Timer
deriving DecidableEq, Repr

/-! ### Gauge Drive Unit (02) -/

/-- The six gauges (02 TABLE 2-1). -/
inductive Gauge where
  | g0 | g1 | g2 | g3 | g4 | g5
deriving DecidableEq, Repr

/-- Channel modes (02 R20). -/
inductive GaugeMode where
  | track | hold | rest | park
deriving DecidableEq, Repr

/-- Channel record (02 R20). -/
structure Channel where
  position : Nat
  mode : GaugeMode
  holdCount : Nat
deriving DecidableEq, Repr

/-- What the PWM frame in progress began with: the coil-drive switch and the six positions (02 R37,
entry 24). -/
structure PwmFrame where
  on : Bool
  g0 : Nat
  g1 : Nat
  g2 : Nat
  g3 : Nat
  g4 : Nat
  g5 : Nat
deriving DecidableEq, Repr

/-- Gauge Drive Unit (02 R20, R25, R37, R39). -/
structure Gauges where
  g0 : Channel
  g1 : Channel
  g2 : Channel
  g3 : Channel
  g4 : Channel
  g5 : Channel
  coilOn : Bool
  coilOffTimer : Timer
  dampTimer : Timer
  frame : PwmFrame
deriving DecidableEq, Repr

/-! ### Fuel Estimator (03) -/

/-- Fuel Estimator (03 TABLE 3-2). -/
structure Fuel where
  mainRing : List Nat
  auxRing : List Nat
  mainEst : Option Nat
  auxEst : Option Nat
  residue : Nat
  snapPending : Bool
  standstill : Bool
  standTimer : Timer
  pumpLong : Bool
  pumpTimer : Timer
  corrTimer : Timer
  stopTimer : Timer
  senderWatch : Nat
deriving DecidableEq, Repr

/-! ### Trip Computer and clock (04) -/

/-- Trip record (04 TABLE 4-2). -/
structure Trip where
  distance : Nat
  fuel : Nat
  seconds : Nat
deriving DecidableEq, Repr

/-- Sample of the instantaneous ring (04 R74). -/
structure Sample where
  pulses : BitVec 32
  counts : BitVec 32
deriving DecidableEq, Repr

/-- Trip Computer (04 TABLE 4-8). -/
structure TripComputer where
  pulseResidue : Nat
  odometer : Nat
  odoDirty : Bool
  tripA : Trip
  tripB : Trip
  pulseTotal : BitVec 32
  countTotal : BitVec 32
  ring : List Sample
  instant : Option Nat
  segSteps : Nat
  segCount : Nat
  rangeBasis : Nat
  tripSecondTimer : Timer
  samplerTimer : Timer
  speedLimit : Nat
deriving DecidableEq, Repr

/-- Clock (04 R78). -/
structure Clock where
  minutes : Nat
  seconds : Nat
  unset : Bool
  secondTimer : Timer
deriving DecidableEq, Repr

/-! ### Journey Unit (05) -/

/-- The fields of an open journey or of a good closed record (05 TABLE 5-1). -/
structure Journey where
  number : Nat
  startClock : Option Nat
  distance : Nat
  fuel : Nat
  elapsed : Nat
  waiting : Nat
deriving DecidableEq, Repr

/-- Closed record of the ring: good, or damaged with the number expected (05 R88). -/
inductive RingRecord where
  | good (j : Journey)
  | damaged (number : Nat)
deriving DecidableEq, Repr

/-- Ring position in the store: whether it waits to be written, and with what: a record, or the erased
value (05 R88, R91). -/
structure RingPosition where
  dirty : Bool
  value : Option Journey
deriving DecidableEq, Repr

/-- Journey Unit (05 R83). `positions` is indexed by ring position 0 to 9. -/
structure JourneyUnit where
  openJourney : Option Journey
  residue : Nat
  ring : List RingRecord
  lastNumber : Nat
  headerDirty : Bool
  openDirty : Bool
  positions : List RingPosition
deriving DecidableEq, Repr

/-! ### Service Reminder Unit (06) -/

/-- Item states, best to worst (06 R96, R99). -/
inductive ItemState where
  | counting | soon | due | overdue
deriving DecidableEq, Repr

/-- Item record (06 R96). -/
structure Item where
  km : Int
  hours : Option Int
  state : ItemState
  moved : Bool
  dirty : Bool
deriving DecidableEq, Repr

/-- Service Reminder Unit (06 R96, R103). `items` is indexed by item number less 1. -/
structure Service where
  items : List Item
  hoursResidue : Nat
  cursor : Option Nat
  repostTimer : Timer
deriving DecidableEq, Repr

/-! ### Warning Unit (07) -/

/-- Entry states (07 R109). -/
inductive WarnStatus where
  | idle | arming | active | noted | clearing
deriving DecidableEq, Repr

/-- Prior states of CLEARING (07 R109). -/
inductive PriorStatus where
  | active | noted
deriving DecidableEq, Repr

/-- Warning entry (07 R109). -/
structure WarnEntry where
  status : WarnStatus
  count : Nat
  prior : PriorStatus
  rechimeDue : Bool
  chimeOut : Bool
  msgOut : Bool
  reofferTimer : Timer
  rechimeTimer : Timer
deriving DecidableEq, Repr

/-- The review: closed, showing an entry's text, or showing "NO WARNINGS" (07 R125). -/
inductive Review where
  | closed
  | entry (n : Nat)
  | noWarnings
deriving DecidableEq, Repr

/-- Warning Unit (07 R109). `entries` is indexed by entry number less 1. -/
structure Warn where
  entries : List WarnEntry
  evalTimer : Timer
  flashTimer : Timer
  flashLit : Bool
  provingTimer : Timer
  windowTimer : Timer
  window : Bool
  graceTimer : Timer
  graceEnded : Bool
  engineTimer : Timer
  engineEst : Bool
  gateSpeed : Option Word
  review : Review
  reviewTimer : Timer
deriving DecidableEq, Repr

/-! ### Chime Generator (08) -/

/-- Who asks for a chime (08 TABLE 8-2). -/
inductive ChimeSource where
  | warning (n : Nat)
  | peer (station : Nat)
  | rearCall
  | keyClick
deriving DecidableEq, Repr

/-- Patterns (08 TABLE 8-1). -/
inductive ChimePattern where
  | single | triple | slow | fast | continuous | twoTone | call | click
deriving DecidableEq, Repr

/-- Chime request record (08 TABLE 8-2). -/
structure ChimeRequest where
  source : ChimeSource
  pattern : ChimePattern
  priority : Nat
  remaining : Nat
  order : Nat
  sounding : Bool
deriving DecidableEq, Repr

/-- Chime Generator (08 R127, R129): `element` counts the elements of the sounding pattern, the trailing
gap being the one after the last. -/
structure Chime where
  requests : List ChimeRequest
  nextOrder : Nat
  element : Nat
  elementTimer : Timer
deriving DecidableEq, Repr

/-! ### Message Center (09) -/

/-- Origins of message records (09 TABLE 9-2). -/
inductive MsgOrigin where
  | warning (n : Nat)
  | reminder
  | rearCall
  | notice (station : Nat)
  | journey
  | statusNote
deriving DecidableEq, Repr

/-- Texts of message records, by name; their characters are in Machine/Display.lean (entry 30). -/
inductive Text where
  | warning (n : Nat)
  | passengerCall
  | notice (n : Nat)
  | journeyOpen (number : Nat)
  | journeyClosed
  | journeysCleared
  | service (state : ItemState) (item : Nat)
  | serviceReset (item : Option Nat)
deriving DecidableEq, Repr

/-- Message record (09 TABLE 9-1). `maxShow` is in seconds, `shown` the shown time in ms up to `since`,
the time at which it last became SHOWING or was replaced. -/
structure MsgRecord where
  origin : MsgOrigin
  text : Text
  priority : Nat
  maxShow : Option Nat
  shown : Nat
  since : Nat
  order : Nat
  showing : Bool
deriving DecidableEq, Repr

/-- Message queue, with the minimum and maximum show timers of the SHOWING record (09 R142, R143). -/
structure Messages where
  queue : List MsgRecord
  nextOrder : Nat
  minTimer : Timer
  maxTimer : Timer
deriving DecidableEq, Repr

/-- Set mode and its steps (09 R149). -/
inductive SetMode where
  | none | hours | minutes | limit
deriving DecidableEq, Repr

/-- Display image: sixteen characters, brightness, lit or dark (09 R140). -/
structure Image where
  chars : List Char
  brightness : Nat
  lit : Bool
deriving DecidableEq, Repr

/-- Display, base readout and set mode (09 R140, R141, R148, R149). -/
structure Display where
  readout : Nat
  selB : Bool
  journeyKm : Bool
  altTimer : Timer
  setMode : SetMode
  setTimer : Timer
  blinkTimer : Timer
  blinkShown : Bool
  displayTimer : Timer
  image : Image
  transfer : Option Image
  changed : Bool
  loaded : Image
deriving DecidableEq, Repr

/-- What a held key may still do: nothing more, the JOURNEY actions, the reset of trip A (false) or B
(true), or the reset of a service item, each with the time at which the press becomes a long one: 2 s from its
acceptance, 5 s for a service item (09 R146, R147, 06 R106). -/
inductive KeyAction where
  | nothing
  | journey (long : Nat)
  | tripReset (b : Bool) (long : Nat)
  | serviceReset (item : Nat) (long : Nat)
deriving DecidableEq, Repr

/-- A key as decoded: open, or held since an accepted press (09 R146). -/
inductive KeyState where
  | released
  | held (action : KeyAction)
deriving DecidableEq, Repr

/-- The five keys, and the key whose press woke the part with the last time its press counts as the waking
press (09 R146, entry 22). -/
structure Keys where
  mode : KeyState
  select : KeyState
  reset : KeyState
  note : KeyState
  journey : KeyState
  waking : Option (Key × Nat)
deriving DecidableEq, Repr

/-! ### Body Line Port (10) -/

/-- Transmit queue entry (10 TABLE 10-6); its class is that of its kind. -/
structure TxEntry where
  id : FrameId
  slots : List Slot
  replacement : Option (List Slot)
  periodic : Bool
  order : Nat
  unanswered : Nat
  holds : Nat
  retry : Timer
  inFlight : Bool
deriving DecidableEq, Repr

/-- Answers to addressed frames (10 TABLE 10-4). -/
inductive Answer where
  | take | refuse | hold
deriving DecidableEq, Repr

/-- Commands of the intake queue (10 R157, R158, TABLE 10-2). -/
inductive Command where
  | demand (mask : BitVec 6) (index : Option Nat)
  | chime (pattern : ChimePattern) (repetitions : Nat)
  | notice (text : Nat) (seconds : Nat)
  | serviceReset (item : Nat)
  | journeyClear
  | rosterRefresh
  | warmRestart
  | clockSet (minutes : Nat)
deriving DecidableEq, Repr

/-- Intake queue entry (10 R158). -/
structure IntakeEntry where
  source : Nat
  command : Command
deriving DecidableEq, Repr

/-- Body Line Port (10 R154, R158 to R162). `pulseUntil` is the time up to which the part drives its last wake
pulse (10 R162, entry 15). -/
structure Port where
  queue : List TxEntry
  nextOrder : Nat
  owed : List (Reoffer × Nat)
  intake : List IntakeEntry
  sending : Option (List Byte)
  sentWhole : List FrameKind
  faultCount : Nat
  pauseTimer : Timer
  holdOff : Timer
  pulseUntil : Option Nat
  wakeWanted : Bool
  lineHeld : Bool
  answer : Option Answer
deriving DecidableEq, Repr

/-! ### Nonvolatile Store Port (11) -/

/-- Write queue entry (11 R167). -/
structure WriteEntry where
  addr : Nat
  data : Word
  replacement : Option Word
deriving DecidableEq, Repr

/-- The write in progress: none; in a try, after so many tries without acknowledge, its command byte
acknowledged or not, with the time at which a try left unacknowledged is begun again; waiting 10 s after a failure;
or held back by a supply dip until its end (11 R166, R167). -/
inductive Writer where
  | idle
  | trying (tries : Nat) (acked : Bool) (retry : Timer)
  | waiting (deadline : Nat)
  | held
deriving DecidableEq, Repr

/-- Nonvolatile Store Port with the words of the external memory (11, entry 8). -/
structure Nsp where
  queue : List WriteEntry
  writer : Writer
  loadTries : Nat
  loadRetry : Timer
  lastSlot : Nat
  memory : List (Nat × Word)
  storing : Option Nat
deriving DecidableEq, Repr

/-! ### The whole state -/

/-- The state of the part, with the queue of waiting commands and the model's time in ms. -/
structure State where
  pending : List Instr
  now : Nat
  power : Power
  straps : Straps
  faults : Faults
  bus : Bus
  gauges : Gauges
  fuel : Fuel
  trip : TripComputer
  clock : Clock
  journey : JourneyUnit
  service : Service
  warn : Warn
  chime : Chime
  msg : Messages
  disp : Display
  keys : Keys
  port : Port
  nsp : Nsp
deriving DecidableEq, Repr

/-- Reasons for which the machine stops with a fault. There is none: the manual describes no event that
stops the part, and no meaning raises a fault. -/
inductive Fault where
deriving DecidableEq, Repr

/-- Reasons for which a command has no meaning. `notModelled` would be raised by the dispatch for a command
without a meaning; every command has one, so nothing raises it (safe). -/
inductive Refusal where
  /-- Raised by Dispatch for a command not reached; safe: the machine stops. No arm raises it. -/
  | notModelled (mnemonic : String)
deriving DecidableEq, Repr

/-! ### After a cold start -/

/-- Unbound report entry (01 R1). -/
def ReportEntry.unbound : ReportEntry :=
  { bound := none, slots := List.replicate 6 none, ready := false, arrivalTime := 0, stale := false,
    base1 := none, base2 := none, rivalSeen := false, staleTimer := none }

/-- Roster entry not heard since a cold start or roster refresh (01 TABLE 1-12). -/
def RosterEntry.unheard : RosterEntry :=
  { status := .unknown, lastHeard := 0, lastReady := false, rival := false, timer := none }

/-- Empty pending demand (01 R14); the manual gives an empty demand no journey index, and 0 is the model's choice
(entry 5). -/
def PendingDemand.empty : PendingDemand := { mask := 0, index := 0, resume := 0, wait := none }

/-- Report table, roster, demands and mirror after a cold start (01 TABLE 1-12). -/
def Bus.cold : Bus :=
  { engine := .unbound, fuelFlow := .unbound, chassis := .unbound, tank := .unbound, doors := .unbound,
    lamps := .unbound, rear := .unbound, roster := List.replicate 30 .unheard,
    demands := List.replicate 30 .empty, heldSpeed := none, mirrorTimer := none }

/-- Channel at rest (02 TABLE 2-8). -/
def Channel.parked : Channel := { position := 0, mode := .park, holdCount := 0 }

/-- Gauge Drive Unit after a cold start, through STARTING (02 TABLE 2-8). -/
def Gauges.cold : Gauges :=
  { g0 := .parked, g1 := .parked, g2 := .parked, g3 := .parked, g4 := .parked, g5 := .parked,
    coilOn := false, coilOffTimer := none, dampTimer := none,
    frame := { on := false, g0 := 0, g1 := 0, g2 := 0, g3 := 0, g4 := 0, g5 := 0 } }

/-- Fuel Estimator after a cold start (03 TABLE 3-8). -/
def Fuel.cold : Fuel :=
  { mainRing := [], auxRing := [], mainEst := none, auxEst := none, residue := 0, snapPending := true,
    standstill := false, standTimer := none, pumpLong := false, pumpTimer := none, corrTimer := none,
    stopTimer := none, senderWatch := 0 }

/-- Trip just reset (04 R69). -/
def Trip.zero : Trip := { distance := 0, fuel := 0, seconds := 0 }

/-- Trip Computer after a cold start (04 TABLE 4-8); before the load the manual gives the odometer and its dirty
mark no value, and 0 and clean are the model's choice (entry 5). -/
def TripComputer.cold : TripComputer :=
  { pulseResidue := 0, odometer := 0, odoDirty := false, tripA := .zero, tripB := .zero, pulseTotal := 0,
    countTotal := 0, ring := [], instant := none, segSteps := 0, segCount := 0, rangeBasis := 180,
    tripSecondTimer := none, samplerTimer := none, speedLimit := 0 }

/-- Clock after a cold start (04 R78). -/
def Clock.cold : Clock := { minutes := 0, seconds := 0, unset := true, secondTimer := none }

/-- Journey Unit before the load (05 TABLE 5-3); the table gives the open journey, the ring and the last number by
the load alone, and none, empty and 0 until then are the model's choice (entry 5). -/
def JourneyUnit.cold : JourneyUnit :=
  { openJourney := none, residue := 0, ring := [], lastNumber := 0, headerDirty := false, openDirty := false,
    positions := List.replicate 10 { dirty := false, value := none } }

/-- Item before the load (entry 5). -/
def Item.unloaded : Item := { km := 0, hours := none, state := .counting, moved := false, dirty := false }

/-- Service Reminder Unit before the load (06 TABLE 6-4, entry 5). -/
def Service.cold : Service :=
  { items := List.replicate 8 .unloaded, hoursResidue := 0, cursor := none, repostTimer := none }

/-- Entry in IDLE with everything clear (07 TABLE 7-5). -/
def WarnEntry.clear : WarnEntry :=
  { status := .idle, count := 0, prior := .active, rechimeDue := false, chimeOut := false, msgOut := false,
    reofferTimer := none, rechimeTimer := none }

/-- Warning Unit after a cold start (07 TABLE 7-5). -/
def Warn.cold : Warn :=
  { entries := List.replicate 24 .clear, evalTimer := none, flashTimer := none, flashLit := true,
    provingTimer := none, windowTimer := none, window := false, graceTimer := none, graceEnded := false,
    engineTimer := none, engineEst := false, gateSpeed := none, review := .closed, reviewTimer := none }

/-- Chime Generator after a cold start (08 TABLE 8-4). -/
def Chime.cold : Chime := { requests := [], nextOrder := 0, element := 0, elementTimer := none }

/-- Empty message queue (09 TABLE 9-6). -/
def Messages.cold : Messages := { queue := [], nextOrder := 0, minTimer := none, maxTimer := none }

/-- Sixteen blanks (09 R141). -/
def blankChars : List Char := List.replicate 16 ' '

/-- Sixteen blanks, dark, at the brightness of an unbound BODY LAMPS entry (09 R141). -/
def Image.dark : Image := { chars := blankChars, brightness := 15, lit := false }

/-- Display after a cold start (09 R148, TABLE 9-6). -/
def Display.cold : Display :=
  { readout := 1, selB := false, journeyKm := false, altTimer := none, setMode := .none, setTimer := none,
    blinkTimer := none, blinkShown := true, displayTimer := none, image := .dark, transfer := none,
    changed := false, loaded := .dark }

/-- Keys not decoded (09 R146). -/
def Keys.cold : Keys :=
  { mode := .released, select := .released, reset := .released, note := .released, journey := .released, waking := none }

/-- Body Line Port after a cold start (10 TABLE 10-8). -/
def Port.cold : Port :=
  { queue := [], nextOrder := 0, owed := [], intake := [], sending := none, sentWhole := [], faultCount := 0,
    pauseTimer := none, holdOff := none, pulseUntil := none, wakeWanted := false, lineHeld := false,
    answer := none }

/-- Nonvolatile Store Port after a cold start, with an erased memory (11 TABLE 11-2, entry 8); the table gives the
last-written slot by the load alone, and 7 until then is the model's choice (entry 5). -/
def Nsp.cold : Nsp :=
  { queue := [], writer := .idle, loadTries := 0, loadRetry := none, lastSlot := 7, memory := [], storing := none }

/-- The part right after reset: no standby supply (12 TABLE 12-1), every field at its cold-start value
(entries 1 and 5), the external memory erased (entry 8). -/
def State.reset : State :=
  { pending := [], now := 0,
    power := { mode := .offline, startTimer := none, ignOn := false, crank := false, lowv := false,
               dip := false, settleTimer := none, sleepTimer := none, lastStart := 0 },
    straps := { address := none, variant := 0, pulseSel := 0, imperial := false },
    faults := { strap := false, store := false, clash := false, line := false, nv := false },
    bus := .cold, gauges := .cold, fuel := .cold, trip := .cold, clock := .cold, journey := .cold,
    service := .cold, warn := .cold, chime := .cold, msg := .cold, disp := .cold, keys := .cold,
    port := .cold, nsp := .cold }

end Sys2Proof.Machine
end

