-- ==== Sys2Proof/Machine/Arith.lean ====
section
/-! DEFINITION. Machine/Arith.lean: the integer arithmetic of the manual (00 "Numeric Conventions"):
division toward zero, the minimum step rule, clamping, and the conversion to imperial units (04 R73). -/

namespace Sys2Proof.Machine

/-- A filter step: the difference divided toward zero by the weight, or one unit toward the target when the
quotient is 0 and the difference is not (00 "Minimum step rule"). -/
def filterStep (difference : Int) (weight : Nat) : Int :=
  if difference.tdiv weight = 0 ∧ difference ≠ 0 then (if 0 < difference then 1 else -1)
  else difference.tdiv weight

/-- Clamp an integer to the range `lo` to `hi` (00 "Saturation and clamping"). -/
def clampInt (lo hi x : Int) : Int := max lo (min hi x)

/-- Clamp a natural number to the range `lo` to `hi`. -/
def clampNat (lo hi x : Nat) : Nat := max lo (min hi x)

/-- Add, saturating at `top` (00 "Saturation and clamping"). -/
def addSat (top x y : Nat) : Nat := min top (x + y)

/-- Metric to imperial (04 R73): tenths of km to tenths of a mile, km/h to mph, km to miles. -/
def toMiles (value : Nat) : Nat := value * 10181 / 16384

/-- The value shown under a units strap (04 R73). -/
def inUnits (imperial : Bool) (value : Nat) : Nat := if imperial then toMiles value else value

/-- Linear interpolation over a list of points, clamped at its ends (02 R22). -/
def curveAt : List (Nat × Nat) → Nat → Nat
  | [], _ => 0
  | [(_, p)], _ => p
  | (x0, p0) :: (x1, p1) :: rest, x =>
    if x ≤ x0 then p0
    else if x < x1 then p0 + (x - x0) * (p1 - p0) / (x1 - x0)
    else curveAt ((x1, p1) :: rest) x

/-- Calibrated volume of a raw sender value on a nine-point curve (03 R43). -/
def calibrate (points : List Nat) (raw : Nat) : Nat :=
  points.getD (raw / 32) 0 + (points.getD (raw / 32 + 1) 0 - points.getD (raw / 32) 0) * (raw % 32) / 32

/-- Add a sample to a ring of at most `n`, dropping the oldest when it is full (03 R44, 04 R74). -/
def pushRing {α : Type} (n : Nat) (ring : List α) (x : α) : List α :=
  if ring.length < n then ring ++ [x] else ring.drop 1 ++ [x]

/-- Average of a ring, floored (03 R45); 0 for an empty ring, which no rule reads. -/
def ringAverage (ring : List Nat) : Nat := ring.sum / ring.length

/-- Change the element at a place of a list, if there is one. -/
def modifyAt {α : Type} (i : Nat) (f : α → α) : List α → List α
  | [] => []
  | x :: xs => match i with
    | 0 => f x :: xs
    | i + 1 => x :: modifyAt i f xs

/-- A slot read as a number; an invalid slot holds 0 (01 R4). -/
def slotNat (s : Slot) : Nat := (s.getD 0).toNat

/-- A numbered slot, 1 to 6, of a list of slots. -/
def slotAt (slots : List Slot) (i : Nat) : Slot := (slots.getD (i - 1) none)

/-- The word of a signed number as two's complement (11 "The Word Map"). -/
def wordOfInt (x : Int) : Word := BitVec.ofInt 16 x

end Sys2Proof.Machine
end

