-- ==== Sys2Proof/Machine/Tables.lean ====
section
/-! DEFINITION. Machine/Tables.lean: the tables fixed in the mask: frame kinds (10 TABLE 10-2), report
kinds (01 TABLES 1-5, 1-7), gauges and curves (02 TABLES 2-1, 2-2), tanks (03 TABLES 3-1, 3-3), the pulse
constant (04 TABLE 4-1), service items (06 TABLE 6-1), warnings (07 TABLE 7-2) and chime patterns
(08 TABLE 8-1). -/

namespace Sys2Proof.Machine

/-! ### Frame kinds -/

/-- Every kind of 10 TABLE 10-2. -/
def allKinds : List FrameKind :=
  [.rollCall, .presence, .engine, .fuelFlow, .chassis, .tank, .bodyDoors, .bodyLamps, .rearConsole,
   .clusterMirror, .tripSummary, .serviceStatus, .chimeStatus, .journeyRecord, .demand, .chimeRequest,
   .notice, .transferStop, .serviceReset, .journeyClear, .restartRequest, .clockSet]

/-- Kind code (10 TABLE 10-2). -/
def kindCode : FrameKind → Byte
  | .rollCall => 0x10
  | .presence => 0x11
  | .engine => 0x20
  | .fuelFlow => 0x21
  | .chassis => 0x28
  | .tank => 0x30
  | .bodyDoors => 0x38
  | .bodyLamps => 0x39
  | .rearConsole => 0x40
  | .clusterMirror => 0x50
  | .tripSummary => 0x51
  | .serviceStatus => 0x52
  | .chimeStatus => 0x53
  | .journeyRecord => 0x55
  | .demand => 0x60
  | .chimeRequest => 0x61
  | .notice => 0x62
  | .transferStop => 0x63
  | .serviceReset => 0x64
  | .journeyClear => 0x65
  | .restartRequest => 0x66
  | .clockSet => 0x67

/-- Class of a kind (10 TABLE 10-2). -/
def kindClass : FrameKind → Nat
  | .rollCall | .presence => 6
  | .engine | .chassis => 2
  | .fuelFlow | .tank | .bodyDoors | .bodyLamps | .rearConsole | .clusterMirror => 3
  | .tripSummary => 5
  | .serviceStatus | .chimeStatus => 4
  | .journeyRecord => 7
  | .restartRequest => 0
  | .demand | .chimeRequest | .notice | .transferStop | .serviceReset | .journeyClear | .clockSet => 1

/-- Slots carried by a kind (10 TABLE 10-2). -/
def kindSlots : FrameKind → Nat
  | .rollCall | .transferStop | .journeyClear => 0
  | .presence | .serviceReset | .restartRequest | .clockSet => 1
  | .fuelFlow | .bodyDoors | .rearConsole | .chimeStatus | .demand | .chimeRequest | .notice => 2
  | .chassis | .tank | .bodyLamps | .serviceStatus => 3
  | .engine | .clusterMirror => 5
  | .tripSummary | .journeyRecord => 6

/-- The kind of a code, none for a code not in 10 TABLE 10-2. -/
def kindOfCode (code : Byte) : Option FrameKind := allKinds.find? (fun k => kindCode k = code)

/-- The frame kind of a report kind. -/
def reportFrameKind : ReportKind → FrameKind
  | .engine => .engine
  | .fuelFlow => .fuelFlow
  | .chassis => .chassis
  | .tank => .tank
  | .bodyDoors => .bodyDoors
  | .bodyLamps => .bodyLamps
  | .rearConsole => .rearConsole

/-- The report kind of a frame kind, none for a kind that is no report. -/
def reportKindOf : FrameKind → Option ReportKind
  | .engine => some .engine
  | .fuelFlow => some .fuelFlow
  | .chassis => some .chassis
  | .tank => some .tank
  | .bodyDoors => some .bodyDoors
  | .bodyLamps => some .bodyLamps
  | .rearConsole => some .rearConsole
  | _ => none

/-- Stale limit in ms (01 TABLE 1-5). -/
def staleLimit : ReportKind → Nat
  | .engine | .chassis => 1000
  | .fuelFlow | .tank | .bodyDoors | .bodyLamps => 1500
  | .rearConsole => 2000

/-! ### Gauges -/

/-- Constants of a gauge channel (02 TABLE 2-1). -/
structure GaugeSpec where
  sweep : Nat
  shift : Nat
  slew : Nat
  zeroAngle : Nat
deriving DecidableEq, Repr

/-- 02 TABLE 2-1. -/
def gaugeSpec : Gauge → GaugeSpec
  | .g0 => { sweep := 720, shift := 2, slew := 24, zeroAngle := 880 }
  | .g1 => { sweep := 720, shift := 1, slew := 48, zeroAngle := 880 }
  | .g2 => { sweep := 256, shift := 4, slew := 4, zeroAngle := 896 }
  | .g3 => { sweep := 256, shift := 5, slew := 2, zeroAngle := 896 }
  | .g4 => { sweep := 256, shift := 2, slew := 16, zeroAngle := 896 }
  | .g5 => { sweep := 256, shift := 4, slew := 4, zeroAngle := 896 }

/-- The report kind and slot a gauge reads; none for G2, which reads usable fuel (02 TABLE 2-1). -/
def gaugeSlot : Gauge → Option (ReportKind × Nat)
  | .g0 => some (.chassis, 2)
  | .g1 => some (.engine, 1)
  | .g2 => none
  | .g3 => some (.engine, 2)
  | .g4 => some (.engine, 3)
  | .g5 => some (.engine, 4)

/-- Transfer curve of a gauge for the straps (02 TABLE 2-2); G2 has none. -/
def gaugeCurve (straps : Straps) : Gauge → List (Nat × Nat)
  | .g0 => if straps.imperial then [(0, 0), (2414, 720)] else [(0, 0), (2400, 720)]
  | .g1 => if straps.variant.toNat ≤ 1 then [(0, 0), (7000, 720)] else [(0, 0), (6000, 720)]
  | .g2 => []
  | .g3 => [(120, 0), (220, 128), (290, 128), (340, 240), (360, 256)]
  | .g4 => if straps.variant.toNat ≤ 1 then [(0, 0), (100, 64), (500, 256)] else [(0, 0), (100, 64), (600, 256)]
  | .g5 => [(80, 0), (110, 48), (150, 208), (160, 256)]

/-! ### Tanks -/

/-- Capacities and reserves of a body variant in dL; no auxiliary tank reads as absent (03 TABLE 3-1). -/
structure TankSpec where
  mainCapacity : Nat
  mainReserve : Nat
  aux : Option (Nat × Nat)
deriving DecidableEq, Repr

/-- 03 TABLE 3-1, the auxiliary tank as capacity and reserve. -/
def tankSpec (variant : BitVec 2) : TankSpec :=
  match variant.toNat with
  | 0 => { mainCapacity := 950, mainReserve := 40, aux := none }
  | 1 => { mainCapacity := 950, mainReserve := 40, aux := some (600, 30) }
  | 2 => { mainCapacity := 1140, mainReserve := 50, aux := some (600, 30) }
  | _ => { mainCapacity := 1140, mainReserve := 50, aux := some (900, 40) }

/-- Usable capacity: capacity less reserve over the tanks the variant has (03 R42). -/
def usableCapacity (variant : BitVec 2) : Nat :=
  (tankSpec variant).mainCapacity - (tankSpec variant).mainReserve
    + (match (tankSpec variant).aux with | some (c, r) => c - r | none => 0)

/-- Calibration curve of the main tank, P0 to P8 (03 TABLE 3-3). -/
def mainCurve (variant : BitVec 2) : List Nat :=
  match variant.toNat with
  | 0 => [0, 60, 160, 280, 410, 540, 670, 810, 950]
  | 1 => [0, 55, 150, 270, 400, 535, 670, 810, 950]
  | 2 => [0, 70, 190, 330, 490, 650, 810, 980, 1140]
  | _ => [0, 70, 190, 330, 490, 650, 810, 975, 1140]

/-- Calibration curve of the auxiliary tank, none for variant 0 (03 TABLE 3-3). -/
def auxCurve (variant : BitVec 2) : Option (List Nat) :=
  match variant.toNat with
  | 0 => none
  | 1 => some [0, 40, 110, 190, 280, 370, 450, 530, 600]
  | 2 => some [0, 50, 120, 200, 290, 380, 460, 535, 600]
  | _ => some [0, 60, 160, 280, 410, 540, 660, 780, 900]

/-! ### Pulse constant -/

/-- Pulses per kilometre (04 TABLE 4-1). -/
def pulseConstant (sel : BitVec 2) : Nat :=
  match sel.toNat with
  | 0 => 2500
  | 1 => 3000
  | 2 => 4000
  | _ => 5000

/-- Pulses per distance step (04 R61). -/
def pulsesPerStep (sel : BitVec 2) : Nat := pulseConstant sel / 10

/-! ### Service items -/

/-- Km interval of item 1 to 8 (06 TABLE 6-1). -/
def kmInterval (variant : BitVec 2) (item : Nat) : Nat :=
  match item with
  | 1 => if variant.toNat ≤ 1 then 5000 else 4000
  | 2 => 10000
  | 3 => 5000
  | 4 => 30000
  | 5 => 10000
  | 6 => 20000
  | 7 => 30000
  | 8 => 20000
  | _ => 0

/-- Hours interval in tenths of item 1 to 8, none for items 3 to 6 (06 TABLE 6-1). -/
def hoursInterval (variant : BitVec 2) (item : Nat) : Option Nat :=
  match item with
  | 1 => if variant.toNat ≤ 1 then some 1500 else some 1200
  | 2 => some 3000
  | 7 => some 15000
  | 8 => some 6000
  | _ => none

/-! ### Warnings -/

/-- Warning classes (07 TABLE 7-1). -/
inductive WarnClass where
  | severe | caution | advisory | reminder
deriving DecidableEq, Repr

/-- Gates (07 TABLE 7-3). -/
inductive Gate where
  | any | run | engine | moving | cruise | stopped | off | window8
deriving DecidableEq, Repr

/-- Sources of entries (07 TABLE 7-2, R114). -/
inductive WarnInput where
  | slot (kind : ReportKind) (slot : Nat)
  | usableFuel
  | auxEmpty
  | senderWatch
  | dueCount
  | overdueCount
  | gateSpeed
  | faultCount
  | staleEntry (kind : ReportKind)
deriving DecidableEq, Repr

/-- Tests of entries (07 R111 to R113); `speedLimit` is AT-OR-ABOVE with ten times the speed limit as its
level, false while the limit is 0. -/
inductive WarnTest where
  | mask (mask pattern : Word) (equalIsTrue : Bool)
  | atOrAbove (level hysteresis : Nat)
  | atOrBelow (level hysteresis : Nat)
  | speedLimit (hysteresis : Nat)
  | stale
deriving DecidableEq, Repr

/-- Entry definition (07 TABLE 7-1). `lamp` is the lamp number and whether it flashes. -/
structure WarnDef where
  input : WarnInput
  test : WarnTest
  gate : Gate
  debounce : Nat
  companion : Option Nat
  lamp : Option (Nat × Bool)
  cls : Option WarnClass
  chime : Option (ChimePattern × Nat)
deriving DecidableEq, Repr

/-- 07 TABLE 7-2, by entry number; every number but 1 to 22 and 24 reads as the helper's row, and only 23
is asked for among those. -/
def warnDef : Nat → WarnDef
  | 1 => ⟨.slot .engine 3, .atOrBelow 50 20, .engine, 3, none, some (0, false), some .severe, some (.fast, 0)⟩
  | 2 => ⟨.slot .engine 2, .atOrAbove 330 8, .run, 5, none, some (1, false), some .severe, some (.fast, 0)⟩
  | 3 => ⟨.slot .engine 4, .atOrBelow 118 5, .engine, 10, none, some (2, false), some .caution, some (.triple, 1)⟩
  | 4 => ⟨.slot .chassis 3, .mask 0x0001 0x0001 true, .run, 5, none, some (3, false), some .severe, some (.fast, 0)⟩
  | 5 => ⟨.slot .chassis 3, .mask 0x0002 0x0002 true, .moving, 3, none, some (3, true), some .caution, some (.slow, 0)⟩
  | 6 => ⟨.usableFuel, .atOrBelow 100 20, .run, 4, none, some (4, false), some .advisory, some (.triple, 1)⟩
  | 7 => ⟨.auxEmpty, .atOrAbove 1 0, .run, 1, none, some (4, true), some .caution, some (.triple, 1)⟩
  | 8 => ⟨.senderWatch, .atOrAbove 100 0, .run, 1, none, some (11, false), some .advisory, some (.single, 1)⟩
  | 9 => ⟨.slot .bodyDoors 1, .mask 0x003F 0x0000 false, .moving, 3, none, some (5, true), some .caution, some (.fast, 0)⟩
  | 10 => ⟨.slot .bodyDoors 1, .mask 0x003F 0x0000 false, .stopped, 3, none, some (5, false), some .advisory, none⟩
  | 11 => ⟨.slot .bodyDoors 2, .mask 0x0001 0x0000 true, .window8, 1, none, some (6, true), some .reminder, some (.slow, 6)⟩
  | 12 => ⟨.slot .bodyDoors 2, .mask 0x0001 0x0000 true, .cruise, 20, none, some (6, true), some .caution, some (.slow, 0)⟩
  | 13 => ⟨.slot .bodyDoors 1, .mask 0x0101 0x0101 true, .off, 1, none, none, some .reminder, some (.slow, 0)⟩
  | 14 => ⟨.slot .bodyLamps 1, .mask 0x0001 0x0001 true, .off, 1, some 23, none, some .advisory, some (.fast, 0)⟩
  | 15 => ⟨.slot .bodyLamps 1, .mask 0x0008 0x0008 true, .run, 10, none, some (8, false), some .reminder, some (.single, 1)⟩
  | 16 => ⟨.slot .bodyLamps 1, .mask 0x0004 0x0004 true, .run, 10, none, some (9, false), some .advisory, some (.single, 1)⟩
  | 17 => ⟨.slot .bodyLamps 2, .atOrBelow 86 2, .run, 20, none, some (10, false), some .advisory, some (.single, 1)⟩
  | 18 => ⟨.staleEntry .engine, .stale, .run, 4, none, some (11, false), some .caution, some (.triple, 1)⟩
  | 19 => ⟨.staleEntry .chassis, .stale, .run, 4, none, some (11, false), some .caution, some (.triple, 1)⟩
  | 20 => ⟨.dueCount, .atOrAbove 1 0, .run, 1, none, some (7, false), some .reminder, some (.single, 1)⟩
  | 21 => ⟨.overdueCount, .atOrAbove 1 0, .run, 1, none, some (7, true), some .advisory, some (.triple, 1)⟩
  | 22 => ⟨.gateSpeed, .speedLimit 20, .moving, 10, none, none, some .advisory, some (.triple, 1)⟩
  | 24 => ⟨.faultCount, .atOrAbove 1 0, .run, 1, none, some (11, false), some .advisory, some (.single, 1)⟩
  | _ => ⟨.slot .bodyDoors 1, .mask 0x0001 0x0001 true, .any, 1, none, none, none, none⟩

/-- The entry numbers (07 R109). -/
def warnNumbers : List Nat :=
  [1, 2, 3, 4, 5, 6, 7, 8, 9, 10, 11, 12, 13, 14, 15, 16, 17, 18, 19, 20, 21, 22, 23, 24]

/-- Entries sourced from a report kind, in entry order (07 TABLE 7-2, entry 6). -/
def reportEntries : ReportKind → List Nat
  | .engine => [1, 2, 3]
  | .fuelFlow => []
  | .chassis => [4, 5]
  | .tank => []
  | .bodyDoors => [9, 10, 11, 12, 13, 23]
  | .bodyLamps => [14, 15, 16, 17]
  | .rearConsole => []

/-- Entries evaluated at the evaluation timer, in entry order (07 R110, R114, entry 6). -/
def timedEntries : List Nat := [6, 7, 8, 18, 19, 20, 21, 22, 24]

/-- Priority of a class, for chimes and messages alike (07 R119). -/
def classPriority : WarnClass → Nat
  | .severe => 1
  | .caution => 2
  | .advisory => 4
  | .reminder => 5

/-! ### Chime patterns -/

/-- Elements of a pattern (08 TABLE 8-1). -/
inductive Element where
  | high | low | gap
deriving DecidableEq, Repr

/-- Elements of one repetition with their durations in ms; CONTINUOUS has one without end, given here with
no duration to time (08 TABLE 8-1). -/
def patternElements : ChimePattern → List (Element × Nat)
  | .single => [(.high, 250)]
  | .triple => [(.high, 150), (.gap, 150), (.high, 150), (.gap, 150), (.high, 150)]
  | .slow => [(.low, 150)]
  | .fast => [(.high, 100)]
  | .continuous => [(.high, 0)]
  | .twoTone => [(.high, 200), (.low, 200)]
  | .call => [(.low, 120), (.gap, 40), (.high, 240)]
  | .click => [(.high, 10)]

/-- Trailing gap in ms; CONTINUOUS has none (08 TABLE 8-1). -/
def trailingGap : ChimePattern → Nat
  | .single => 250
  | .triple => 150
  | .slow => 850
  | .fast => 200
  | .continuous => 0
  | .twoTone => 600
  | .call => 800
  | .click => 250

/-- Pattern number (08 TABLE 8-1). -/
def patternCode : ChimePattern → Nat
  | .single => 0
  | .triple => 1
  | .slow => 2
  | .fast => 3
  | .continuous => 4
  | .twoTone => 5
  | .call => 6
  | .click => 7

/-- The pattern of a number, none above 7 (08 TABLE 8-1). -/
def patternOfCode : Nat → Option ChimePattern
  | 0 => some .single
  | 1 => some .triple
  | 2 => some .slow
  | 3 => some .fast
  | 4 => some .continuous
  | 5 => some .twoTone
  | 6 => some .call
  | 7 => some .click
  | _ => none

/-- Source code in CHIME STATUS (08 TABLE 8-3). -/
def chimeSourceCode : ChimeSource → Nat
  | .warning n => n
  | .peer n => 32 + n
  | .rearCall => 64
  | .keyClick => 65

/-! ### Notices -/

/-- Notice texts 0 to 15 exist; 16 to 63 are empty entries (09 TABLE 9-3). -/
def noticeExists (n : Nat) : Bool := n ≤ 15

end Sys2Proof.Machine
end

