-- ==== Sys2Proof/Machine/Ops.lean ====
section
/-! DEFINITION. Machine/Ops.lean: the named operations over timers, power state, report entries, roster,
demands, warning entries, channels, items and the external memory. Every other file reads and writes the
state's lists and banks through these. -/

namespace Sys2Proof.Machine

/-! ### Time and timers (entry 2, entry 3) -/

/-- A timer started now for `ms` milliseconds. -/
def startFor (s : State) (ms : Nat) : Timer := some (s.now + ms)

/-- The timer runs. -/
def runs (t : Timer) : Bool := t.isSome

/-- A PWM frame begins with the switch and the positions of the moment (02 R37). -/
def beginFrame (g : Gauges) : PwmFrame :=
  { on := g.coilOn, g0 := g.g0.position, g1 := g.g1.position, g2 := g.g2.position, g3 := g.g3.position,
    g4 := g.g4.position, g5 := g.g5.position }

/-- The passing of one millisecond: the model's meaning of a step on an empty queue. PWM frames end and begin in
it, sixteen and more of them (02 R37, entry 2, entry 24). -/
def tick (s : State) : State :=
  { s with now := s.now + Config.tickMs, gauges := { s.gauges with frame := beginFrame s.gauges } }

/-! ### Power state -/

/-- RUN or WATCH. -/
def awake (s : State) : Bool :=
  match s.power.mode with
  | .run | .watch => true
  | _ => false

/-- The body line port receives frames: from the start of LISTEN, in RUN and in WATCH (10 R164). -/
def receives (s : State) : Bool :=
  match s.power.mode with
  | .starting .listen | .run | .watch => true
  | _ => false

/-- The part has its standby supply (12 TABLE 12-1). -/
def powered (s : State) : Bool := s.power.mode ≠ .offline

/-- The store port may write and records are offered: after the load, but not in SLEEP (05 R89, 06 R101). -/
def storeOpen (s : State) : Bool := receives s

/-- The part may queue frames of its own: in RUN and WATCH, unless listen-only (01 R18, 10 R163). -/
def mayQueue (s : State) : Bool := awake s && s.straps.address.isSome

/-! ### Report entries -/

/-- The report entry of a kind (01 R1). -/
def entryOf (b : Bus) : ReportKind → ReportEntry
  | .engine => b.engine
  | .fuelFlow => b.fuelFlow
  | .chassis => b.chassis
  | .tank => b.tank
  | .bodyDoors => b.doors
  | .bodyLamps => b.lamps
  | .rearConsole => b.rear

/-- Put the report entry of a kind. -/
def setEntry (k : ReportKind) (e : ReportEntry) (b : Bus) : Bus :=
  match k with
  | .engine => { b with engine := e }
  | .fuelFlow => { b with fuelFlow := e }
  | .chassis => { b with chassis := e }
  | .tank => { b with tank := e }
  | .bodyDoors => { b with doors := e }
  | .bodyLamps => { b with lamps := e }
  | .rearConsole => { b with rear := e }

/-- Change every report entry by a rule of its kind. -/
def mapEntries (f : ReportKind → ReportEntry → ReportEntry) (b : Bus) : Bus :=
  { b with
    engine := f .engine b.engine, fuelFlow := f .fuelFlow b.fuelFlow, chassis := f .chassis b.chassis,
    tank := f .tank b.tank, doors := f .bodyDoors b.doors, lamps := f .bodyLamps b.lamps,
    rear := f .rearConsole b.rear }

/-- The report entry of a kind in the state. -/
def entryIn (s : State) (k : ReportKind) : ReportEntry := entryOf s.bus k

/-- A bound entry that is not stale is fresh (01 R1). -/
def fresh (e : ReportEntry) : Bool := e.bound.isSome && !e.stale

/-- A slot of an entry as a consumer reads it that wants it bound, not stale and valid (02 R21, 03 R49). -/
def freshSlot (s : State) (k : ReportKind) (i : Nat) : Slot :=
  if fresh (entryIn s k) then slotAt (entryIn s k).slots i else none

/-! ### Roster and demands, by station number 1 to 30 -/

/-- A station number that may be heard (10 TABLE 10-1). -/
def isStation (n : Nat) : Bool := 1 ≤ n && n ≤ Config.stations

/-- Roster entry of a station. -/
def rosterOf (s : State) (n : Nat) : RosterEntry :=
  if isStation n then s.bus.roster.getD (n - 1) .unheard else .unheard

/-- Change the roster entry of a station. -/
def modifyRoster (n : Nat) (f : RosterEntry → RosterEntry) (s : State) : State :=
  if isStation n then { s with bus := { s.bus with roster := modifyAt (n - 1) f s.bus.roster } } else s

/-- Pending demand of a station. -/
def demandOf (s : State) (n : Nat) : PendingDemand :=
  if isStation n then s.bus.demands.getD (n - 1) .empty else .empty

/-- Change the pending demand of a station. -/
def modifyDemand (n : Nat) (f : PendingDemand → PendingDemand) (s : State) : State :=
  if isStation n then { s with bus := { s.bus with demands := modifyAt (n - 1) f s.bus.demands } } else s

/-! ### Gauge channels -/

/-- Channel of a gauge. -/
def channelOf (g : Gauges) : Gauge → Channel
  | .g0 => g.g0
  | .g1 => g.g1
  | .g2 => g.g2
  | .g3 => g.g3
  | .g4 => g.g4
  | .g5 => g.g5

/-- Change every channel by a rule of its gauge. -/
def mapChannels (f : Gauge → Channel → Channel) (g : Gauges) : Gauges :=
  { g with
    g0 := f .g0 g.g0, g1 := f .g1 g.g1, g2 := f .g2 g.g2, g3 := f .g3 g.g3, g4 := f .g4 g.g4,
    g5 := f .g5 g.g5 }

/-- Every pointer at 0 (02 R39). -/
def allAtRest (g : Gauges) : Bool :=
  g.g0.position = 0 && g.g1.position = 0 && g.g2.position = 0 && g.g3.position = 0 && g.g4.position = 0
    && g.g5.position = 0

/-! ### Warning entries, by number 1 to 24 -/

/-- A warning entry number (07 R109). -/
def isWarning (n : Nat) : Bool := 1 ≤ n && n ≤ 24

/-- Warning entry of a number. -/
def warnEntry (s : State) (n : Nat) : WarnEntry :=
  if isWarning n then s.warn.entries.getD (n - 1) .clear else .clear

/-- Change the warning entry of a number. -/
def modifyWarn (n : Nat) (f : WarnEntry → WarnEntry) (s : State) : State :=
  if isWarning n then { s with warn := { s.warn with entries := modifyAt (n - 1) f s.warn.entries } } else s

/-! ### Service items, by number 1 to 8 -/

/-- The item numbers (06 TABLE 6-1). -/
def itemNumbers : List Nat := [1, 2, 3, 4, 5, 6, 7, 8]

/-- An item number. -/
def isItem (i : Nat) : Bool := 1 ≤ i && i ≤ 8

/-- Item of a number. -/
def itemOf (s : State) (i : Nat) : Item :=
  if isItem i then s.service.items.getD (i - 1) .unloaded else .unloaded

/-- Change the item of a number. -/
def modifyItem (i : Nat) (f : Item → Item) (s : State) : State :=
  if isItem i then { s with service := { s.service with items := modifyAt (i - 1) f s.service.items } } else s

/-! ### Keys -/

/-- State of a key. -/
def keyOf (k : Keys) : Key → KeyState
  | .mode => k.mode
  | .select => k.select
  | .reset => k.reset
  | .note => k.note
  | .journey => k.journey

/-- Put the state of a key. -/
def setKey (key : Key) (v : KeyState) (k : Keys) : Keys :=
  match key with
  | .mode => { k with mode := v }
  | .select => { k with select := v }
  | .reset => { k with reset := v }
  | .note => { k with note := v }
  | .journey => { k with journey := v }

/-! ### The external memory (11 R165, TABLE 11-1, entry 8) -/

/-- What an erased word reads as (11 "The Word Map"). -/
def erasedWord : Word := 0xFFFF

/-- The word at an address; an unlisted address is erased. -/
def readWord : List (Nat × Word) → Nat → Word
  | [], _ => erasedWord
  | (b, w) :: rest, a => if a = b then w else readWord rest a

/-- Store a word at an address, keeping addresses rising and erased words unlisted. -/
def writeWord (a : Nat) (v : Word) : List (Nat × Word) → List (Nat × Word)
  | [] => if v = erasedWord then [] else [(a, v)]
  | (b, w) :: rest =>
    if a < b then (if v = erasedWord then (b, w) :: rest else (a, v) :: (b, w) :: rest)
    else if a = b then (if v = erasedWord then rest else (a, v) :: rest)
    else (b, w) :: writeWord a v rest

/-- Addresses from `low` up, strictly rising and below 128, with no erased word listed. -/
def memoryRises (low : Nat) : List (Nat × Word) → Bool
  | [] => true
  | (b, w) :: rest => low ≤ b && b < Config.memoryWords && w ≠ erasedWord && memoryRises (b + 1) rest

/-- The canonical form of the external memory. -/
def memoryWf (m : List (Nat × Word)) : Bool := memoryRises 0 m

end Sys2Proof.Machine
end

