-- ==== Sys2Proof/Machine/Flags.lean ====
section
/-! DEFINITION. Machine/Flags.lean: the flags and conditions that are computed from the state: the
cluster-fault flags, hush, brightness, usable fuel, the aux-empty condition, the car-stopped tests, the
service counts and the warning gates. -/

namespace Sys2Proof.Machine

/-! ### Cluster-fault flags -/

/-- The flag rival: any report entry with rival seen, or any roster entry with its rival flag (01 R3). -/
def rivalFlag (s : State) : Bool :=
  s.bus.engine.rivalSeen || s.bus.fuelFlow.rivalSeen || s.bus.chassis.rivalSeen || s.bus.tank.rivalSeen
    || s.bus.doors.rivalSeen || s.bus.lamps.rivalSeen || s.bus.rear.rivalSeen
    || s.bus.roster.any (fun r => r.rival)

/-- How many of the six cluster-fault flags are set (07 R112). -/
def faultCount (s : State) : Nat :=
  (if s.faults.strap then 1 else 0) + (if s.faults.store then 1 else 0) + (if s.faults.clash then 1 else 0)
    + (if s.faults.line then 1 else 0) + (if s.faults.nv then 1 else 0) + (if rivalFlag s then 1 else 0)

/-! ### Readings of the report table -/

/-- Hush: REAR CONSOLE bound, not stale, flags slot valid with bit0 set (08 R132). -/
def hush (s : State) : Bool :=
  match freshSlot s .rearConsole 2 with
  | some v => v.getLsbD 0
  | none => false

/-- Headlamps are reported on: BODY LAMPS bound, not stale, slot 1 valid with bit1 set (09 R141). -/
def headlampsOn (s : State) : Bool :=
  match freshSlot s .bodyLamps 1 with
  | some v => v.getLsbD 1
  | none => false

/-- Display brightness 0 to 15 (09 R141). -/
def brightness (s : State) : Nat :=
  if headlampsOn s then
    (match freshSlot s .bodyLamps 3 with
     | some v => min 15 v.toNat
     | none => 15)
  else 15

/-- Road speed of a fresh CHASSIS entry, none when it is in doubt (05 R84, R91). -/
def roadSpeed (s : State) : Option Nat := (freshSlot s .chassis 2).map (fun v => v.toNat)

/-- The car is stopped: fresh CHASSIS entry, road speed valid and below 50 (05 R91). -/
def carStopped (s : State) : Bool :=
  match roadSpeed s with
  | some v => v < 50
  | none => false

/-- Road speed is 0 (06 R106). -/
def carStandsStill (s : State) : Bool :=
  match roadSpeed s with
  | some v => v = 0
  | none => false

/-- A tank flag of a fresh TANK entry with slot 3 valid; clear otherwise (03 R49). -/
def tankFlag (s : State) (bit : Nat) : Bool :=
  match freshSlot s .tank 3 with
  | some v => v.getLsbD bit
  | none => false

/-- The transfer pump runs (03 R49). -/
def pumpRuns (s : State) : Bool := tankFlag s 0

/-- The filler door is open (03 R49). -/
def doorOpen (s : State) : Bool := tankFlag s 1

/-! ### Fuel -/

/-- Usable fuel U in dL, undefined while M is undefined (03 R53). -/
def usableFuel (s : State) : Option Nat :=
  match s.fuel.mainEst with
  | none => none
  | some m =>
    some (m - (tankSpec s.straps.variant).mainReserve
      + (match (tankSpec s.straps.variant).aux, s.fuel.auxEst with
         | some (_, reserve), some x => x - reserve
         | _, _ => 0))

/-- The aux-empty condition (03 R56). -/
def auxEmpty (s : State) : Bool :=
  match (tankSpec s.straps.variant).aux, s.fuel.auxEst with
  | some (_, reserve), some x => x ≤ reserve + 10 && s.fuel.pumpLong
  | _, _ => false

/-! ### Service counts (06 R100) -/

/-- Items in DUE or OVERDUE. -/
def dueCount (s : State) : Nat :=
  s.service.items.countP (fun i => i.state = .due || i.state = .overdue)

/-- Items in OVERDUE. -/
def overdueCount (s : State) : Nat := s.service.items.countP (fun i => i.state = .overdue)

/-! ### Warning gates (07 R115) -/

/-- The RUN gate: RUN with lamp proving ended. -/
def runGate (s : State) : Bool := s.power.mode = .run && !runs s.warn.provingTimer

/-- A gate's truth (07 TABLE 7-3). -/
def gateTrue (s : State) : Gate → Bool
  | .any => awake s
  | .run => runGate s
  | .engine => runGate s && s.warn.engineEst && !s.power.dip
  | .moving => runGate s && (match s.warn.gateSpeed with | some v => 50 ≤ v.toNat | none => false)
  | .cruise => runGate s && (match s.warn.gateSpeed with | some v => 200 ≤ v.toNat | none => false)
  | .stopped => runGate s && (match s.warn.gateSpeed with | some v => v.toNat < 50 | none => false)
  | .off => s.power.mode = .watch
  | .window8 => runGate s && s.warn.window

/-- An entry is raised: ACTIVE or NOTED. -/
def raised (e : WarnEntry) : Bool := e.status = .active || e.status = .noted

/-- An entry's lamp is held lit: ACTIVE, NOTED or CLEARING (07 R123). -/
def holdsLamp (e : WarnEntry) : Bool := e.status = .active || e.status = .noted || e.status = .clearing

/-- An entry is in ACTIVE, or in CLEARING from it (07 R123). -/
def unacknowledged (e : WarnEntry) : Bool :=
  e.status = .active || (e.status = .clearing && e.prior = .active)

/-- An entry is NOTED, or in CLEARING from it: the review shows it (07 R125). -/
def reviewable (e : WarnEntry) : Bool := e.status = .noted || (e.status = .clearing && e.prior = .noted)

/-! ### Display state -/

/-- The display is lit: in RUN, and in WATCH while the display timer runs (09 R141). -/
def displayLit (s : State) : Bool :=
  s.power.mode = .run || (s.power.mode = .watch && runs s.disp.displayTimer)

/-- The SHOWING record of the message queue (09 R140). -/
def showingRecord (s : State) : Option MsgRecord := s.msg.queue.find? (fun r => r.showing)

/-- The SOUNDING request of the chime set (08 R133). -/
def soundingRequest (s : State) : Option ChimeRequest := s.chime.requests.find? (fun r => r.sounding)

/-- The source that has the chime output (08 R138). -/
def soundingSource (s : State) : Option ChimeSource := (soundingRequest s).map (fun r => r.source)

/-! ### The sleep test (12 R173) -/

/-- The conditions under which the sleep timer runs in WATCH. -/
def sleepConditions (s : State) : Bool :=
  s.chime.requests.isEmpty && s.nsp.queue.isEmpty && s.nsp.writer = .idle
    && !raised (warnEntry s 13) && !raised (warnEntry s 14) && !raised (warnEntry s 23)
    && !runs s.disp.displayTimer

/-- Start the sleep timer when the last condition becomes true, stop it when any is false (12 R173). -/
def settleSleep (s : State) : State :=
  if s.power.mode = .watch && sleepConditions s then
    (if runs s.power.sleepTimer then s
     else { s with power := { s.power with sleepTimer := startFor s 5000 } })
  else { s with power := { s.power with sleepTimer := none } }

end Sys2Proof.Machine
end

