-- ==== Sys2Proof/Machine/Readouts.lean ====
section
/-! DEFINITION. Machine/Readouts.lean: the derived readouts of the Trip Computer (04 R70 to R77), computed
from the state whenever they are read. -/

namespace Sys2Proof.Machine

/-- Average consumption in tenths of L/100 km, undefined below 1.0 km (04 R70). -/
def avgConsumption (t : Trip) : Option Nat :=
  if t.distance < 10 then none else some (min 999 ((t.fuel * 10 + t.distance) / (2 * t.distance)))

/-- Average economy in tenths of mpg, undefined below 1.0 km or without fuel (04 R71). -/
def avgEconomy (t : Trip) : Option Nat :=
  if t.distance < 10 || t.fuel = 0 then none
  else some (min 999 ((t.distance * 4704 + t.fuel / 2) / t.fuel))

/-- Average speed in km/h, undefined below 60 s (04 R72). -/
def avgSpeed (t : Trip) : Option Nat :=
  if t.seconds < 60 then none else some (min 999 (t.distance * 360 / t.seconds))

/-- Consumption or economy as the units strap selects (04 R70, R71). -/
def tripEconomy (imperial : Bool) (t : Trip) : Option Nat := if imperial then avgEconomy t else avgConsumption t

/-- Instantaneous consumption over the span of a full ring (04 R75). -/
def instantValue (straps : Straps) (ring : List Sample) : Option Nat :=
  match ring.head?, ring.getLast? with
  | some old, some new =>
    let dp := (new.pulses - old.pulses).toNat
    let dc := (new.counts - old.counts).toNat
    let k := pulseConstant straps.pulseSel
    if ring.length < Config.instantRing || dp < k / 100 then none
    else if straps.imperial then
      (if dc = 0 then none else some (min 999 ((dp * 47040 + k * (dc / 2)) / (k * dc))))
    else some (min 999 ((dc * k + dp) / (2 * dp)))
  | _, _ => none

/-- Range in km, undefined while U is (04 R77). -/
def rangeKm (s : State) : Option Nat :=
  (usableFuel s).map (fun u => min 1999 (u * 100 / s.trip.rangeBasis))

/-- Segment consumption, clamped to 30 to 999 (04 R76). -/
def segmentConsumption (count : Nat) : Nat := clampNat 30 999 ((count * 10 + 10) / 20)

/-- The range basis after a segment of consumption `seg` (04 R76). -/
def blendBasis (c seg : Nat) : Nat := ((c : Int) + filterStep ((seg : Int) - c) 8).toNat

/-- The trip that the selection names: A, or B (09 R148). -/
def selectedTrip (s : State) (b : Bool) : Trip := if b then s.trip.tripB else s.trip.tripA

end Sys2Proof.Machine
end

