-- ==== Sys2Proof/Machine/Wave.lean ====
section
/-! DEFINITION. Machine/Wave.lean: the quarter-wave table of the coil drive (02 R35): entry k is
floor(63 sin(90° k/256) + 0.5), written out in blocks of 32. -/

namespace Sys2Proof.Machine

/-- Entries 0 to 31 (02 R35). -/
def quarterWave0 : List Nat :=
  [0, 0, 1, 1, 2, 2, 2, 3, 3, 3, 4, 4, 5, 5, 5, 6,
   6, 7, 7, 7, 8, 8, 8, 9, 9, 10, 10, 10, 11, 11, 12, 12]

/-- Entries 32 to 63 (02 R35). -/
def quarterWave1 : List Nat :=
  [12, 13, 13, 13, 14, 14, 15, 15, 15, 16, 16, 16, 17, 17, 18, 18,
   18, 19, 19, 19, 20, 20, 20, 21, 21, 22, 22, 22, 23, 23, 23, 24]

/-- Entries 64 to 95 (02 R35). -/
def quarterWave2 : List Nat :=
  [24, 24, 25, 25, 26, 26, 26, 27, 27, 27, 28, 28, 28, 29, 29, 29,
   30, 30, 30, 31, 31, 31, 32, 32, 32, 33, 33, 33, 34, 34, 34, 35]

/-- Entries 96 to 127 (02 R35). -/
def quarterWave3 : List Nat :=
  [35, 35, 36, 36, 36, 37, 37, 37, 38, 38, 38, 38, 39, 39, 39, 40,
   40, 40, 41, 41, 41, 41, 42, 42, 42, 43, 43, 43, 43, 44, 44, 44]

/-- Entries 128 to 159 (02 R35). -/
def quarterWave4 : List Nat :=
  [45, 45, 45, 45, 46, 46, 46, 46, 47, 47, 47, 47, 48, 48, 48, 48,
   49, 49, 49, 49, 50, 50, 50, 50, 51, 51, 51, 51, 52, 52, 52, 52]

/-- Entries 160 to 191 (02 R35). -/
def quarterWave5 : List Nat :=
  [52, 53, 53, 53, 53, 53, 54, 54, 54, 54, 54, 55, 55, 55, 55, 55,
   56, 56, 56, 56, 56, 56, 57, 57, 57, 57, 57, 57, 58, 58, 58, 58]

/-- Entries 192 to 223 (02 R35). -/
def quarterWave6 : List Nat :=
  [58, 58, 58, 59, 59, 59, 59, 59, 59, 59, 60, 60, 60, 60, 60, 60,
   60, 60, 61, 61, 61, 61, 61, 61, 61, 61, 61, 61, 61, 62, 62, 62]

/-- Entries 224 to 255 (02 R35). -/
def quarterWave7 : List Nat :=
  [62, 62, 62, 62, 62, 62, 62, 62, 62, 62, 62, 62, 63, 63, 63, 63,
   63, 63, 63, 63, 63, 63, 63, 63, 63, 63, 63, 63, 63, 63, 63, 63]

/-- The 257 entries, 0 to 256 (02 R35). -/
def quarterWave : List Nat :=
  quarterWave0 ++ quarterWave1 ++ quarterWave2 ++ quarterWave3 ++ quarterWave4 ++ quarterWave5 ++ quarterWave6 ++ quarterWave7 ++ [63]

/-- Entry k (02 R35). -/
def waveAt (k : Nat) : Nat := quarterWave.getD k 0

end Sys2Proof.Machine
end

