-- ==== Sys2Proof/Machine/Outputs.lean ====
section
/-! DEFINITION. Machine/Outputs.lean: the part's output lines as functions of the state: gauge coils
(02 R34 to R37), lamps (07 R123, R124), and the chime line and volume (08 R128). Timing below one
millisecond is not stepped (entry 24). -/

namespace Sys2Proof.Machine

/-! ### Gauge coils -/

/-- Field angle of a gauge at a position (02 R34). -/
def angleAt (g : Gauge) (position : Nat) : Nat := ((gaugeSpec g).zeroAngle + position) % 1024

/-- Field angle of a channel (02 R34). -/
def fieldAngle (g : Gauge) (c : Channel) : Nat := angleAt g c.position

/-- Position with which a gauge began the PWM frame in progress (02 R37). -/
def framePosition (f : PwmFrame) : Gauge → Nat
  | .g0 => f.g0
  | .g1 => f.g1
  | .g2 => f.g2
  | .g3 => f.g3
  | .g4 => f.g4
  | .g5 => f.g5

/-- Duty of a coil and whether its polarity is negative; a duty of 0 is positive (02 R36). -/
structure CoilDrive where
  duty : Nat
  negative : Bool
deriving DecidableEq, Repr

/-- A duty of 0 has positive polarity, whatever the quadrant (02 R36). -/
def coilDrive (duty : Nat) (negative : Bool) : CoilDrive := { duty := duty, negative := negative && duty ≠ 0 }

/-- Coil A of a field angle (02 TABLE 2-7). -/
def coilA (theta : Nat) : CoilDrive :=
  match theta / 256 with
  | 0 => coilDrive (waveAt (256 - theta % 256)) false
  | 1 => coilDrive (waveAt (theta % 256)) true
  | 2 => coilDrive (waveAt (256 - theta % 256)) true
  | _ => coilDrive (waveAt (theta % 256)) false

/-- Coil B of a field angle (02 TABLE 2-7). -/
def coilB (theta : Nat) : CoilDrive :=
  match theta / 256 with
  | 0 => coilDrive (waveAt (theta % 256)) false
  | 1 => coilDrive (waveAt (256 - theta % 256)) false
  | 2 => coilDrive (waveAt (theta % 256)) true
  | _ => coilDrive (waveAt (256 - theta % 256)) true

/-- The two coils of a gauge in a PWM frame: as the frame began, released if the switch was then OFF
(02 R36, R37). -/
def frameCoils (f : PwmFrame) (g : Gauge) : CoilDrive × CoilDrive :=
  if f.on then (coilA (angleAt g (framePosition f g)), coilB (angleAt g (framePosition f g)))
  else (coilDrive 0 false, coilDrive 0 false)

/-- The two coils of a gauge in the PWM frame in progress, which a change of position or of the switch leaves as
it began (02 R37). -/
def gaugeCoils (s : State) (g : Gauge) : CoilDrive × CoilDrive := frameCoils s.gauges.frame g

/-- Level of a coil's pin in PWM step 0 to 63 of a frame, true for high: step 0 carries the polarity, steps
1 to the duty are driven (02 R37). -/
def coilPin (d : CoilDrive) (step : Nat) : Bool :=
  if step = 0 then d.negative else step ≤ d.duty

/-! ### Lamps -/

/-- The entries assigned to a lamp (07 TABLE 7-2). -/
def lampEntries (lamp : Nat) : List Nat :=
  warnNumbers.filter (fun n => match (warnDef n).lamp with | some (l, _) => l = lamp | none => false)

/-- The entry flashes its lamp (07 TABLE 7-2). -/
def lampFlashes (n : Nat) : Bool :=
  match (warnDef n).lamp with
  | some (_, f) => f
  | none => false

/-- Lamps are proved: RUN with the proving timer running (07 R124). -/
def provingLamps (s : State) : Bool := s.power.mode = .run && runs s.warn.provingTimer

/-- A lamp is lit, steady or flashing in either phase (07 R123, R124). -/
def lampLit (s : State) (lamp : Nat) : Bool :=
  awake s && (provingLamps s || (lampEntries lamp).any (fun n => holdsLamp (warnEntry s n)))

/-- A lamp flashes (07 R123). -/
def lampFlashing (s : State) (lamp : Nat) : Bool :=
  awake s && !provingLamps s
    && (lampEntries lamp).any (fun n => lampFlashes n && unacknowledged (warnEntry s n))

/-- Level of lamp output LP0 to LP11: true while the lamp is driven (07 R123). -/
def lampOutput (s : State) (lamp : Nat) : Bool :=
  lampLit s lamp && (!lampFlashing s lamp || s.warn.flashLit)

/-- The lamp word from lamp `n` up: bit n set while lamp Ln is lit (01 TABLE 1-11). -/
def lampWordFrom (s : State) (n : Nat) : Nat → Nat
  | 0 => 0
  | k + 1 => (if lampLit s n then 2 ^ n else 0) + lampWordFrom s (n + 1) k

/-- The lamp word of the mirror (01 TABLE 1-11). -/
def lampWord (s : State) : Nat := lampWordFrom s 0 12

/-! ### Chime -/

/-- The element of a pattern in progress; past the last it is the trailing gap (08 R127). -/
def elementAt (p : ChimePattern) (i : Nat) : Element × Nat := (patternElements p).getD i (.gap, trailingGap p)

/-- The tone on CHO: divider of the crystal frequency, 2,048 for the high tone and 4,096 for the low one;
none at rest (08 R128). -/
def chimeOutput (s : State) : Option Nat :=
  if awake s && !s.power.dip then
    (match soundingRequest s with
     | some r =>
       (match (elementAt r.pattern s.chime.element).1 with
        | .high => some 2048
        | .low => some 4096
        | .gap => none)
     | none => none)
  else none

/-- CVL selects full volume (08 R128). -/
def fullVolume (s : State) : Bool := s.power.mode = .run

end Sys2Proof.Machine
end

