-- ==== Sys2Proof/Machine/Build.lean ====
section
/-! DEFINITION. Machine/Build.lean: the frames the part builds, slot by slot, from the state of the moment:
CLUSTER MIRROR (01 R17), TRIP SUMMARY (04 R81), SERVICE STATUS (06 R107), CHIME STATUS (08 R138),
JOURNEY RECORD (05 R90), and those whose contents are fixed (01 R6, R13, 03 R57). -/

namespace Sys2Proof.Machine

/-- A slot valid with a number. -/
def numSlot (n : Nat) : Slot := some (wordOf n)

/-- Slots of the mirror (01 TABLE 1-11). -/
def mirrorSlots (s : State) : List Slot :=
  [s.bus.heldSpeed.map (fun v => wordOf (inUnits s.straps.imperial ((v.toNat + 5) / 10))),
   if s.clock.unset then none else numSlot s.clock.minutes,
   s.journey.openJourney.map (fun j => wordOf j.elapsed),
   numSlot (lampWord s),
   (rangeKm s).map (fun r => wordOf (inUnits s.straps.imperial r))]

/-- Slots of a trip summary, B when `b` (04 TABLE 4-7). -/
def tripSummarySlots (s : State) (b : Bool) : List Slot :=
  let t := selectedTrip s b
  [numSlot (if b then 1 else 0), numSlot (t.distance / 10), (avgConsumption t).map wordOf,
   (avgSpeed t).map wordOf, numSlot (t.seconds / 60), numSlot (min 65535 (t.fuel / 200))]

/-- State code of an item (06 R107). -/
def itemCode : ItemState → Nat
  | .counting => 0
  | .soon => 1
  | .due => 2
  | .overdue => 3

/-- Sum of the state codes, item 1 in the lowest place of base 4 (06 R107). -/
def itemStatesWord : List Item → Nat
  | [] => 0
  | i :: rest => itemCode i.state + 4 * itemStatesWord rest

/-- The item number, from `best` on, with the least remaining km, the lowest number among equals
(06 R107). -/
def nearestItem (s : State) : Nat :=
  itemNumbers.foldl (fun best i => if (itemOf s i).km < (itemOf s best).km then i else best) 1

/-- Slots of the service status (06 R107). -/
def serviceStatusSlots (s : State) : List Slot :=
  [numSlot (itemStatesWord s.service.items), numSlot (nearestItem s),
   some (wordOfInt (itemOf s (nearestItem s)).km)]

/-- Slots of the chime status (08 R138). -/
def chimeStatusSlots (s : State) : List Slot :=
  match soundingRequest s with
  | some r => [numSlot (chimeSourceCode r.source), numSlot (patternCode r.pattern)]
  | none => [none, none]

/-- Slots of a journey record at an index of the ring (05 TABLE 5-2). -/
def journeyRecordSlots (s : State) (index : Nat) : List Slot :=
  match s.journey.ring[index]? with
  | some (.good j) =>
    [numSlot j.number, j.startClock.map wordOf, numSlot j.distance, numSlot j.fuel, numSlot j.elapsed,
     numSlot j.waiting]
  | some (.damaged n) => [numSlot n, none, none, none, none, none]
  | none => [none, none, none, none, none, none]

/-- A broadcast of a kind. -/
def broadcastId (k : FrameKind) : FrameId := { kind := k, target := 0, selector := none }

/-- Identity and slots of an answer to mask bit 0 to 5 for a demander (01 TABLE 1-10). -/
def answerFrame (s : State) (station : Nat) (index : Nat) (bit : Nat) : FrameId × List Slot :=
  match bit with
  | 0 => (broadcastId .clusterMirror, mirrorSlots s)
  | 1 => ({ kind := .tripSummary, target := station, selector := some 0 }, tripSummarySlots s false)
  | 2 => ({ kind := .tripSummary, target := station, selector := some 1 }, tripSummarySlots s true)
  | 3 => ({ kind := .serviceStatus, target := station, selector := none }, serviceStatusSlots s)
  | 4 => (broadcastId .chimeStatus, chimeStatusSlots s)
  | _ => ({ kind := .journeyRecord, target := station, selector := some index }, journeyRecordSlots s index)

/-- The frame that an owner offers now; none when it has none to offer: TRANSFER STOP with the TANK entry
unbound (03 R57), and demand answers, which have their own rule (01 R15). That a TRANSFER STOP owed after a full
transmit queue is still offered when entry 7 has meanwhile left ACTIVE and NOTED is the model's choice: 03 R57 sends
it while the entry is in one of them, 10 R159 has an owner offer again until the frame is taken (entry 13). -/
def ownedFrame (s : State) : Reoffer → Option (FrameId × List Slot)
  | .presence => some (broadcastId .presence, [numSlot s.power.lastStart])
  | .rollCall => some (broadcastId .rollCall, [])
  | .staleDemand target => some ({ kind := .demand, target := target, selector := none }, [numSlot 1, none])
  | .chimeStatus => some (broadcastId .chimeStatus, chimeStatusSlots s)
  | .transferStop =>
    s.bus.tank.bound.map (fun t => ({ kind := .transferStop, target := t, selector := none }, []))
  | .answers _ => none

end Sys2Proof.Machine
end

