-- ==== Sys2Proof/Machine/Frame.lean ====
section
/-! DEFINITION. Machine/Frame.lean: frames as characters and cells, sent and received (10 TABLE 10-1,
R152, R153), the comparison of driven and read cells (R155), answer runs (R156), the command that received
characters or cells are (R153), and the bytes of the store line (11 R165). -/

namespace Sys2Proof.Machine

/-! ### Frames -/

/-- A frame's fields (10 TABLE 10-1). -/
structure Frame where
  cls : Nat
  source : Nat
  kind : Byte
  target : Nat
  ready : Bool
  first : Bool
  slots : List Slot
deriving DecidableEq, Repr

/-- Validity bits of the slots from number `k + 1` up, at most six (10 TABLE 10-1). -/
def validityBits (k : Nat) : List Slot → Nat
  | [] => 0
  | s :: rest => (if s.isSome && k < 6 then 2 ^ k else 0) + validityBits (k + 1) rest

/-- The validity character (10 TABLE 10-1). -/
def validityByte (ready first : Bool) (slots : List Slot) : Byte :=
  byteOf (validityBits 0 slots + (if ready then 64 else 0) + (if first then 128 else 0))

/-- The characters of the slots, high character first; an invalid slot is sent as 0 (10.2). -/
def slotBytes : List Slot → List Byte
  | [] => []
  | s :: rest => (s.getD 0).extractLsb' 8 8 :: (s.getD 0).extractLsb' 0 8 :: slotBytes rest

/-- Sum of characters modulo 256. -/
def charSum : List Byte → Byte
  | [] => 0
  | c :: rest => c + charSum rest

/-- The characters before the check. -/
def frameBody (f : Frame) : List Byte :=
  byteOf (f.cls * 32 + f.source) :: f.kind :: byteOf f.target :: validityByte f.ready f.first f.slots
    :: slotBytes f.slots

/-- The characters of a frame, the check making their sum 0 modulo 256 (10 TABLE 10-1). -/
def encodeFrame (f : Frame) : List Byte := frameBody f ++ [-(charSum (frameBody f))]

/-- Slots of the characters after the validity character, the last being the check (10 TABLE 10-1). -/
def readSlots (validity : Byte) (k : Nat) : List Byte → List Slot
  | hi :: lo :: rest =>
    (if k < 6 && validity.getLsbD k then some (hi ++ lo) else none) :: readSlots validity (k + 1) rest
  | _ => []

/-- The fields of received characters, with no test made. -/
def readFrame : List Byte → Option Frame
  | lead :: kind :: target :: validity :: rest =>
    some { cls := lead.toNat / 32, source := lead.toNat % 32, kind := kind, target := target.toNat,
           ready := validity.getLsbD 6, first := validity.getLsbD 7, slots := readSlots validity 0 rest }
  | _ => none

/-- The length test of a kind of 10 TABLE 10-2; a code not in it may carry any length (10 R153). -/
def lengthFits (kind : Byte) (slots : List Slot) : Bool :=
  match kindOfCode kind with
  | some k => slots.length = kindSlots k
  | none => true

/-- The heard frame of received characters, none when a test of 10 R153 fails. -/
def heardFrame (chars : List Byte) : Option Frame :=
  match readFrame chars with
  | some f =>
    if 5 ≤ chars.length && chars.length % 2 = 1 && isStation f.source && f.target ≤ Config.stations
        && charSum chars = 0 && lengthFits f.kind f.slots
    then some f else none
  | none => none

/-- What a heard frame says beside its kind and target. -/
def heardOf (f : Frame) : Heard :=
  { source := f.source, ready := f.ready, first := f.first, slots := f.slots }

/-- The command that a heard broadcast is (10 R153). -/
def broadcastCommand (f : Frame) : Instr :=
  match kindOfCode f.kind with
  | some .rollCall => .rollCall (heardOf f)
  | some .presence => .presence (heardOf f)
  | some k =>
    (match reportKindOf k with
     | some r => .reportArrival r (heardOf f)
     | none => .otherFrameHeard f.kind f.target (heardOf f))
  | none => .otherFrameHeard f.kind f.target (heardOf f)

/-- The command that a heard frame is, for a part of the given own address, none when listen-only
(10 R153). A ROLL CALL or PRESENCE addressed to another station meets two lines of R153's list; that it goes no
further, as a frame addressed to another station, is the model's choice (entry 27). -/
def frameCommand (own : Option Nat) (f : Frame) : Instr :=
  if own = some f.source then .ownAddressFrameHeard
  else if f.target = 0 then broadcastCommand f
  else if own = some f.target then .addressedFrameAnswer f.kind (heardOf f)
  else .otherFrameHeard f.kind f.target (heardOf f)

/-- The command that received characters are (10 R152, R153, entry 27). -/
def receive (own : Option Nat) (chars : List Byte) : Instr :=
  match heardFrame chars with
  | some f => frameCommand own f
  | none => .frameDiscarded .failedTest

/-! ### Cells: true is dominant (10 R152) -/

/-- Ten cells of a character: dominant start, eight data cells with the most significant bit first and 0
dominant, recessive stop (10 R152). -/
def charCells (c : Byte) : List Bool :=
  true :: (!c.getLsbD 7) :: (!c.getLsbD 6) :: (!c.getLsbD 5) :: (!c.getLsbD 4) :: (!c.getLsbD 3)
    :: (!c.getLsbD 2) :: (!c.getLsbD 1) :: (!c.getLsbD 0) :: [false]

/-- Cells of a frame, with no gap between characters (10 R152). -/
def frameCells (chars : List Byte) : List Bool := chars.flatMap charCells

/-- The cells that the part drives on the body line for what it has in progress: those of the frame being sent, or
the dominant ones left of its wake pulse, 24 at its beginning (10 R154, R162). -/
def drivenCells (s : State) : List Bool :=
  match s.port.sending with
  | some chars => frameCells chars
  | none => List.replicate (Config.cellsPerMs * (s.port.pulseUntil.getD 0 - s.now)) true

/-- Length of the dominant run at the head of cells. -/
def dominantRun : List Bool → Nat
  | true :: rest => dominantRun rest + 1
  | _ => 0

/-- Length of the longest dominant run of cells, the one that ends the cells read before being `run`. -/
def longestRun (run : Nat) : List Bool → Nat
  | [] => run
  | true :: rest => longestRun (run + 1) rest
  | false :: rest => max run (longestRun 0 rest)

/-- A dominant run of 1.5 ms or more, twelve cells, is a wake pulse (10 R152, R162). -/
def holdsPulse (cells : List Bool) : Bool := 12 ≤ longestRun 0 cells

/-- The idle gap is complete: the last twelve cells are recessive (10 R152). -/
def gapComplete (line : List Bool) : Bool := 12 ≤ line.length && (line.drop (line.length - 12)).all (fun c => !c)

/-- What the port makes of received cells: the characters of a frame, or a frame discarded in reception
(10 R152, R153). -/
inductive Reception where
  | chars (cs : List Byte)
  | discarded (cause : DiscardCause)
deriving DecidableEq, Repr

/-- A character of the frame before those that follow it. -/
def Reception.after (c : Byte) : Reception → Reception
  | .chars cs => .chars (c :: cs)
  | .discarded cause => .discarded cause

/-- Why a dominant stop cell discards the frame, by the length of the dominant run that it stands in
(10 R152). -/
def stopCause (run : Nat) : DiscardCause :=
  if 12 ≤ run then .wakePulse else if 9 < run then .longRun else .dominantStop

/-- The character of eight data cells, the most significant bit first, 0 dominant (10 R152). -/
def charOfCells (d7 d6 d5 d4 d3 d2 d1 d0 : Bool) : Byte :=
  BitVec.ofBoolListBE [!d7, !d6, !d5, !d4, !d3, !d2, !d1, !d0]

/-- Read the cells of a frame from its first start cell: ten cells at a time, up to the first stop cell that is
not followed at once by a start cell. A dominant stop cell, which every dominant run of more than 9 cells holds,
discards the frame (10 R152, R153). -/
def readChars : List Bool → Reception
  | true :: d7 :: d6 :: d5 :: d4 :: d3 :: d2 :: d1 :: d0 :: stop :: rest =>
    if stop then
      .discarded (stopCause
        (dominantRun [d0, d1, d2, d3, d4, d5, d6, d7, true] + dominantRun (stop :: rest)))
    else (readChars rest).after (charOfCells d7 d6 d5 d4 d3 d2 d1 d0)
  | _ => .chars []

/-- The command that received cells are, from a frame's first start cell; past the cells the line is recessive
(10 R152, R153). -/
def receiveCells (own : Option Nat) (cells : List Bool) : Instr :=
  match readChars (cells ++ List.replicate 10 false) with
  | .chars cs => receive own cs
  | .discarded cause => .frameDiscarded cause

/-- What comparing driven cells with the line's gives (10 R155). -/
inductive Contention where
  | carriedOn
  | lostAt (cell : Nat)
  | faultAt (cell : Nat)
deriving DecidableEq, Repr

/-- Compare cell by cell from cell `i` of the frame: within the lead (cells 0 to 9) a recessive cell read
dominant is a loss; every other difference is a readback fault (10 R155). -/
def contend (i : Nat) : List Bool → List Bool → Contention
  | s :: sent, l :: line =>
    if s = l then contend (i + 1) sent line
    else if i < 10 && !s then .lostAt i
    else .faultAt i
  | _, _ => .carriedOn

/-- Cells of the dominant run that an answer drives (10 TABLE 10-4). -/
def answerCells : Answer → Nat
  | .take => 2
  | .refuse => 4
  | .hold => 6

/-- The dominant run that begins within the first two cells of the answer slot, by its length in cells
(10 R156). -/
def answerRun : List Bool → Option Nat
  | true :: rest => some (dominantRun rest + 1)
  | false :: true :: rest => some (dominantRun rest + 1)
  | _ => none

/-- The answer a sender judges from the run begun in the first two cells of the slot; none is UNANSWERED
(10 R156, TABLE 10-4). -/
def judgeAnswer : Option Nat → Option Answer
  | none => none
  | some n =>
    if n = 0 then none else if n ≤ 3 then some .take else if n ≤ 5 then some .refuse
    else if n ≤ 8 then some .hold else none

/-! ### The store line (11 R165) -/

/-- Command byte: bit 7 set for read, bits 6 to 0 the word address (11 TABLE 11-1). -/
def storeCommand (read : Bool) (addr : Nat) : Byte := byteOf ((if read then 128 else 0) + addr % 128)

/-- The three bytes of a write: command, high byte, low byte (11 R165). -/
def storeWriteBytes (addr : Nat) (data : Word) : List Byte :=
  [storeCommand false addr, data.extractLsb' 8 8, data.extractLsb' 0 8]

/-- The two data bytes of each word read from `start` up. 11 R165 gives two bytes a word and, for a write, the high
byte first; that the memory sends the high byte first on a read too is the model's choice (entry 44). -/
def storeReadBytes (memory : List (Nat × Word)) (start : Nat) : Nat → List Byte
  | 0 => []
  | n + 1 =>
    (readWord memory start).extractLsb' 8 8 :: (readWord memory start).extractLsb' 0 8
      :: storeReadBytes memory (start + 1) n

end Sys2Proof.Machine
end

