-- ==== Sys2Proof/Machine/Transmit.lean ====
section
/-! DEFINITION. Machine/Transmit.lean: the transmit queue: offers and re-offers (10 R159), the start of an
attempt (10 R154, R159), its outcomes (10 R160), and the answering of pending demands (01 R15). -/

namespace Sys2Proof.Machine

/-! ### Offers -/

/-- An entry of this identity is queued. -/
def txPresent (id : FrameId) (q : List TxEntry) : Bool := q.any (fun e => e.id = id)

/-- An entry takes a later frame of its identity: in flight, the contents wait as its replacement
(10 R159). -/
def replaceTx (id : FrameId) (slots : List Slot) (periodic : Bool) (e : TxEntry) : TxEntry :=
  if e.id = id then
    (if e.inFlight then { e with replacement := some slots, periodic := periodic }
     else { e with slots := slots, periodic := periodic, unanswered := 0, holds := 0, retry := none })
  else e

/-- A new entry. -/
def newTx (id : FrameId) (slots : List Slot) (periodic : Bool) (order : Nat) : TxEntry :=
  { id := id, slots := slots, replacement := none, periodic := periodic, order := order, unanswered := 0,
    holds := 0, retry := none, inFlight := false }

/-- A queued mirror that is not in flight (10 R159). -/
def yieldingMirror (e : TxEntry) : Bool := e.id.kind = .clusterMirror && !e.inFlight

/-- Offer a frame to the queue: whether its owner is done with it, and the port after (10 R159). -/
def txOffer (id : FrameId) (slots : List Slot) (periodic : Bool) (p : Port) : Bool × Port :=
  if txPresent id p.queue then (true, { p with queue := p.queue.map (replaceTx id slots periodic) })
  else if p.queue.length < Config.transmitCapacity then
    (true, { p with queue := p.queue ++ [newTx id slots periodic p.nextOrder], nextOrder := p.nextOrder + 1 })
  else if periodic then (true, p)
  else if p.queue.any yieldingMirror then
    (true, { p with queue := p.queue.filter (fun e => !yieldingMirror e) ++ [newTx id slots periodic p.nextOrder],
                    nextOrder := p.nextOrder + 1 })
  else (false, p)

/-- An owner has no frame of this sort left to offer. -/
def forgetOwed (what : Reoffer) (p : Port) : Port :=
  { p with owed := p.owed.filter (fun o => o.1 ≠ what) }

/-- A frame stays with its owner until its 50 ms timer (10 R159). -/
def rememberOwed (what : Reoffer) (deadline : Nat) (p : Port) : Port :=
  { p with owed := (forgetOwed what p).owed ++ [(what, deadline)] }

/-- An owner builds its frame and offers it, if the part may queue; a frame not taken stays with its owner
(10 R159, R163, 01 R18). -/
def offerOwned (what : Reoffer) (s : State) : State :=
  if mayQueue s then
    (match ownedFrame s what with
     | none => { s with port := forgetOwed what s.port }
     | some (id, slots) =>
       (match txOffer id slots false s.port with
        | (true, p) => { s with port := forgetOwed what p }
        | (false, p) => { s with port := rememberOwed what (s.now + 50) p }))
  else s

/-- Queue a mirror of the mirror schedule (01 R16): a full queue drops it (10 R159). -/
def offerPeriodicMirror (s : State) : State :=
  if mayQueue s then
    { s with port := (txOffer (broadcastId .clusterMirror) (mirrorSlots s) true s.port).2 }
  else s

/-! ### Pending demands (01 R14, R15) -/

/-- The six bits in the order of answering, from the bit at which it resumes (entry 12). -/
def bitsFrom (resume : Nat) : List Nat := (List.range 6).drop resume ++ (List.range 6).take resume

/-- Answer the set bits of a station's demand in order; stop for 50 ms at a frame not taken (01 R15). -/
def answerBits (station : Nat) : List Nat → State → State
  | [], s => modifyDemand station (fun d => { d with resume := 0, wait := none }) s
  | b :: rest, s =>
    if (demandOf s station).mask.getLsbD b then
      (match txOffer (answerFrame s station (demandOf s station).index b).1
               (answerFrame s station (demandOf s station).index b).2 false s.port with
       | (true, p) =>
         answerBits station rest
           (modifyDemand station (fun d => { d with mask := d.mask &&& ~~~(1#6 <<< b) }) { s with port := p })
       | (false, _) =>
         modifyDemand station (fun d => { d with resume := b, wait := some (s.now + 50) }) s)
    else answerBits station rest s

/-- Merge a demand into its station's pending one (01 R14). -/
def mergeDemand (mask : BitVec 6) (index : Option Nat) (d : PendingDemand) : PendingDemand :=
  { d with mask := d.mask ||| mask, index := if mask.getLsbD 5 then index.getD 0 else d.index }

/-- A DEMAND taken: merged, and answered at once unless the station's answering is waiting (01 R14, R15). -/
def takeDemand (station : Nat) (mask : BitVec 6) (index : Option Nat) (s : State) : State :=
  let merged := modifyDemand station (mergeDemand mask index) s
  if runs (demandOf s station).wait then merged else answerBits station (bitsFrom 0) merged

/-! ### Attempts -/

/-- An entry may become the head: no retry delay, and not in flight (10 R159). -/
def txEligible (e : TxEntry) : Bool := !runs e.retry && !e.inFlight

/-- The first entry comes before the second: lower class, or the same class and earlier (10 R159). -/
def txBefore (a b : TxEntry) : Bool :=
  kindClass a.id.kind < kindClass b.id.kind
    || (kindClass a.id.kind = kindClass b.id.kind && a.order < b.order)

/-- The head of the queue (10 R159). -/
def txHead : List TxEntry → Option TxEntry
  | [] => none
  | e :: rest =>
    match txHead rest with
    | none => if txEligible e then some e else none
    | some b => if txEligible e && !txBefore b e then some e else some b

/-- The port may begin an attempt at an idle gap (10 R159, R162). -/
def mayTransmit (s : State) : Bool :=
  mayQueue s && !runs s.port.holdOff && !runs s.port.pauseTimer && s.port.sending.isNone
    && !s.port.wakeWanted && !s.port.lineHeld

/-- The frame of an entry as its attempt begins: READY clear in a dip, FIRST until its kind has been sent
whole (10 R154). -/
def attemptFrame (s : State) (own : Nat) (e : TxEntry) : Frame :=
  { cls := kindClass e.id.kind, source := own, kind := kindCode e.id.kind, target := e.id.target,
    ready := !s.power.dip, first := !s.port.sentWhole.contains e.id.kind, slots := e.slots }

/-- Begin the head, if there is one and the part may transmit (10 R159). -/
def beginAttempt (s : State) : State :=
  if mayTransmit s then
    (match txHead s.port.queue, s.straps.address with
     | some e, some own =>
       { s with port := { s.port with
           queue := s.port.queue.map (fun x => if x.id = e.id then { x with inFlight := true } else x),
           sending := some (encodeFrame (attemptFrame s own e)) } }
     | _, _ => s)
  else s

/-- The entry in flight. -/
def flying (s : State) : Option TxEntry := s.port.queue.find? (fun e => e.inFlight)

/-- An attempt ends: in SLEEP the entry leaves; with replacement contents it stays with them and counts of
0; otherwise the outcome acts on it (10 R160, R164). -/
def landEntry (sleeping : Bool) (act : TxEntry → Option TxEntry) (e : TxEntry) : Option TxEntry :=
  if e.inFlight then
    (if sleeping then none
     else match e.replacement with
       | some r =>
         some { e with slots := r, replacement := none, unanswered := 0, holds := 0, retry := none, inFlight := false }
       | none => act { e with inFlight := false })
  else some e

/-- End the attempt in progress with an outcome's act on its entry (10 R160). -/
def endAttempt (act : TxEntry → Option TxEntry) (s : State) : State :=
  { s with port := { s.port with
      queue := s.port.queue.filterMap (landEntry (s.power.mode = .sleep) act), sending := none } }

/-- A frame has been sent whole: its kind is marked, the fault count returns to 0 and the flag line is
cleared (10 R154, R160). -/
def markSentWhole (k : FrameKind) (s : State) : State :=
  { s with
    port := { s.port with
      sentWhole := if s.port.sentWhole.contains k then s.port.sentWhole else s.port.sentWhole ++ [k],
      faultCount := 0 },
    faults := { s.faults with line := false } }

/-- One more readback fault; the eighth sets the flag line and pauses transmission for 1 s (10 R160). -/
def countFault (s : State) : State :=
  if s.port.faultCount + 1 < 8 then
    { s with port := { s.port with faultCount := s.port.faultCount + 1 } }
  else
    { s with port := { s.port with faultCount := 0, pauseTimer := startFor s 1000 },
             faults := { s.faults with line := true } }

/-- The act of an answer on its entry: TAKE done, REFUSE dropped, HOLD and UNANSWERED counted and retried
(10 TABLE 10-7); none of Answer is UNANSWERED. -/
def answerAct (now : Nat) (a : Option Answer) (e : TxEntry) : Option TxEntry :=
  match a with
  | some .take | some .refuse => none
  | some .hold =>
    if e.holds + 1 < 10 then some { e with holds := e.holds + 1, retry := some (now + 50) } else none
  | none =>
    if e.unanswered + 1 < 3 then some { e with unanswered := e.unanswered + 1, retry := some (now + 20) }
    else none

/-- The third UNANSWERED attempt drops the entry, unless replacement contents wait (10 R160, 01 R11). -/
def dropsUnanswered (a : Option Answer) (e : TxEntry) : Bool :=
  a.isNone && e.replacement.isNone && 3 ≤ e.unanswered + 1

end Sys2Proof.Machine
end

