-- ==== Sys2Proof/Machine/ChimeSet.lean ====
section
/-! DEFINITION. Machine/ChimeSet.lean: the chime request set (08 R129, R130), the arbiter (R133, R134), the
cadence (R127, R135), withdrawal (R136), the supply dip (R137) and the status report (R138). -/

namespace Sys2Proof.Machine

/-- What became of a posted request or record: taken, refused, or taken in place of a dropped one
(08 R130, 09 R142). -/
inductive Posted (α : Type) where
  | taken
  | refused
  | displaced (dropped : α)
deriving DecidableEq, Repr

/-! ### Ranking -/

/-- The first request ranks above the second (08.2): priority, then arrival order. -/
def outranks (a b : ChimeRequest) : Bool :=
  a.priority < b.priority || (a.priority = b.priority && a.order < b.order)

/-- A request may sound: hush holds ADVISORY and REMINDER back (08 R132). -/
def eligible (hushed : Bool) (r : ChimeRequest) : Bool := !(hushed && (r.priority = 4 || r.priority = 5))

/-- The eligible request that ranks highest. -/
def bestRequest (hushed : Bool) : List ChimeRequest → Option ChimeRequest
  | [] => none
  | r :: rest =>
    match bestRequest hushed rest with
    | none => if eligible hushed r then some r else none
    | some b => if eligible hushed r && !outranks b r then some r else some b

/-- The request that ranks last. -/
def worstRequest : List ChimeRequest → Option ChimeRequest
  | [] => none
  | r :: rest =>
    match worstRequest rest with
    | none => some r
    | some w => if outranks w r then some r else some w

/-- The source has a request in the set. -/
def sourcePresent (src : ChimeSource) (q : List ChimeRequest) : Bool := q.any (fun r => r.source = src)

/-- The source's request is the one sounding. -/
def sourceSounds (src : ChimeSource) (s : State) : Bool := soundingSource s = some src

/-! ### The output -/

/-- Duration of an element to time; CONTINUOUS has no end (08 R127). -/
def elementTimerFor (s : State) (p : ChimePattern) (i : Nat) : Timer :=
  if p = .continuous then none else startFor s (elementAt p i).2

/-- The output is released and the sounding request waits again (08 R134). -/
def releaseOutput (s : State) : State :=
  { s with chime := { s.chime with
      requests := s.chime.requests.map (fun r => { r with sounding := false }), element := 0,
      elementTimer := none } }

/-- A waiting request becomes SOUNDING from its first element (08 R133). -/
def startSounding (r : ChimeRequest) (s : State) : State :=
  { s with chime := { s.chime with
      requests := s.chime.requests.map (fun x => if x.source = r.source then { x with sounding := true } else x),
      element := 0, elementTimer := elementTimerFor s r.pattern 0 } }

/-- Start the eligible request that ranks highest, if there is one. -/
def startBest (s : State) : State :=
  match bestRequest (hush s) s.chime.requests with
  | some r => startSounding r s
  | none => s

/-- The sounding request can be preempted at once: in a gap, or CONTINUOUS (08 R134). -/
def preemptsAtOnce (s : State) (r : ChimeRequest) : Bool :=
  r.pattern = .continuous || (elementAt r.pattern s.chime.element).1 = .gap

/-- The request is the eligible one that ranks highest. -/
def ranksHighest (s : State) (r : ChimeRequest) : Bool :=
  match bestRequest (hush s) s.chime.requests with
  | some b => b.source = r.source
  | none => false

/-- The arbiter's decision; it starts nothing in a dip, or outside RUN and WATCH (08 R133, R137, R139). -/
def arbiterDecide (s : State) : State :=
  if awake s && !s.power.dip then
    (match soundingRequest s with
     | none => startBest s
     | some r =>
       if ranksHighest s r then s
       else if preemptsAtOnce s r then startBest (releaseOutput s) else s)
  else s

/-- Queue a CHIME STATUS when the source of the SOUNDING request has changed (08 R138). -/
def reportSource (before : State) (after : State) : State :=
  if soundingSource after = soundingSource before then after else offerOwned .chimeStatus after

/-- A change of the set, then the arbiter's decision and the status report. -/
def withArbiter (change : State → State) (s : State) : State := reportSource s (arbiterDecide (change s))

/-! ### Posts and withdrawals -/

/-- The present request takes the new pattern, repetitions and priority; a sounding one abandons its
repetition (08 R129). -/
def replaceRequest (src : ChimeSource) (pat : ChimePattern) (prio reps : Nat) (s : State) : State :=
  let waiting := if sourceSounds src s then releaseOutput s else s
  { waiting with chime := { waiting.chime with
      requests := waiting.chime.requests.map (fun r =>
        if r.source = src then { r with pattern := pat, priority := prio, remaining := reps } else r) } }

/-- A new request joins (08 R129). -/
def joinRequest (src : ChimeSource) (pat : ChimePattern) (prio reps : Nat) (s : State) : State :=
  { s with chime := { s.chime with
      requests := s.chime.requests ++ [{ source := src, pattern := pat, priority := prio, remaining := reps,
                                         order := s.chime.nextOrder, sounding := false }],
      nextOrder := s.chime.nextOrder + 1 } }

/-- A source's request leaves the set, mid-tone if it sounds (08 R136). -/
def removeRequest (src : ChimeSource) (s : State) : State :=
  let released := if sourceSounds src s then releaseOutput s else s
  { released with chime := { released.chime with
      requests := released.chime.requests.filter (fun r => r.source ≠ src) } }

/-- Post a request (08 R129, R130); none is posted outside RUN and WATCH (08 R139, entry 11). Where a full set drops
its SOUNDING request, that the arbiter decides once, after the new request has joined, is the model's choice
(08 R133, entry 40). -/
def chimePost (src : ChimeSource) (pat : ChimePattern) (prio reps : Nat) (s : State) :
    Posted ChimeSource × State :=
  if !awake s then (.refused, s)
  else if sourcePresent src s.chime.requests then (.taken, withArbiter (replaceRequest src pat prio reps) s)
  else if s.chime.requests.length < Config.chimeCapacity then
    (.taken, withArbiter (joinRequest src pat prio reps) s)
  else
    match worstRequest s.chime.requests with
    | some w =>
      if prio < w.priority then
        (.displaced w.source,
         withArbiter (fun t => joinRequest src pat prio reps (removeRequest w.source t)) s)
      else (.refused, s)
    | none => (.refused, s)

/-- Withdraw a source's request, if it is in the set (08 R136). -/
def withdrawChime (src : ChimeSource) (s : State) : State :=
  if sourcePresent src s.chime.requests then withArbiter (removeRequest src) s else s

/-- Hush may have begun or ended: the arbiter decides (08 R132, R133). -/
def hushChanged (s : State) : State := withArbiter id s

/-! ### Cadence -/

/-- The sounding request goes on into an element, unless it no longer ranks highest (08 R134). -/
def goOnInto (r : ChimeRequest) (i : Nat) (s : State) : State :=
  if ranksHighest s r then
    { s with chime := { s.chime with element := i, elementTimer := elementTimerFor s r.pattern i } }
  else startBest (releaseOutput s)

/-- One repetition fewer to complete, unless it sounds until removed (08 R135). -/
def countRepetition (src : ChimeSource) (s : State) : State :=
  { s with chime := { s.chime with
      requests := s.chime.requests.map (fun r => if r.source = src then { r with remaining := r.remaining - 1 } else r) } }

/-- The element in progress ends: a repetition completes after its last tone and a request on its last
leaves without its trailing gap; otherwise the next element, the trailing gap or the next repetition begins
(08 R127, R134, R135). -/
def endElement (r : ChimeRequest) (s : State) : State :=
  let count := (patternElements r.pattern).length
  if s.chime.element + 1 < count then goOnInto r (s.chime.element + 1) s
  else if s.chime.element + 1 = count then
    (if r.remaining = 1 then startBest (removeRequest r.source s)
     else goOnInto r count (countRepetition r.source s))
  else goOnInto r 0 s

/-- The start of a dip silences the output; the repetition in progress is not counted (08 R137). -/
def silenceForDip (s : State) : State := reportSource s (releaseOutput s)

/-- The set is emptied (08 TABLE 8-4). -/
def emptyChimes (s : State) : State :=
  reportSource s { s with chime := { s.chime with requests := [], element := 0, elementTimer := none } }

end Sys2Proof.Machine
end

