-- ==== Sys2Proof/Machine/Queue.lean ====
section
/-! DEFINITION. Machine/Queue.lean: the message queue: posts (09 R142), selection (R143), departures (R144),
and what a record becoming SHOWING ends (the review, 07 R125; set mode, 09 R149). -/

namespace Sys2Proof.Machine

/-! ### Review and set mode, as far as the queue ends them -/

/-- The review is closed (07 R125). -/
def closeReview (s : State) : State := { s with warn := { s.warn with review := .closed, reviewTimer := none } }

/-- Set mode is left; the values stand (09 R149). -/
def leaveSetMode (s : State) : State :=
  { s with disp := { s.disp with setMode := .none, setTimer := none, blinkTimer := none, blinkShown := true } }

/-- Start the display timer in WATCH (09 R141). -/
def wakeDisplay (s : State) : State :=
  if s.power.mode = .watch then { s with disp := { s.disp with displayTimer := startFor s 30000 } } else s

/-! ### Selection -/

/-- The first record comes before the second: priority, then posting order (09 R143). -/
def msgBefore (a b : MsgRecord) : Bool :=
  a.priority < b.priority || (a.priority = b.priority && a.order < b.order)

/-- The WAITING record that a selection takes (09 R143). -/
def bestWaiting : List MsgRecord → Option MsgRecord
  | [] => none
  | r :: rest =>
    match bestWaiting rest with
    | none => if r.showing then none else some r
    | some b => if !r.showing && !msgBefore b r then some r else some b

/-- The worst record: highest priority number, then latest posting order (09 R142). -/
def worstRecord : List MsgRecord → Option MsgRecord
  | [] => none
  | r :: rest =>
    match worstRecord rest with
    | none => some r
    | some w => if msgBefore w r then some r else some w

/-- Minimum show time in ms: 2 s, or the maximum when that is shorter (09 TABLE 9-1). -/
def minShowMs (maxShow : Option Nat) : Nat :=
  match maxShow with
  | some m => min 2000 (m * 1000)
  | none => 2000

/-- What is left of the maximum show time (09 R143). -/
def maxTimerFor (s : State) (maxShow : Option Nat) (shown : Nat) : Timer :=
  maxShow.map (fun m => s.now + (m * 1000 - shown))

/-- A WAITING record becomes SHOWING: its minimum show time starts, and a review or set mode ends
(09 R143, R149, 07 R125). -/
def becomeShowing (r : MsgRecord) (s : State) : State :=
  wakeDisplay (leaveSetMode (closeReview
    { s with msg := { s.msg with
        queue := s.msg.queue.map (fun x =>
          if x.origin = r.origin then { x with showing := true, since := s.now } else x),
        minTimer := startFor s (minShowMs r.maxShow),
        maxTimer := maxTimerFor s r.maxShow r.shown } }))

/-- The SHOWING record returns to WAITING with its shown time (09 R143). With a maximum of 2 s or less its minimum
and its maximum expire together, in an order the manual does not give: that with the minimum taken first a better
record sends it back here with its maximum reached, its maximum's expiry stopped, to show again later for 0 ms before
it leaves the queue, is the model's choice (entry 43). -/
def backToWaiting (s : State) : State :=
  { s with msg := { s.msg with
      queue := s.msg.queue.map (fun x =>
        if x.showing then { x with showing := false, shown := x.shown + (s.now - x.since) } else x),
      minTimer := none, maxTimer := none } }

/-- A selection (09 R143). -/
def select (s : State) : State :=
  match showingRecord s, bestWaiting s.msg.queue with
  | none, some w => becomeShowing w s
  | some r, some w =>
    if !runs s.msg.minTimer && w.priority < r.priority then becomeShowing w (backToWaiting s) else s
  | _, none => s

/-! ### Posts and departures -/

/-- A record of this origin is queued. -/
def originPresent (o : MsgOrigin) (q : List MsgRecord) : Bool := q.any (fun r => r.origin = o)

/-- The record of this origin is the one SHOWING. -/
def originShows (o : MsgOrigin) (s : State) : Bool := (showingRecord s).any (fun r => r.origin = o)

/-- The present record takes the new text, priority and maximum; a SHOWING one counts its times afresh
(09 R142). -/
def replaceRecord (o : MsgOrigin) (t : Text) (prio : Nat) (mx : Option Nat) (s : State) : State :=
  { s with msg := { s.msg with
      queue := s.msg.queue.map (fun r =>
        if r.origin = o then { r with text := t, priority := prio, maxShow := mx, shown := 0, since := s.now }
        else r),
      minTimer := if originShows o s then startFor s (minShowMs mx) else s.msg.minTimer,
      maxTimer := if originShows o s then maxTimerFor s mx 0 else s.msg.maxTimer } }

/-- A new record joins, WAITING (09 R142). -/
def joinRecord (o : MsgOrigin) (t : Text) (prio : Nat) (mx : Option Nat) (s : State) : State :=
  { s with msg := { s.msg with
      queue := s.msg.queue ++ [{ origin := o, text := t, priority := prio, maxShow := mx, shown := 0,
                                 since := s.now, order := s.msg.nextOrder, showing := false }],
      nextOrder := s.msg.nextOrder + 1 } }

/-- A record leaves the queue, and the display at once if it was SHOWING (09 R144). -/
def dropRecord (o : MsgOrigin) (s : State) : State :=
  { s with msg := { s.msg with
      queue := s.msg.queue.filter (fun r => r.origin ≠ o),
      minTimer := if originShows o s then none else s.msg.minTimer,
      maxTimer := if originShows o s then none else s.msg.maxTimer } }

/-- Post a record; a selection follows each post taken (09 R142, R143). Where a full queue drops its SHOWING record,
that one selection is made, after the new record has joined, is the model's choice (09 R143, R144, entry 40). -/
def msgPost (o : MsgOrigin) (t : Text) (prio : Nat) (mx : Option Nat) (s : State) : Posted MsgOrigin × State :=
  if originPresent o s.msg.queue then (.taken, select (replaceRecord o t prio mx s))
  else if s.msg.queue.length < Config.messageCapacity then (.taken, select (joinRecord o t prio mx s))
  else
    match worstRecord s.msg.queue with
    | some w =>
      if prio < w.priority then (.displaced w.origin, select (joinRecord o t prio mx (dropRecord w.origin s)))
      else (.refused, s)
    | none => (.refused, s)

/-- Remove a record, if it is queued; a selection follows (09 R144). -/
def removeRecord (o : MsgOrigin) (s : State) : State :=
  if originPresent o s.msg.queue then select (dropRecord o s) else s

/-- The queue is emptied (09 TABLE 9-6). -/
def emptyMessages (s : State) : State :=
  { s with msg := { s.msg with queue := [], minTimer := none, maxTimer := none } }

end Sys2Proof.Machine
end

