-- ==== Sys2Proof/Machine/Store.lean ====
section
/-! DEFINITION. Machine/Store.lean: the write queue and its record offers (11 R167 to R169, 05 R89), the
words of each record (11 TABLE 11-1), and the writing of the head entry (11 R166, R167). -/

namespace Sys2Proof.Machine

/-- The stored records (11 TABLE 11-1): the odometer, the open journey slot, the journey header, the ring
positions 0 to 9 and the service items 1 to 8. -/
inductive StoreRecord where
  | odometer
  | openSlot
  | header
  | position (p : Nat)
  | item (i : Nat)
deriving DecidableEq, Repr

/-! ### Words of a record -/

/-- The check word of words: 65,535 less their sum modulo 65,536 (11 TABLE 11-1). -/
def checkWord (words : List Word) : Word := 0xFFFF - words.foldl (fun a w => a + w) 0

/-- The two words of an odometer value (11 TABLE 11-1). -/
def odometerWords (v : Nat) : List Word :=
  [wordOf (v / 256), wordOf (v % 256 * 256 + (255 - (v / 65536 + v / 256 % 256 + v % 256) % 256))]

/-- The first six words of a journey record (11 TABLE 11-1). -/
def journeyFields (j : Journey) : List Word :=
  [wordOf j.number, (match j.startClock with | some m => wordOf m | none => 0xFFFF), wordOf j.distance,
   wordOf j.fuel, wordOf j.elapsed, wordOf j.waiting]

/-- The seven words of a journey record (11 TABLE 11-1). -/
def journeyWords (j : Journey) : List Word := journeyFields j ++ [checkWord (journeyFields j)]

/-- The empty value of the open slot (05 R89). -/
def emptyJourney : Journey :=
  { number := 0, startClock := none, distance := 0, fuel := 0, elapsed := 0, waiting := 0 }

/-- The first two words of a service record (11 TABLE 11-1). -/
def itemFields (i : Item) : List Word :=
  [wordOfInt i.km, (match i.hours with | some h => wordOfInt h | none => 0x8000)]

/-- The three words of a service record (11 TABLE 11-1). -/
def itemWords (i : Item) : List Word := itemFields i ++ [checkWord (itemFields i)]

/-- The slot that a taken odometer goes to (11 R169). -/
def nextSlot (s : State) : Nat := (s.nsp.lastSlot + 1) % 8

/-- First word address of a record (11 TABLE 11-1). -/
def recordBase (s : State) : StoreRecord → Nat
  | .odometer => 2 * nextSlot s
  | .openSlot => 112
  | .header => 40
  | .position p => 42 + 7 * p
  | .item i => 16 + 3 * (i - 1)

/-- The ring position of a number. -/
def positionOf (s : State) (p : Nat) : RingPosition := s.journey.positions.getD p { dirty := false, value := none }

/-- Values of a record's words at this moment; an erased ring position has no check computed
(11 R168). -/
def recordValues (s : State) : StoreRecord → List Word
  | .odometer => odometerWords s.trip.odometer
  | .openSlot => journeyWords (s.journey.openJourney.getD emptyJourney)
  | .header => [wordOf s.journey.lastNumber, 0xFFFF - wordOf s.journey.lastNumber]
  | .position p =>
    (match (positionOf s p).value with
     | some j => journeyWords j
     | none => List.replicate 7 erasedWord)
  | .item i => itemWords (itemOf s i)

/-- Pair words with rising addresses. That the words of a record join the write queue in this order is the model's
choice for the service, header and journey records (11 R167, R168, entry 42); 11 "Choosing the Odometer Slot" has
the first word of a slot stored before its second. -/
def atAddresses (base : Nat) : List Word → List (Nat × Word)
  | [] => []
  | w :: rest => (base, w) :: atAddresses (base + 1) rest

/-- A record's words with their addresses. -/
def recordWords (s : State) (r : StoreRecord) : List (Nat × Word) :=
  atAddresses (recordBase s r) (recordValues s r)

/-! ### Dirty marks -/

/-- The record is dirty. -/
def isDirty (s : State) : StoreRecord → Bool
  | .odometer => s.trip.odoDirty
  | .openSlot => s.journey.openDirty
  | .header => s.journey.headerDirty
  | .position p => (positionOf s p).dirty
  | .item i => (itemOf s i).dirty

/-- The record has been taken: it is clean; a taken odometer makes its slot the last written
(11 R168, R169). -/
def markTaken (r : StoreRecord) (s : State) : State :=
  match r with
  | .odometer =>
    { s with trip := { s.trip with odoDirty := false }, nsp := { s.nsp with lastSlot := nextSlot s } }
  | .openSlot => { s with journey := { s.journey with openDirty := false } }
  | .header => { s with journey := { s.journey with headerDirty := false } }
  | .position p =>
    { s with journey := { s.journey with
        positions := modifyAt p (fun x => { x with dirty := false }) s.journey.positions } }
  | .item i => modifyItem i (fun x => { x with dirty := false }) s

/-! ### The write queue -/

/-- A word of this address is queued. -/
def wordQueued (a : Nat) (q : List WriteEntry) : Bool := q.any (fun e => e.addr = a)

/-- Replace the data of a queued address: the data of the entry in flight waits (11 R167). -/
def replaceWord (a : Nat) (d : Word) (e : WriteEntry) (inFlight : Bool) : WriteEntry :=
  if e.addr = a then (if inFlight then { e with replacement := some d } else { e with data := d }) else e

/-- The head is in flight from its first try until its acknowledgement or through its wait (11 R167). -/
def headInFlight (n : Nsp) : Bool := n.writer ≠ .idle

/-- Offer a word to the queue: replace in place, or join at the end (11 R167). -/
def queueWord (n : Nsp) (aw : Nat × Word) : Nsp :=
  if wordQueued aw.1 n.queue then
    { n with queue := match n.queue with
        | [] => []
        | h :: rest =>
          replaceWord aw.1 aw.2 h (headInFlight n) :: rest.map (fun e => replaceWord aw.1 aw.2 e false) }
  else { n with queue := n.queue ++ [{ addr := aw.1, data := aw.2, replacement := none }] }

/-- The queue has room for the record's words that are not already queued (11 R168). -/
def recordFits (s : State) (r : StoreRecord) : Bool :=
  ((recordWords s r).filter (fun aw => !wordQueued aw.1 s.nsp.queue)).length + s.nsp.queue.length
    ≤ Config.writeCapacity

/-- The journey's own order holds a record back (05 R89). -/
def heldBack (s : State) : StoreRecord → Bool
  | .header => s.journey.positions.any (fun p => p.dirty)
  | .openSlot => s.journey.headerDirty || s.nsp.queue.any (fun e => 112 ≤ e.addr && e.addr ≤ 118)
  | _ => false

/-- Offer a dirty record: taken whole, or left dirty (11 R168). -/
def takeRecord (s : State) (r : StoreRecord) : State :=
  if storeOpen s && isDirty s r && !heldBack s r && recordFits s r then
    markTaken r { s with nsp := (recordWords s r).foldl queueWord s.nsp }
  else s

/-- The first try of a write is begun (11 R166, R167). -/
def firstTry : Writer := .trying 0 false none

/-- Start writing the head: no write starts during a dip (11 R167). -/
def kickWriter (s : State) : State :=
  if s.nsp.writer = .idle && !s.nsp.queue.isEmpty && !s.power.dip && storeOpen s then
    { s with nsp := { s.nsp with writer := firstTry } }
  else s

/-- An owner offers a record it has marked dirty (11 R168). -/
def offerRecord (r : StoreRecord) (s : State) : State := kickWriter (takeRecord s r)

/-- The order in which dirty records are offered again (11 R168). -/
def reofferOrder : List StoreRecord :=
  [.odometer, .openSlot, .header] ++ (List.range 10).map .position ++ itemNumbers.map .item

/-- Offer every dirty record again (11 R168). -/
def reofferAll (s : State) : State := reofferOrder.foldl takeRecord s

/-- Mark the odometer dirty and offer it (04 R65). -/
def markOdometer (s : State) : State :=
  offerRecord .odometer { s with trip := { s.trip with odoDirty := true } }

/-- Mark the open journey slot dirty and offer it (05 R89). -/
def markOpenSlot (s : State) : State :=
  offerRecord .openSlot { s with journey := { s.journey with openDirty := true } }

/-! ### Writing -/

/-- The head after the memory acknowledges its second data byte: gone, or waiting with its newer data
(11 R167). -/
def afterWrite (e : WriteEntry) : List WriteEntry :=
  match e.replacement with
  | some d => [{ e with data := d, replacement := none }]
  | none => []

/-- The head's word is stored: the entry leaves or stays with its newer data, and with 8 or fewer entries the
dirty records are offered again (11 R167, R168). Its acknowledged command byte clears the flag NV (R166). -/
def storeHead (e : WriteEntry) (rest : List WriteEntry) (s : State) : State :=
  let written := { s with
    nsp := { s.nsp with queue := afterWrite e ++ rest, writer := .idle,
                        memory := writeWord (e.addr % Config.memoryWords) e.data s.nsp.memory,
                        storing := some e.addr },
    faults := { s.faults with nv := false } }
  kickWriter (if written.nsp.queue.length ≤ 8 then reofferAll written else written)

/-- The memory acknowledges the second data byte of the head; in a dip only a write whose command byte was
acknowledged before it is under way (11 R165, R167). -/
def completeWrite (s : State) : State :=
  match s.nsp.writer, s.nsp.queue with
  | .trying _ acked _, e :: rest => if s.power.dip && !acked then s else storeHead e rest s
  | _, _ => s

/-- The command byte of the try is acknowledged, which clears the flag NV (11 R166). -/
def tryAcked (tries : Nat) (s : State) : State :=
  { s with nsp := { s.nsp with writer := .trying tries true none }, faults := { s.faults with nv := false } }

/-- A try is left unacknowledged: counted and begun again 1 ms later; the twentieth fails, sets the flag NV and
waits 10 s (11 R166). In a dip it is not begun again until the dip's end, with its count given up (R167,
entry 17). -/
def tryUnacked (tries : Nat) (s : State) : State :=
  if 20 ≤ tries + 1 then
    { s with nsp := { s.nsp with writer := .waiting (s.now + 10000) }, faults := { s.faults with nv := true } }
  else if s.power.dip then { s with nsp := { s.nsp with writer := .held } }
  else { s with nsp := { s.nsp with writer := .trying (tries + 1) false (startFor s 1) } }

/-- The memory answers a try of the write in progress; in a dip only a try whose command byte was acknowledged
before it goes on (11 R166, R167). A data byte left unacknowledged says that the command byte was acknowledged
(entry 16). -/
def answerWrite (answer : StoreAnswer) (s : State) : State :=
  match s.nsp.writer with
  | .trying n acked _ =>
    (match answer with
     | .commandAcked => if acked || s.power.dip then s else tryAcked n s
     | .commandUnacked => if acked || s.power.dip then s else tryUnacked n s
     | .dataUnacked => if s.power.dip && !acked then s else tryUnacked n (tryAcked n s))
  | _ => s

/-- The 10 s wait is over: the head is tried afresh, or at the end of the dip (11 R167). -/
def endWriteWait (s : State) : State :=
  match s.nsp.writer with
  | .waiting _ => { s with nsp := { s.nsp with writer := if s.power.dip then .held else firstTry } }
  | _ => s

/-- The dip begins: a write whose command byte is not acknowledged stops and gives up its count; one whose is
goes on (11 R167). -/
def dipStopsWriter (n : Nsp) : Nsp :=
  match n.writer with
  | .trying _ false _ => { n with writer := .held }
  | _ => n

/-- The dip ends: a head held back is tried afresh (11 R167). -/
def dipFreesWriter (s : State) : State :=
  match s.nsp.writer with
  | .held => { s with nsp := { s.nsp with writer := firstTry } }
  | _ => kickWriter s

end Sys2Proof.Machine
end

