-- ==== Sys2Proof/Machine/Reminder.lean ====
section
/-! DEFINITION. Machine/Reminder.lean: the reminder cycle (06 R103, R104), posts that report what they drop
to its poster (09 R142, 08 R130), and the service items: countdown (06 R97, R98), the state ladder (R99),
marking (R101) and resets (R105). -/

namespace Sys2Proof.Machine

/-! ### The reminder cycle -/

/-- SOON or worse (06 R103). -/
def soonOrWorse (i : Item) : Bool := i.state ≠ .counting

/-- The lowest item number above `n` that is SOON or worse (06 R104). -/
def nextReminder (s : State) (n : Nat) : Option Nat :=
  itemNumbers.find? (fun i => n < i && soonOrWorse (itemOf s i))

/-- Post the reminder of the cursor's item; a refused post is made again after 1 s (06 R103). -/
def postReminder (i : Nat) (s : State) : State :=
  match msgPost .reminder (.service (itemOf s i).state i) 5 (some 4) s with
  | (.refused, t) => { t with service := { t.service with repostTimer := startFor t 1000 } }
  | (_, t) => { t with service := { t.service with repostTimer := none } }

/-- Put the cursor on an item and post its reminder, or make it inactive (06 R103, R104). -/
def setCursor (next : Option Nat) (s : State) : State :=
  match next with
  | some i => postReminder i { s with service := { s.service with cursor := some i } }
  | none => { s with service := { s.service with cursor := none, repostTimer := none } }

/-- The reminder's record has left the queue: the cursor advances (06 R104). -/
def advanceReminder (s : State) : State :=
  match s.service.cursor with
  | some c => setCursor (nextReminder s c) s
  | none => s

/-- The cursor becomes inactive and the reminder record is removed (06 R103). -/
def endReminders (s : State) : State :=
  removeRecord .reminder { s with service := { s.service with cursor := none, repostTimer := none } }

/-! ### Posts with their reports -/

/-- The re-offer timer of a warning runs while its entry is unacknowledged and a post of it is outstanding
(07 R119, entry 25). -/
def keepOffering (s : State) (e : WarnEntry) : WarnEntry :=
  if unacknowledged e && (e.chimeOut || e.msgOut) then
    (if runs e.reofferTimer then e else { e with reofferTimer := startFor s 1000 })
  else { e with reofferTimer := none }

/-- A dropped chime request is reported to its poster (08 R130, 07 R119). -/
def chimeDropped (src : ChimeSource) (s : State) : State :=
  match src with
  | .warning m => modifyWarn m (fun e => keepOffering s { e with chimeOut := true }) s
  | _ => s

/-- A dropped message record is reported to its poster (09 R142, R144). -/
def messageDropped (o : MsgOrigin) (s : State) : State :=
  match o with
  | .warning m => modifyWarn m (fun e => keepOffering s { e with msgOut := true }) s
  | .reminder => advanceReminder s
  | _ => s

/-- Post a chime request: whether it was taken, with any drop reported (08 R129, R130). -/
def postChime (src : ChimeSource) (pat : ChimePattern) (prio reps : Nat) (s : State) : Bool × State :=
  match chimePost src pat prio reps s with
  | (.taken, t) => (true, t)
  | (.refused, t) => (false, t)
  | (.displaced d, t) => (true, chimeDropped d t)

/-- Post a message record: whether it was taken, with any drop reported (09 R142). -/
def postMessage (o : MsgOrigin) (t : Text) (prio : Nat) (mx : Option Nat) (s : State) : Bool × State :=
  match msgPost o t prio mx s with
  | (.taken, u) => (true, u)
  | (.refused, u) => (false, u)
  | (.displaced d, u) => (true, messageDropped d u)

/-- Post a message whose loss nobody mends: rear calls, notices, journey messages, status notes (09 R142). -/
def postNote (o : MsgOrigin) (t : Text) (prio : Nat) (mx : Option Nat) (s : State) : State :=
  (postMessage o t prio mx s).2

/-- An accepted key press posts its click (08 R131). -/
def keyClick (s : State) : State := (postChime .keyClick .click 6 1 s).2

/-! ### Service items -/

/-- The worse of two states (06 R99). -/
def worseState (a b : ItemState) : ItemState :=
  match a, b with
  | .overdue, _ | _, .overdue => .overdue
  | .due, _ | _, .due => .due
  | .soon, _ | _, .soon => .soon
  | .counting, .counting => .counting

/-- State of a remainder: its SOON level, 0, and its OVERDUE level (06 TABLE 6-2). -/
def ladder (soonLevel overdueLevel x : Int) : ItemState :=
  if x ≤ overdueLevel then .overdue else if x ≤ 0 then .due else if x ≤ soonLevel then .soon else .counting

/-- State of an item from its remainders (06 R99). -/
def judgeItem (variant : BitVec 2) (i : Nat) (km : Int) (hours : Option Int) : ItemState :=
  let kmState := ladder (max (kmInterval variant i / 10) 300 : Nat) (-1000) km
  match hours, hoursInterval variant i with
  | some h, some interval => worseState kmState (ladder (interval / 10 : Nat) (-300) h)
  | _, _ => kmState

/-- Mark an item's record dirty and offer it; one already dirty is only no longer moved (06 R101). -/
def markItem (i : Nat) (s : State) : State :=
  if (itemOf s i).dirty then modifyItem i (fun x => { x with moved := false }) s
  else offerRecord (.item i) (modifyItem i (fun x => { x with moved := false, dirty := true }) s)

/-- A decrement has changed an item's remainders: its state is judged again, and the record is marked at a
change of state or at a multiple of 100, and moved otherwise, but for a record that is already dirty
(06 R97, R99, R101, entry 32). -/
def itemMoved (i : Nat) (km : Int) (hours : Option Int) (atMultiple : Bool) (s : State) : State :=
  let old := itemOf s i
  let state := judgeItem s.straps.variant i km hours
  let changed := modifyItem i (fun x => { x with km := km, hours := hours, state := state, moved := !x.dirty }) s
  if state ≠ old.state || atMultiple then markItem i changed else changed

/-- A whole-km mark takes 1 from an item's remaining km (06 R97). -/
def countKm (s : State) (i : Nat) : State :=
  if -9999 < (itemOf s i).km then
    itemMoved i ((itemOf s i).km - 1) (itemOf s i).hours (((itemOf s i).km - 1) % 100 = 0) s
  else s

/-- A whole-km mark reaches every item (06 R97). -/
def wholeKmMark (s : State) : State := itemNumbers.foldl countKm s

/-- A tenth of an hour is taken from an item with an hours interval (06 R98). -/
def countHours (s : State) (i : Nat) : State :=
  match (itemOf s i).hours, hoursInterval s.straps.variant i with
  | some h, some _ => if -9999 < h then itemMoved i (itemOf s i).km (some (h - 1)) ((h - 1) % 100 = 0) s else s
  | _, _ => s

/-- So many tenths of an hour are taken from the items (06 R98). -/
def countTenths : Nat → State → State
  | 0, s => s
  | n + 1, s => countTenths n (itemNumbers.foldl countHours s)

/-- A run-second delta fills the hours residue (06 R98). -/
def runSeconds (delta : Nat) (s : State) : State :=
  countTenths ((s.service.hoursResidue + delta) / 360)
    { s with service := { s.service with hoursResidue := (s.service.hoursResidue + delta) % 360 } }

/-- The cursor's item has left SOON or worse by a reset: the next item's reminder replaces the record, or
the record is removed (06 R104). -/
def cursorAfterReset (i : Nat) (s : State) : State :=
  if s.service.cursor = some i then
    (match nextReminder s i with
     | some j => setCursor (some j) s
     | none => endReminders s)
  else s

/-- Reset one item, without its note (06 R105). -/
def resetItem (s : State) (i : Nat) : State :=
  let interval := kmInterval s.straps.variant i
  let hours := (hoursInterval s.straps.variant i).map (fun h => (h : Int))
  cursorAfterReset i (markItem i (modifyItem i
    (fun x => { x with km := interval, hours := hours, state := .counting }) s))

/-- Reset an item, or every item for 0, and post the status note (06 R105). That the reminder cursor advances
before the status note is posted is the model's choice (06 R104, entry 19). -/
def serviceResetOp (item : Nat) (s : State) : State :=
  if item = 0 then postNote .statusNote (.serviceReset none) 6 (some 2) (itemNumbers.foldl resetItem s)
  else postNote .statusNote (.serviceReset (some item)) 6 (some 2) (resetItem s item)

end Sys2Proof.Machine
end

