-- ==== Sys2Proof/Machine/Warning.lean ====
section
/-! DEFINITION. Machine/Warning.lean: the warning entries: tests (07 R111 to R113), evaluation (R114, R117,
R118), the entry to ACTIVE, NOTED and IDLE (R119 to R122), gates turning false (R116), the review (R125), and
the transfer stop that follows entry 7 (03 R57). -/

namespace Sys2Proof.Machine

/-! ### Tests -/

/-- Value of an entry's source, none when the entry is not evaluated: a slot of a report entry wants READY
and the slot valid, U and the gate speed want to be defined (07 R112 to R114). -/
def warnInput (s : State) : WarnInput → Option Nat
  | .slot k i => if (entryIn s k).ready then (slotAt (entryIn s k).slots i).map (fun v => v.toNat) else none
  | .usableFuel => usableFuel s
  | .auxEmpty => some (if auxEmpty s then 1 else 0)
  | .senderWatch => some s.fuel.senderWatch
  | .dueCount => some (dueCount s)
  | .overdueCount => some (overdueCount s)
  | .gateSpeed => s.warn.gateSpeed.map (fun v => v.toNat)
  | .faultCount => some (faultCount s)
  | .staleEntry k =>
    some (if (entryIn s k).stale || ((entryIn s k).bound.isNone && s.warn.graceEnded) then 1 else 0)

/-- The release level is compared: ACTIVE, NOTED or CLEARING (07 R112). -/
def atRelease (e : WarnEntry) : Bool := holdsLamp e

/-- A test's truth for a value; `release` when the entry is compared with its release level
(07 R111, R112). -/
def testTrue (speedLimit : Nat) (release : Bool) (t : WarnTest) (v : Nat) : Bool :=
  match t with
  | .mask m p equal => if equal then wordOf v &&& m = p else wordOf v &&& m ≠ p
  | .atOrAbove level hyst => if release then level ≤ v + hyst else level ≤ v
  | .atOrBelow level hyst => if release then v ≤ level + hyst else v ≤ level
  | .speedLimit hyst =>
    speedLimit ≠ 0 && (if release then speedLimit * 10 ≤ v + hyst else speedLimit * 10 ≤ v)
  | .stale => v ≠ 0

/-- The companion lets the entry be true: ARMING, ACTIVE or NOTED (07 R117). -/
def companionAllows (s : State) (c : Option Nat) : Bool :=
  match c with
  | none => true
  | some m => (warnEntry s m).status = .arming || raised (warnEntry s m)

/-! ### Entry 7 and the transfer stop (03 R57) -/

/-- Entry 7 has passed between being raised and not: the transfer stop timer starts with a TRANSFER STOP, or
stops (03 R57). In `enterActive` this comes before the entry's posts, the model's choice (entry 6). -/
def afterEntry7 (before after : Bool) (s : State) : State :=
  if !before && after then
    offerOwned .transferStop { s with fuel := { s.fuel with stopTimer := startFor s 5000 } }
  else if before && !after then { s with fuel := { s.fuel with stopTimer := none } }
  else s

/-- Change an entry's record; entry 7 has its transfer stop (03 R57). -/
def changeWarn (n : Nat) (f : WarnEntry → WarnEntry) (s : State) : State :=
  if n = 7 then afterEntry7 (raised (warnEntry s 7)) (raised (f (warnEntry s 7))) (modifyWarn n f s)
  else modifyWarn n f s

/-! ### Posts of an entry -/

/-- The entry's class priority; a helper has no class (07 R119). -/
def warnPriority (n : Nat) : Nat := ((warnDef n).cls.map classPriority).getD 0

/-- The entry is SEVERE (07 R122). -/
def isSevere (n : Nat) : Bool := (warnDef n).cls = some .severe

/-- Post the entry's outstanding chime request (07 R119). -/
def postWarnChime (n : Nat) (s : State) : State :=
  match (warnDef n).chime with
  | some (pat, reps) =>
    (match postChime (.warning n) pat (warnPriority n) reps s with
     | (true, t) => modifyWarn n (fun e => { e with chimeOut := false }) t
     | (false, t) => t)
  | none => modifyWarn n (fun e => { e with chimeOut := false }) s

/-- Post the entry's outstanding message record (07 R119). -/
def postWarnMessage (n : Nat) (s : State) : State :=
  match postMessage (.warning n) (.warning n) (warnPriority n) none s with
  | (true, t) => modifyWarn n (fun e => { e with msgOut := false }) t
  | (false, t) => t

/-- Make the outstanding posts of an entry, chime first (entry 6), and let its re-offer timer run afresh
while one is still outstanding (07 R119). -/
def postOutstanding (n : Nat) (s : State) : State :=
  let s1 := if (warnEntry s n).chimeOut then postWarnChime n s else s
  let s2 := if (warnEntry s1 n).msgOut then postWarnMessage n s1 else s1
  modifyWarn n (fun e =>
    { e with reofferTimer := if e.chimeOut || e.msgOut then startFor s2 1000 else none }) s2

/-! ### Changes of state -/

/-- The entry enters ACTIVE from IDLE or ARMING, or again from NOTED: its lamp is lit by R123, and its chime
and message are posted; a helper posts nothing (07 R118, R119, R122). That entry 7 offers its TRANSFER STOP before
its chime request and message are posted is the model's choice (03 R57, entry 6). -/
def enterActive (n count : Nat) (s : State) : State :=
  if (warnDef n).cls.isSome then
    postOutstanding n (changeWarn n (fun e =>
      { e with status := .active, count := count, rechimeDue := false, rechimeTimer := none,
               chimeOut := (warnDef n).chime.isSome, msgOut := true }) s)
  else changeWarn n (fun e => { e with status := .active, count := count }) s

/-- The entry enters IDLE: chime request withdrawn, message removed, lamp released by R123, everything
cleared (07 R121). -/
def enterIdle (n : Nat) (s : State) : State :=
  removeRecord (.warning n) (withdrawChime (.warning n) (changeWarn n (fun _ => .clear) s))

/-- The entry is acknowledged by NOTE (07 R120): from ACTIVE it enters NOTED, from CLEARING out of ACTIVE its
prior state becomes NOTED; both withdraw its posts. -/
def acknowledge (n : Nat) (s : State) : State :=
  let e := warnEntry s n
  if unacknowledged e then
    removeRecord (.warning n) (withdrawChime (.warning n)
      (changeWarn n (fun e =>
        if e.status = .active then
          { e with status := .noted, chimeOut := false, msgOut := false, reofferTimer := none,
                   rechimeTimer := if isSevere n then startFor s 60000 else none }
        else { e with prior := .noted, chimeOut := false, msgOut := false, reofferTimer := none }) s))
  else s

/-- The entry returns from CLEARING to its prior state; a SEVERE one returning to NOTED starts its re-chime
timer (07 R118, R122). -/
def returnToPrior (n : Nat) (s : State) : State :=
  changeWarn n (fun e =>
    match e.prior with
    | .active => { e with status := .active, count := 0 }
    | .noted => { e with status := .noted, count := 0,
                         rechimeTimer := if isSevere n then startFor s 60000 else none }) s

/-- The entry leaves ACTIVE or NOTED for CLEARING at its first false evaluation (07 R118, R122). -/
def enterClearing (n : Nat) (prior : PriorStatus) (s : State) : State :=
  changeWarn n (fun e =>
    { e with status := .clearing, prior := prior, count := 1, rechimeDue := false, rechimeTimer := none }) s

/-- An evaluation that is true (07 TABLE 7-4). -/
def evaluatedTrue (n : Nat) (s : State) : State :=
  let e := warnEntry s n
  match e.status with
  | .idle =>
    if (warnDef n).debounce = 1 then enterActive n 1 s
    else changeWarn n (fun e => { e with status := .arming, count := 1 }) s
  | .arming =>
    if (warnDef n).debounce ≤ e.count + 1 then enterActive n (e.count + 1) s
    else changeWarn n (fun x => { x with count := e.count + 1 }) s
  | .active => s
  | .noted => if e.rechimeDue then enterActive n e.count s else s
  | .clearing => returnToPrior n s

/-- An evaluation that is false (07 TABLE 7-4). -/
def evaluatedFalse (n : Nat) (s : State) : State :=
  let e := warnEntry s n
  match e.status with
  | .idle => s
  | .arming => changeWarn n (fun e => { e with status := .idle, count := 0 }) s
  | .active => if (warnDef n).debounce = 1 then enterIdle n s else enterClearing n .active s
  | .noted => if (warnDef n).debounce = 1 then enterIdle n s else enterClearing n .noted s
  | .clearing =>
    if (warnDef n).debounce ≤ e.count + 1 then enterIdle n s
    else changeWarn n (fun x => { x with count := e.count + 1 }) s

/-- Evaluate an entry: only while its gate is true and its source is to be judged (07 R114, R115, R117). -/
def evaluate (s : State) (n : Nat) : State :=
  let d := warnDef n
  if gateTrue s d.gate then
    (match warnInput s d.input with
     | some v =>
       if testTrue s.trip.speedLimit (atRelease (warnEntry s n)) d.test v && companionAllows s d.companion
       then evaluatedTrue n s else evaluatedFalse n s
     | none => s)
  else s

/-- An entry whose gate is false goes to IDLE at once (07 R116). -/
def gateEntry (s : State) (n : Nat) : State :=
  if !gateTrue s (warnDef n).gate && (warnEntry s n).status ≠ .idle then enterIdle n s else s

/-- A gate may have turned false: every entry is judged (07 R116). -/
def applyGates (s : State) : State := warnNumbers.foldl gateEntry s

/-- Evaluate the entries of a report kind after an accepted arrival (07 R114). -/
def evaluateReport (k : ReportKind) (s : State) : State := (reportEntries k).foldl evaluate s

/-! ### The review (07 R125) -/

/-- The lowest entry above `n` that the review shows. -/
def nextReview (s : State) (n : Nat) : Option Nat :=
  warnNumbers.find? (fun m => n < m && reviewable (warnEntry s m))

/-- The review shows an entry, or closes. -/
def showReview (next : Option Nat) (s : State) : State :=
  match next with
  | some n => { s with warn := { s.warn with review := .entry n, reviewTimer := startFor s 2000 } }
  | none => closeReview s

/-- The review opens at the lowest entry it shows, or with "NO WARNINGS". -/
def openReview (s : State) : State :=
  match nextReview s 0 with
  | some n => showReview (some n) s
  | none => { s with warn := { s.warn with review := .noWarnings, reviewTimer := startFor s 2000 } }

/-- The review moves to the next entry above its cursor, or ends. The manual says nothing of a NOTE while
NO WARNINGS is shown, and that it ends the review at once is the model's choice (07 R125, entry 39). -/
def moveReview (s : State) : State :=
  match s.warn.review with
  | .entry n => showReview (nextReview s n) s
  | .noWarnings => closeReview s
  | .closed => s

end Sys2Proof.Machine
end

