-- ==== Sys2Proof/Machine/FuelOps.lean ====
section
/-! DEFINITION. Machine/FuelOps.lean: the Fuel Estimator: samples (03 R43, R44), dead-reckoning (R46),
correction (R47 to R52), standstill (R51), pump long (R55) and the sender watch (R58). -/

namespace Sys2Proof.Machine

/-- The volume that a sender slot adds to a ring: READY set, slot valid, at most 255, no dip (03 R44). -/
def senderSample (s : State) (ready : Bool) (points : List Nat) (slot : Slot) : Option Nat :=
  match slot with
  | some v => if ready && v.toNat ≤ 255 && !s.power.dip then some (calibrate points v.toNat) else none
  | none => none

/-- An accepted TANK arrival feeds the main ring and resets the sender watch (03 R44, R58). -/
def sampleMain (ready : Bool) (slot : Slot) (s : State) : State :=
  match senderSample s ready (mainCurve s.straps.variant) slot with
  | some v =>
    { s with fuel := { s.fuel with mainRing := pushRing Config.senderRing s.fuel.mainRing v, senderWatch := 0 } }
  | none => s

/-- An accepted TANK arrival feeds the auxiliary ring, kept for a variant that has the tank (03 R42, R44). -/
def sampleAux (ready : Bool) (slot : Slot) (s : State) : State :=
  match auxCurve s.straps.variant with
  | some points =>
    (match senderSample s ready points slot with
     | some v => { s with fuel := { s.fuel with auxRing := pushRing Config.senderRing s.fuel.auxRing v } }
     | none => s)
  | none => s

/-- The pump timer and pump long follow the pump of an accepted TANK arrival (03 R55). -/
def followPump (s : State) : State :=
  if (tankSpec s.straps.variant).aux.isSome && pumpRuns s then
    (if runs s.fuel.pumpTimer || s.fuel.pumpLong then s
     else { s with fuel := { s.fuel with pumpTimer := startFor s 30000 } })
  else { s with fuel := { s.fuel with pumpTimer := none, pumpLong := false } }

/-- The pump watch is cleared (03 R55). -/
def clearPump (s : State) : State := { s with fuel := { s.fuel with pumpTimer := none, pumpLong := false } }

/-- The standstill watch is cleared (03 R51). -/
def clearStandstill (s : State) : State :=
  { s with fuel := { s.fuel with standTimer := none, standstill := false } }

/-- The standstill timer and standstill follow the road speed of an accepted CHASSIS arrival (03 R51). -/
def followStandstill (speed : Slot) (s : State) : State :=
  if speed = some 0 then
    (if runs s.fuel.standTimer || s.fuel.standstill then s
     else { s with fuel := { s.fuel with standTimer := startFor s 10000 } })
  else clearStandstill s

/-- A fuel-count delta is taken from M by decilitres; discarded while M is undefined (03 R46). -/
def deadReckon (delta : Nat) (s : State) : State :=
  match s.fuel.mainEst with
  | none => s
  | some m =>
    { s with fuel := { s.fuel with
        mainEst := some (m - (s.fuel.residue + delta) / 200), residue := (s.fuel.residue + delta) % 200 } }

/-- The sender watch counts a distance step (03 R58). -/
def watchStep (s : State) : State :=
  { s with fuel := { s.fuel with senderWatch := addSat 65535 s.fuel.senderWatch 1 } }

/-! ### Correction -/

/-- The weight of the main filter step (03 R48). -/
def filterWeight (s : State) : Nat := if doorOpen s then 4 else if pumpRuns s then 16 else 64

/-- M after the main filter step toward an average (03 R48). -/
def filterMain (capacity weight m average : Nat) : Nat :=
  (clampInt 0 capacity ((m : Int) + filterStep ((average : Int) - m) weight)).toNat

/-- The main filter step, when M is defined and the ring usable (03 R48). -/
def filterMainStep (s : State) : State :=
  match s.fuel.mainEst with
  | some m =>
    if 4 ≤ s.fuel.mainRing.length then
      { s with fuel := { s.fuel with
          mainEst := some (filterMain (tankSpec s.straps.variant).mainCapacity (filterWeight s) m
                            (ringAverage s.fuel.mainRing)) } }
    else s
  | none => s

/-- The refuel snap test is passed: ring full, with pending, standstill or an open door, and M undefined or
more than 50 dL below the average (03 R52). -/
def snaps (s : State) : Bool :=
  s.fuel.mainRing.length = Config.senderRing && (s.fuel.snapPending || s.fuel.standstill || doorOpen s)
    && (match s.fuel.mainEst with
        | none => true
        | some m => m + 50 < ringAverage s.fuel.mainRing)

/-- The snap, or the main filter step; pending is cleared by a step that finds the ring full (03 R47,
R52). -/
def correctMain (s : State) : State :=
  let corrected :=
    if snaps s then { s with fuel := { s.fuel with mainEst := some (ringAverage s.fuel.mainRing) } }
    else filterMainStep s
  if s.fuel.mainRing.length = Config.senderRing then
    { corrected with fuel := { corrected.fuel with snapPending := false } }
  else corrected

/-- The aux rule (03 R50). -/
def correctAux (s : State) : State :=
  if (tankSpec s.straps.variant).aux.isSome && 4 ≤ s.fuel.auxRing.length then
    { s with fuel := { s.fuel with auxEst := some (ringAverage s.fuel.auxRing) } }
  else s

/-- A correction step (03 R47). -/
def correctionStep (s : State) : State := correctAux (correctMain s)

end Sys2Proof.Machine
end

