-- ==== Sys2Proof/Machine/Load.lean ====
section
/-! DEFINITION. Machine/Load.lean: the LOAD step of a cold start: the odometer (11 R169, R170), the service
records (06 R102), the journey header, ring and open slot (05 R92 to R94). The words read are a function of
the word address, none for a load that could not be completed. -/

namespace Sys2Proof.Machine

/-- Words `base` to `base + n - 1` of the external memory. -/
def wordsAt (m : List (Nat × Word)) (base : Nat) : Nat → List Word
  | 0 => []
  | n + 1 => readWord m base :: wordsAt m (base + 1) n

/-- Every word is erased. -/
def allErased (ws : List Word) : Bool := ws.all (fun w => w = erasedWord)

/-- The last word is the check of the others (11 TABLE 11-1). -/
def checkGood (ws : List Word) : Bool := ws.getLast? = some (checkWord ws.dropLast)

/-! ### Odometer -/

/-- The value of an odometer slot, none when its check fails or its value is above 9,999,999
(11 "The Word Map"). -/
def slotValue (m : List (Nat × Word)) (slot : Nat) : Option Nat :=
  let v := (readWord m (2 * slot)).toNat * 256 + (readWord m (2 * slot + 1)).toNat / 256
  if v ≤ 9999999 && wordsAt m (2 * slot) 2 = odometerWords v then some v else none

/-- The largest value among the good slots, with the lowest slot that holds it (11 R169, R170). -/
def bestSlot (m : List (Nat × Word)) : List Nat → Option (Nat × Nat)
  | [] => none
  | slot :: rest =>
    match slotValue m slot, bestSlot m rest with
    | some v, some (best, w) => if w ≤ v then some (slot, v) else some (best, w)
    | some v, none => some (slot, v)
    | none, found => found

/-- Load the odometer and the last-written slot; with no good slot the odometer is 0 and the flag store is
set (11 R169, R170). -/
def loadOdometer (m : Option (List (Nat × Word))) (s : State) : State :=
  match m.bind (fun m => bestSlot m [0, 1, 2, 3, 4, 5, 6, 7]) with
  | some (slot, v) =>
    { s with trip := { s.trip with odometer := v, odoDirty := false }, nsp := { s.nsp with lastSlot := slot } }
  | none =>
    { s with trip := { s.trip with odometer := 0, odoDirty := false }, nsp := { s.nsp with lastSlot := 7 },
             faults := { s.faults with store := true } }

/-! ### Service records -/

/-- The remainders of a stored service record, none when it is to be taken as failed (06 R102). -/
def storedItem (variant : BitVec 2) (i : Nat) (ws : List Word) : Option (Int × Option Int) :=
  match ws with
  | [km, hours, _] =>
    if checkGood ws && (-9999 ≤ km.toInt && km.toInt ≤ 30000) then
      (match hoursInterval variant i with
       | none => if hours = 0x8000 then some (km.toInt, none) else none
       | some _ =>
         if -9999 ≤ hours.toInt && hours.toInt ≤ 15000 then some (km.toInt, some hours.toInt) else none)
    else none
  | _ => none

/-- Load one item: as stored and clean, or failed: 0, DUE, dirty, with the flag store (06 R102). -/
def loadItem (m : Option (List (Nat × Word))) (s : State) (i : Nat) : State :=
  match m.bind (fun m => storedItem s.straps.variant i (wordsAt m (16 + 3 * (i - 1)) 3)) with
  | some (km, hours) =>
    modifyItem i (fun _ => { km := km, hours := hours, state := judgeItem s.straps.variant i km hours,
                             moved := false, dirty := false }) s
  | none =>
    let hours := (hoursInterval s.straps.variant i).map (fun _ => (0 : Int))
    modifyItem i (fun _ => { km := 0, hours := hours, state := judgeItem s.straps.variant i 0 hours,
                             moved := false, dirty := true })
      { s with faults := { s.faults with store := true } }

/-! ### Journey records -/

/-- A journey record from seven words; a start clock word of 0xFFFF is absent (05 R93, R94). -/
def journeyOfWords (ws : List Word) : Journey :=
  { number := (ws.getD 0 0).toNat,
    startClock := if ws.getD 1 0 = 0xFFFF then none else some (ws.getD 1 0).toNat,
    distance := (ws.getD 2 0).toNat, fuel := (ws.getD 3 0).toNat, elapsed := (ws.getD 4 0).toNat,
    waiting := (ws.getD 5 0).toNat }

/-- Take the header: its last number, and whether it was damaged (05 R92). -/
def loadHeader (m : Option (List (Nat × Word))) : Nat × Bool :=
  match m with
  | none => (0, true)
  | some m =>
    if readWord m 41 = 0xFFFF - readWord m 40 then ((readWord m 40).toNat, false)
    else (0, !allErased (wordsAt m 40 2))

/-- Ring position of a journey number (05 R88). -/
def ringPositionOf (number : Nat) : Nat := (number - 1) % 10

/-- The number expected at an index of the walk (05 R93). -/
def expectedNumber (last i : Nat) : Nat := if i < last then last - i else last + 65535 - i

/-- The walk over the ring from index `i` for `n` more positions: the records found, and whether one was
damaged (05 R93). Where the expected numbers pass below 1 the walk can meet one damaged position twice; that it then
enters two damaged records, as R93 says of each, is the model's choice against R88 (entry 38). -/
def ringWalk (m : List (Nat × Word)) (last : Nat) (i : Nat) : Nat → List RingRecord × Bool
  | 0 => ([], false)
  | n + 1 =>
    let e := expectedNumber last i
    let ws := wordsAt m (42 + 7 * ringPositionOf e) 7
    if allErased ws then ([], false)
    else if checkGood ws then
      (if (journeyOfWords ws).number = e then
         (.good (journeyOfWords ws) :: (ringWalk m last (i + 1) n).1, (ringWalk m last (i + 1) n).2)
       else ([], false))
    else (.damaged e :: (ringWalk m last (i + 1) n).1, true)

/-- Load the ring for a last number; 0 loads it empty (05 R93). -/
def loadRing (m : Option (List (Nat × Word))) (last : Nat) : List RingRecord × Bool :=
  match m with
  | none => ([], false)
  | some m => if last = 0 then ([], false) else ringWalk m last 0 Config.ringCapacity

/-- Restore the open journey: the journey, and whether the slot was damaged (05 R94). -/
def loadOpen (m : Option (List (Nat × Word))) (last : Nat) : Option Journey × Bool :=
  match m with
  | none => (none, true)
  | some m =>
    let ws := wordsAt m 112 7
    if allErased ws then (none, false)
    else if checkGood ws then
      (if (journeyOfWords ws).number ≠ 0 && (journeyOfWords ws).number ≠ last then (some (journeyOfWords ws), false)
       else (none, false))
    else (none, true)

/-- Load the Journey Unit: header, ring walk, open slot, in this order; every mark clean (05 R92 to R95). -/
def loadJourney (m : Option (List (Nat × Word))) (s : State) : State :=
  let header := loadHeader m
  let ring := loadRing m header.1
  let slot := loadOpen m header.1
  { s with
    journey := { s.journey with openJourney := slot.1, residue := 0, ring := ring.1, lastNumber := header.1,
                                headerDirty := false, openDirty := false },
    faults := { s.faults with store := s.faults.store || header.2 || ring.2 || slot.2 } }

/-- Hand every record to its owner, and begin LISTEN; the service records marked dirty are offered
(11 R170, 06 R101, 12 R171). -/
def finishLoad (m : Option (List (Nat × Word))) (s : State) : State :=
  let loaded := loadJourney m (itemNumbers.foldl (loadItem m) (loadOdometer m s))
  let listening := { loaded with power := { loaded.power with mode := .starting .listen,
                                                              startTimer := startFor s 250 } }
  itemNumbers.foldl (fun t i => offerRecord (.item i) t) listening

/-- The sequential read failed after its twentieth try (11 R166, R170). -/
def failLoad (s : State) : State :=
  finishLoad none { s with faults := { s.faults with nv := true }, nsp := { s.nsp with loadTries := 0, loadRetry := none } }

end Sys2Proof.Machine
end

