-- ==== Sys2Proof/Machine/JourneyOps.lean ====
section
/-! DEFINITION. Machine/JourneyOps.lean: the Journey Unit: minute ticks (05 R84), distance and fuel (R85),
opening (R86), closing (R87, R88), and JOURNEY CLEAR (R91). -/

namespace Sys2Proof.Machine

/-- Change the open journey, if there is one. -/
def modifyJourney (f : Journey → Journey) (s : State) : State :=
  { s with journey := { s.journey with openJourney := s.journey.openJourney.map f } }

/-- The minute counts as waiting: the part is not in RUN, the speed is in doubt, or below 50 (05 R84). -/
def minuteWaits (s : State) : Bool :=
  s.power.mode ≠ .run ||
    (match roadSpeed s with
     | some v => v < 50
     | none => true)

/-- A minute tick reaches the open journey; each 30 elapsed minutes mark the open slot (05 R84, R89). -/
def journeyMinute (s : State) : State :=
  match s.journey.openJourney with
  | none => s
  | some j =>
    let j' := { j with elapsed := addSat 65535 j.elapsed 1,
                       waiting := if minuteWaits s then addSat 65535 j.waiting 1 else j.waiting }
    let counted := { s with journey := { s.journey with openJourney := some j' } }
    if j'.elapsed ≠ j.elapsed && j'.elapsed % 30 = 0 then markOpenSlot counted else counted

/-- A distance step reaches the open journey (05 R85). -/
def journeyStep (s : State) : State := modifyJourney (fun j => { j with distance := addSat 65535 j.distance 1 }) s

/-- A fuel-count delta reaches the open journey; without one it is discarded (05 R85). -/
def journeyFuel (delta : Nat) (s : State) : State :=
  match s.journey.openJourney with
  | none => s
  | some j =>
    { s with journey := { s.journey with
        openJourney := some { j with fuel := addSat 65535 j.fuel ((s.journey.residue + delta) / 200) },
        residue := (s.journey.residue + delta) % 200 } }

/-- The number of the next journey (05 R86). -/
def nextNumber (last : Nat) : Nat := if last = 65535 then 1 else last + 1

/-- Open a journey (05 R86). -/
def openJourneyOp (s : State) : State :=
  let number := nextNumber s.journey.lastNumber
  let opened := { s with journey := { s.journey with
    openJourney := some { number := number, startClock := if s.clock.unset then none else some s.clock.minutes,
                          distance := 0, fuel := 0, elapsed := 0, waiting := 0 },
    residue := 0 } }
  postNote .journey (.journeyOpen number) 6 (some 2) (markOpenSlot opened)

/-- Number of a ring record. -/
def recordNumber : RingRecord → Nat
  | .good j => j.number
  | .damaged n => n

/-- The records newer than the one at a position; that one and the older are removed (05 R88). -/
def newerThan (p : Nat) (ring : List RingRecord) : List RingRecord :=
  ring.takeWhile (fun r => ringPositionOf (recordNumber r) ≠ p)

/-- A closed journey enters the ring at index 0, and of ten records the oldest leaves where none held its position,
as two damaged records of one position allow (05 R88, entry 38). -/
def enterRing (j : Journey) (ring : List RingRecord) : List RingRecord :=
  .good j :: (newerThan (ringPositionOf j.number) ring).take (Config.ringCapacity - 1)

/-- Close the open journey: ring, last number, the three records marked and offered in their order, and the
message (05 R87, R88, R89). -/
def closeJourneyOp (j : Journey) (s : State) : State :=
  let p := ringPositionOf j.number
  let closed := { s with journey := { s.journey with
    openJourney := none, residue := 0, ring := enterRing j s.journey.ring, lastNumber := j.number,
    positions := modifyAt p (fun _ => { dirty := true, value := some j }) s.journey.positions,
    headerDirty := true, openDirty := true } }
  postNote .journey .journeyClosed 6 (some 2)
    (offerRecord .openSlot (offerRecord .header (offerRecord (.position p) closed)))

/-- Carry out a JOURNEY CLEAR: the ring is emptied and every position marked with the erased value
(05 R91). That the positions are first offered from 0 to 9 is the model's choice (entry 18). -/
def clearJourneys (s : State) : State :=
  let cleared := { s with journey := { s.journey with
    ring := [], positions := s.journey.positions.map (fun _ => { dirty := true, value := none }) } }
  postNote .journey .journeysCleared 6 (some 2)
    ((List.range 10).foldl (fun t p => offerRecord (.position p) t) cleared)

end Sys2Proof.Machine
end

