-- ==== Sys2Proof/Machine/TripOps.lean ====
section
/-! DEFINITION. Machine/TripOps.lean: the Trip Computer: distance steps and their consumers (04 R62 to R66),
fuel counts (R67), the range segment (R76), and the clock (R78). -/

namespace Sys2Proof.Machine

/-- The odometer takes a distance step: at a multiple of 10 a whole-km mark, at a multiple of 100 a store
offer; saturated, nothing (04 R64, R65). -/
def odometerStep (s : State) : State :=
  if s.trip.odometer < 9999999 then
    let moved := { s with trip := { s.trip with odometer := s.trip.odometer + 1 } }
    let marked := if moved.trip.odometer % 10 = 0 then wholeKmMark moved else moved
    if moved.trip.odometer % 100 = 0 then markOdometer marked else marked
  else s

/-- A trip takes a distance step (04 R66). -/
def tripStep (t : Trip) : Trip := { t with distance := if t.distance = 99999 then 0 else t.distance + 1 }

/-- The range segment takes a distance step; the tenth closes it and blends C (04 R76). -/
def segmentStep (t : TripComputer) : TripComputer :=
  if 10 ≤ t.segSteps + 1 then
    { t with segSteps := 0, segCount := 0, rangeBasis := blendBasis t.rangeBasis (segmentConsumption t.segCount) }
  else { t with segSteps := t.segSteps + 1 }

/-- Both trips and the range segment take a distance step (04 R63). -/
def tripsStep (s : State) : State :=
  { s with trip := segmentStep { s.trip with tripA := tripStep s.trip.tripA, tripB := tripStep s.trip.tripB } }

/-- One distance step, taken whole by every consumer (04 R63, entry 7). -/
def distanceStep (s : State) : State := watchStep (journeyStep (tripsStep (odometerStep s)))

/-- So many distance steps, one after another (04 R62). -/
def distanceSteps : Nat → State → State
  | 0, s => s
  | n + 1, s => distanceSteps n (distanceStep s)

/-- A pulse delta: added to the pulse total and the residue, and its distance steps issued (04 R62, R74). -/
def pulseDelta (delta : Nat) (s : State) : State :=
  let q := pulsesPerStep s.straps.pulseSel
  distanceSteps ((s.trip.pulseResidue + delta) / q)
    { s with trip := { s.trip with pulseResidue := (s.trip.pulseResidue + delta) % q,
                                   pulseTotal := s.trip.pulseTotal + BitVec.ofNat 32 delta } }

/-- The top of the saturating fuel counts (04 R67). -/
def countTop : Nat := 4294967295

/-- A trip takes a fuel-count delta (04 R67). -/
def tripFuel (delta : Nat) (t : Trip) : Trip := { t with fuel := addSat countTop t.fuel delta }

/-- The Trip Computer takes a fuel-count delta (04 R67). -/
def tripFuelDelta (delta : Nat) (t : TripComputer) : TripComputer :=
  { t with tripA := tripFuel delta t.tripA, tripB := tripFuel delta t.tripB,
           segCount := addSat countTop t.segCount delta, countTotal := t.countTotal + BitVec.ofNat 32 delta }

/-- A fuel-count delta reaches the Trip Computer, the Journey Unit and the Fuel Estimator (01 TABLE 1-7). -/
def fuelDelta (delta : Nat) (s : State) : State :=
  deadReckon delta (journeyFuel delta { s with trip := tripFuelDelta delta s.trip })

/-- A trip counts a second (04 R68). -/
def tripSecond (t : Trip) : Trip := { t with seconds := addSat 359999 t.seconds 1 }

/-- The instantaneous ring takes a sample and the consumption is computed afresh (04 R74, R75). -/
def takeSample (s : State) : State :=
  let ring := pushRing Config.instantRing s.trip.ring { pulses := s.trip.pulseTotal, counts := s.trip.countTotal }
  { s with trip := { s.trip with ring := ring, instant := instantValue s.straps ring } }

/-- The minutes advance at a minute tick while the clock is set (04 R78). -/
def minuteTick (s : State) : State :=
  journeyMinute
    (if s.clock.unset then s
     else { s with clock := { s.clock with minutes := (s.clock.minutes + 1) % 1440 } })

/-- The seconds counter advances; passing from 59 to 0 issues a minute tick (04 R78). -/
def clockSecondOp (s : State) : State :=
  if 59 ≤ s.clock.seconds then minuteTick { s with clock := { s.clock with seconds := 0 } }
  else { s with clock := { s.clock with seconds := s.clock.seconds + 1 } }

/-- Set the clock's minutes and clear the unset flag; the seconds run on (04 R79). -/
def setClock (minutes : Nat) (s : State) : State :=
  { s with clock := { s.clock with minutes := minutes, unset := false } }

/-- The minutes that a step acts on: 0 while the clock is unset (04 R79). -/
def clockMinutes (c : Clock) : Nat := if c.unset then 0 else c.minutes

/-- One hours step (04 R79). -/
def hoursStep (s : State) : State := setClock ((clockMinutes s.clock + 60) % 1440) s

/-- One minutes step, within the hour (04 R79). -/
def minutesStep (s : State) : State :=
  setClock (clockMinutes s.clock / 60 * 60 + (clockMinutes s.clock % 60 + 1) % 60) s

/-- The speed limit after a step (04 R80). -/
def nextLimit (limit : Nat) : Nat := if limit = 0 then 30 else if 200 ≤ limit then 0 else limit + 10

end Sys2Proof.Machine
end

