-- ==== Sys2Proof/Machine/Display.lean ====
section
/-! DEFINITION. Machine/Display.lean: the characters of every text (07 TABLE 7-2, 09 TABLE 9-3, 06 R103,
R105, 05 R86, R87, R91), the base readouts (09 TABLE 9-4), the display image and its transfer
(09 R140, R141). -/

namespace Sys2Proof.Machine

/-! ### Figures -/

/-- The digits of a number, without leading zeros. -/
def digits (n : Nat) : List Char := Nat.toDigits 10 n

/-- A figure in tenths, with at least one digit before its point (09 R148). -/
def tenths (n : Nat) : List Char := digits (n / 10) ++ ['.'] ++ digits (n % 10)

/-- Two digits (09 R148). -/
def twoDigits (n : Nat) : List Char := digits (n / 10 % 10) ++ digits (n % 10)

/-- A whole number with a minus sign before its digits when negative (09 R148). -/
def signed (x : Int) : List Char := if x < 0 then '-' :: digits x.natAbs else digits x.natAbs

/-- Blanks before, up to a width (05 R86). -/
def rightAligned (width : Nat) (cs : List Char) : List Char := List.replicate (width - cs.length) ' ' ++ cs

/-- Sixteen characters, filled with blanks on the right (09 R140). -/
def padded (cs : List Char) : List Char := (cs ++ List.replicate 16 ' ').take 16

/-! ### Texts -/

/-- Warning texts, by entry number (07 TABLE 7-2). -/
def warningText : Nat → List Char
  | 1 => "OIL PRESSURE LOW".toList
  | 2 => "COOLANT HOT".toList
  | 3 => "CHARGING FAULT".toList
  | 4 => "BRAKE FLUID LOW".toList
  | 5 => "PARK BRAKE ON".toList
  | 6 => "LOW FUEL".toList
  | 7 => "AUX TANK EMPTY".toList
  | 8 => "NO FUEL SENDER".toList
  | 9 => "DOOR OPEN".toList
  | 10 => "DOOR AJAR".toList
  | 11 => "FASTEN BELT".toList
  | 12 => "DRIVER BELT OPEN".toList
  | 13 => "KEY IN IGNITION".toList
  | 14 => "LIGHTS ON".toList
  | 15 => "WASHER FLUID LOW".toList
  | 16 => "BULB OUT".toList
  | 17 => "ICE RISK".toList
  | 18 => "NO ENGINE DATA".toList
  | 19 => "NO CHASSIS DATA".toList
  | 20 => "SERVICE DUE".toList
  | 21 => "SERVICE OVERDUE".toList
  | 22 => "SPEED LIMIT".toList
  | 24 => "CLUSTER FAULT".toList
  | _ => []

/-- Notice texts; numbers above 15 are empty entries (09 TABLE 9-3). -/
def noticeText : Nat → List Char
  | 0 => "PLEASE WAIT".toList
  | 1 => "ARRIVING 5 MIN".toList
  | 2 => "ARRIVING 10 MIN".toList
  | 3 => "STOP REQUESTED".toList
  | 4 => "DRIVE SLOWLY".toList
  | 5 => "CLIMATE REQUEST".toList
  | 6 => "PHONE CALL".toList
  | 7 => "DOOR RELEASED".toList
  | 8 => "PARTITION UP".toList
  | 9 => "PARTITION DOWN".toList
  | 10 => "RETURN TO BASE".toList
  | 11 => "NEXT: AIRPORT".toList
  | 12 => "NEXT: HOTEL".toList
  | 13 => "NEXT: STATION".toList
  | 14 => "WORKSHOP TOOL ON".toList
  | 15 => "DATA BEING READ".toList
  | _ => []

/-- Legend of a service item (06 TABLE 6-1). -/
def legend : Nat → List Char
  | 1 => "OIL".toList
  | 2 => "FILT".toList
  | 3 => "LUBE".toList
  | 4 => "TRNS".toList
  | 5 => "TIRE".toList
  | 6 => "BRKE".toList
  | 7 => "COOL".toList
  | 8 => "AIR".toList
  | _ => []

/-- State legend of a reminder (06 R103); COUNTING is never posted. -/
def stateLegend : ItemState → List Char
  | .counting => []
  | .soon => "SVC SOON".toList
  | .due => "SVC DUE".toList
  | .overdue => "SVC OVERDUE".toList

/-- The characters of a record's text (entry 30). -/
def textChars : Text → List Char
  | .warning n => warningText n
  | .passengerCall => "PASSENGER CALL".toList
  | .notice n => noticeText n
  | .journeyOpen n => "JRNY ".toList ++ rightAligned 5 (digits n) ++ " OPEN".toList
  | .journeyClosed => "JOURNEY CLOSED".toList
  | .journeysCleared => "JOURNEYS CLEARED".toList
  | .service st i => stateLegend st ++ [' '] ++ legend i
  | .serviceReset (some i) => "SVC RESET ".toList ++ legend i
  | .serviceReset none => "SVC RESET ALL".toList

/-! ### Base readouts (09 R148, TABLE 9-4) -/

/-- The letter of the selected trip. -/
def tripLetter (s : State) : List Char := if s.disp.selB then "B ".toList else "A ".toList

/-- The trip that readouts 1 to 4 show. -/
def shownTrip (s : State) : Trip := selectedTrip s s.disp.selB

/-- A figure with its units strap's legend, or the undefined mark with it. -/
def withLegend (imperial : Bool) (figure : Option (List Char)) (mark : String) (metric imp : String) :
    List Char :=
  figure.getD mark.toList ++ (if imperial then imp.toList else metric.toList)

/-- Hours, minutes and seconds of a trip (09 R148). -/
def tripTime (t : Trip) : List Char :=
  digits (t.seconds / 3600) ++ [':'] ++ twoDigits (t.seconds / 60 % 60) ++ [':'] ++ twoDigits (t.seconds % 60)

/-- The journey readout, in its two forms (09 R148). -/
def journeyReadout (s : State) : List Char :=
  match s.journey.openJourney with
  | none => "NO JOURNEY".toList
  | some j =>
    if s.disp.journeyKm then
      "JRNY ".toList ++ withLegend s.straps.imperial (some (tenths (inUnits s.straps.imperial j.distance))) "" " KM" " MI"
    else "JRNY ".toList ++ digits j.elapsed ++ " MIN".toList

/-- The clock readout; in set mode the field being set is blanked in its dark phase, and the figures show
although the clock is unset only once a step has set it (09 R148, R149, entry 20). -/
def clockReadout (s : State) : List Char :=
  let hours := if s.clock.unset then "--".toList else twoDigits (s.clock.minutes / 60)
  let minutes := if s.clock.unset then "--".toList else twoDigits (s.clock.minutes % 60)
  let blank := "  ".toList
  "TIME ".toList ++ (if s.disp.setMode = .hours && !s.disp.blinkShown then blank else hours) ++ [':']
    ++ (if s.disp.setMode = .minutes && !s.disp.blinkShown then blank else minutes)

/-- The speed limit readout; in set mode the limit blinks as a whole (09 R148, R149, entry 20). -/
def limitReadout (s : State) : List Char :=
  if s.disp.setMode = .limit && !s.disp.blinkShown then "LIMIT".toList
  else if s.trip.speedLimit = 0 then "LIMIT OFF".toList
  else "LIMIT ".toList
    ++ withLegend s.straps.imperial (some (digits (inUnits s.straps.imperial s.trip.speedLimit))) "" " KM/H" " MPH"

/-- Whole degrees of a temperature code (09 R148). -/
def degrees (imperial : Bool) (code : Nat) : Int := if imperial then code * 9 / 10 - 40 else code / 2 - 40

/-- The outside temperature readout (09 R148). -/
def outsideReadout (s : State) : List Char :=
  "OUTSIDE ".toList ++ withLegend s.straps.imperial
    ((freshSlot s .bodyLamps 2).map (fun v => signed (degrees s.straps.imperial v.toNat))) "--" " C" " F"

/-- The base readout of the present number, with the set-mode form of readouts 8 and 9
(09 TABLE 9-4, R149). -/
def readoutChars (s : State) : List Char :=
  let imp := s.straps.imperial
  match s.disp.readout with
  | 1 => tripLetter s ++ withLegend imp (some (tenths (inUnits imp (shownTrip s).distance))) "" " KM" " MI"
  | 2 => tripLetter s ++ withLegend imp ((tripEconomy imp (shownTrip s)).map tenths) "--.-" " L/100KM" " MPG"
  | 3 =>
    tripLetter s
      ++ withLegend imp ((avgSpeed (shownTrip s)).map (fun v => digits (inUnits imp v))) "---" " KM/H" " MPH"
  | 4 => tripLetter s ++ tripTime (shownTrip s)
  | 5 =>
    "RANGE ".toList ++ withLegend imp ((rangeKm s).map (fun r => digits (inUnits imp r))) "----" " KM" " MI"
  | 6 => "NOW ".toList ++ withLegend imp (s.trip.instant.map tenths) "--.-" " L/100KM" " MPG"
  | 7 => journeyReadout s
  | 8 => clockReadout s
  | 9 => limitReadout s
  | _ => outsideReadout s

/-! ### The image -/

/-- The sixteen characters: the SHOWING record's text, else the review, else the base readout
(09 R140). -/
def shownChars (s : State) : List Char :=
  match showingRecord s with
  | some r => padded (textChars r.text)
  | none =>
    match s.warn.review with
    | .entry n => padded (warningText n)
    | .noWarnings => padded "NO WARNINGS".toList
    | .closed => padded (readoutChars s)

/-- The image as it stands: what is shown in RUN and WATCH, sixteen blanks and dark in STARTING and SLEEP, the
brightness by the BODY LAMPS entry in all of them (09 R140, R141). In OFFLINE, where the part sends nothing, the
image is the model's (entry 31). -/
def composeImage (s : State) : Image :=
  { chars := if awake s then shownChars s else blankChars, brightness := brightness s, lit := displayLit s }

/-- Take up a change of the image: a new transfer begins, or the change waits for the one in progress
(09 R140). -/
def refreshDisplay (s : State) : State :=
  if composeImage s = s.disp.image then s
  else
    match s.disp.transfer with
    | none => { s with disp := { s.disp with image := composeImage s, transfer := some (composeImage s) } }
    | some _ => { s with disp := { s.disp with image := composeImage s, changed := true } }

/-- The module takes the image at DLD; a change meanwhile costs one further transfer (09 R140). -/
def completeTransfer (s : State) : State :=
  match s.disp.transfer with
  | some sent =>
    if s.disp.changed then
      { s with disp := { s.disp with loaded := sent, transfer := some s.disp.image, changed := false } }
    else { s with disp := { s.disp with loaded := sent, transfer := none } }
  | none => s

/-- Code of a character in the module's set (09 R140). -/
def charByte (c : Char) : Byte := byteOf c.toNat

/-- The eighteen bytes of an image's transfer: characters, brightness, lit or dark (09 R140). -/
def imageBytes (i : Image) : List Byte :=
  i.chars.map charByte ++ [byteOf i.brightness, if i.lit then 1 else 0]

/-- Shown time of a record at this moment (09 R143). -/
def shownTime (s : State) (r : MsgRecord) : Nat := if r.showing then r.shown + (s.now - r.since) else r.shown

/-- What a command leaves when it is done: the sleep timer settled and the display's image up to date
(12 R173, 09 R140). -/
def settled (s : State) : State := refreshDisplay (settleSleep s)

end Sys2Proof.Machine
end

