-- ==== Sys2Proof/Machine/GaugeOps.lean ====
section
/-! DEFINITION. Machine/GaugeOps.lean: the damping step of the gauges: sources (02 R21), targets (R22 to
R24), the modes (R26 to R30), and the coil-off timer (R39). -/

namespace Sys2Proof.Machine

/-- The value a gauge's source has, none when it is unavailable (02 R21). -/
def gaugeSource (s : State) (g : Gauge) : Option Nat :=
  match gaugeSlot g with
  | some (k, i) => (freshSlot s k i).map (fun v => v.toNat)
  | none => usableFuel s

/-- The target of an available value (02 R22, R24). -/
def gaugeTarget (straps : Straps) (g : Gauge) (value : Nat) : Nat :=
  match g with
  | .g2 => clampNat 0 256 (value * 256 / usableCapacity straps.variant)
  | _ => curveAt (gaugeCurve straps g) value

/-- Move by a step limited to the slew, within the sweep (02 R26, R27). -/
def moveBy (sweep slew position : Nat) (step : Int) : Nat :=
  (clampInt 0 sweep ((position : Int) + clampInt (-(slew : Int)) slew step)).toNat

/-- The position after a step in TRACK (02 R26). -/
def trackStep (g : Gauge) (target position : Nat) : Nat :=
  moveBy (gaugeSpec g).sweep (gaugeSpec g).slew position
    (filterStep ((target : Int) - position) (2 ^ (gaugeSpec g).shift))

/-- The position after a step toward rest at a slew (02 R27). -/
def fallStep (g : Gauge) (slew position : Nat) : Nat :=
  moveBy (gaugeSpec g).sweep slew position (-(position : Int))

/-- The slew of REST (02 R27). -/
def restSlew : Nat := 4

/-- One channel's damping step; `target` is none when its source is unavailable (02 R26 to R30). -/
def channelStep (g : Gauge) (target : Option Nat) (c : Channel) : Channel :=
  match c.mode, target with
  | .park, _ => { c with position := fallStep g (gaugeSpec g).slew c.position }
  | .track, some t => { c with position := trackStep g t c.position }
  | .track, none => { c with mode := .hold, holdCount := 0 }
  | .hold, some t => { position := trackStep g t c.position, mode := .track, holdCount := 0 }
  | .hold, none =>
    if c.holdCount + 1 < 100 then { c with holdCount := c.holdCount + 1 }
    else { position := fallStep g restSlew c.position, mode := .rest, holdCount := 0 }
  | .rest, some t => { position := trackStep g t c.position, mode := .track, holdCount := 0 }
  | .rest, none => { c with position := fallStep g restSlew c.position }

/-- The target a gauge has now, none when its source is unavailable (02 R21, R22, R24). -/
def targetNow (s : State) (g : Gauge) : Option Nat := (gaugeSource s g).map (gaugeTarget s.straps g)

/-- Every channel takes its step (02 R25). -/
def stepChannels (s : State) : State :=
  { s with gauges := mapChannels (fun g c => channelStep g (targetNow s g) c) s.gauges }

/-- In WATCH, a step that leaves every pointer at 0 starts the coil-off timer (02 R39). -/
def startCoilOff (s : State) : State :=
  if s.power.mode = .watch && allAtRest s.gauges && !runs s.gauges.coilOffTimer then
    { s with gauges := { s.gauges with coilOffTimer := startFor s 1000 } }
  else s

/-- A damping step is taken: RUN or WATCH, the switch ON, no dip (02 R25). -/
def dampingTaken (s : State) : Bool := awake s && s.gauges.coilOn && !s.power.dip

/-- The 20 ms period falls (02 R25). -/
def dampingPeriod (s : State) : State :=
  let moved := if dampingTaken s then startCoilOff (stepChannels s) else s
  { moved with gauges := { moved.gauges with dampTimer := startFor s 20 } }

end Sys2Proof.Machine
end

