-- ==== Sys2Proof/Machine/Report.lean ====
section
/-! DEFINITION. Machine/Report.lean: frames heard (10 R153, 01 R10, 10 R161), the offer of a report to its
entry (01 R2, R3), the accepted arrival (R4) with its counter deltas (R7) and its consumers (TABLE 1-5), and
the expiry of a stale timer (R5, R6). -/

namespace Sys2Proof.Machine

/-! ### Frames heard -/

/-- What becomes of a received frame: nothing is received, the frame fails a test, it carries the part's own
address, or it is heard from another station (10 R153, R161, R164). -/
inductive Hearing where
  | deaf | discarded | own | heard
deriving DecidableEq, Repr

/-- How a frame is taken, for a frame whose length fits its kind or not (10 R153). -/
def hearing (s : State) (fits : Bool) (h : Heard) : Hearing :=
  if !receives s then .deaf
  else if !(isStation h.source && fits) then .discarded
  else if s.straps.address = some h.source then .own
  else .heard

/-- A frame heard from a station updates its roster entry (01 R10) and starts a running sleep timer again
(12 R173). -/
def noteHeard (h : Heard) (s : State) : State :=
  let listed := modifyRoster h.source (fun r =>
    { r with status := .live, lastHeard := s.now, lastReady := h.ready, timer := startFor s 2000 }) s
  { listed with power := { listed.power with
      sleepTimer := if runs s.power.sleepTimer then startFor s 5000 else none } }

/-- The part hears its own address from another sender (10 R161). -/
def noteClash (s : State) : State := { s with faults := { s.faults with clash := true } }

/-- A frame in reception, with what its kind does once it is heard (10 R153). -/
def hearFrame (fits : Bool) (h : Heard) (handle : State → State) (s : State) : State :=
  match hearing s fits h with
  | .deaf | .discarded => s
  | .own => noteClash s
  | .heard => handle (noteHeard h s)

/-- The length of the frame is that of its kind (10 R153). -/
def fitsKind (k : FrameKind) (h : Heard) : Bool := h.slots.length = kindSlots k

/-- A heard frame of this kind code and target goes no further than the roster: it is addressed to another
station, or it is a broadcast that is neither a report nor a ROLL CALL or PRESENCE (10 R153). -/
def goesNoFurther (own : Option Nat) (kind : Byte) (target : Nat) : Bool :=
  if target = 0 then
    (match kindOfCode kind with
     | some .rollCall | some .presence => false
     | some k => (reportKindOf k).isNone
     | none => true)
  else own ≠ some target && target ≤ Config.stations

/-! ### Counter deltas (01 R7) -/

/-- The greatest delta issued for a cumulative slot, none for a slot that is not cumulative
(01 TABLE 1-7). -/
def deltaLimit : ReportKind → Nat → Option Nat
  | .chassis, 1 => some 4096
  | .fuelFlow, 1 => some 1024
  | .fuelFlow, 2 => some 64
  | _, _ => none

/-- A cumulative slot against its baseline: the baseline after, and the delta issued, 0 for none
(01 R7). -/
def counterDelta (limit : Option Nat) (first : Bool) (base : Option Word) (slot : Slot) : Option Word × Nat :=
  match limit, slot with
  | some top, some v =>
    (match base with
     | some b => (some v, if !first && (v - b).toNat ≤ top then (v - b).toNat else 0)
     | none => (some v, 0))
  | _, _ => (base, 0)

/-! ### The offer (01 R2, R3) -/

/-- What an entry does with a report frame (01 R2, R3). -/
inductive Offer where
  | accept | rival | wait
deriving DecidableEq, Repr

/-- The decision of the entry's binding; the sender's roster entry has been updated (01 R2, R3). -/
def offerDecision (s : State) (k : ReportKind) (source : Nat) : Offer :=
  match (entryIn s k).bound with
  | none => .accept
  | some b =>
    if b = source then .accept
    else if !(entryIn s k).stale then .rival
    else if (rosterOf s source).lastReady then .accept
    else .wait

/-- A rival arrival is ignored: the rival flags are set (01 R3). -/
def markRival (k : ReportKind) (source : Nat) (s : State) : State :=
  modifyRoster source (fun r => { r with rival := true })
    { s with bus := setEntry k { entryIn s k with rivalSeen := true } s.bus }

/-- The frame comes from the station to which the entry was already bound. -/
def sameSource (s : State) (k : ReportKind) (source : Nat) : Bool := (entryIn s k).bound = some source

/-- The baseline of slot 1 or 2 before an accepted arrival: removed by a rebinding (01 R3, R8). -/
def baseBefore (s : State) (k : ReportKind) (source : Nat) (slot : Nat) : Option Word :=
  if sameSource s k source then (if slot = 1 then (entryIn s k).base1 else (entryIn s k).base2) else none

/-- The conversion of slot 1 or 2 of an accepted arrival (01 R7). -/
def slotDelta (s : State) (k : ReportKind) (h : Heard) (slot : Nat) : Option Word × Nat :=
  counterDelta (deltaLimit k slot) h.first (baseBefore s k h.source slot) (slotAt h.slots slot)

/-- The entry after an accepted arrival (01 R2, R4, R5, R7). -/
def acceptedEntry (s : State) (k : ReportKind) (h : Heard) : ReportEntry :=
  { entryIn s k with
    bound := some h.source, slots := (h.slots ++ List.replicate 6 none).take 6, ready := h.ready,
    arrivalTime := s.now, stale := false, base1 := (slotDelta s k h 1).1, base2 := (slotDelta s k h 2).1,
    staleTimer := startFor s (staleLimit k) }

/-! ### Consumers of an accepted arrival (01 TABLE 1-5, entry 7) -/

/-- Issue a delta to its consumer; a delta of 0 is not issued (01 R7). -/
def issue (consumer : Nat → State → State) (delta : Nat) (s : State) : State :=
  if delta = 0 then s else consumer delta s

/-- The held road speed of the mirror (01 R17). -/
def holdSpeed (speed : Slot) (s : State) : State :=
  match speed with
  | some v => { s with bus := { s.bus with heldSpeed := some v } }
  | none => s

/-- The gate speed (07 R115). -/
def takeGateSpeed (ready : Bool) (speed : Slot) (s : State) : State :=
  match speed with
  | some v => if ready then { s with warn := { s.warn with gateSpeed := some v } } else s
  | none => s

/-- The engine-running timer and engine-established follow the running bit (07 R115). -/
def followEngine (ready : Bool) (flags : Slot) (s : State) : State :=
  match flags with
  | some v =>
    if ready then
      (if v.getLsbD 0 then
         (if runs s.warn.engineTimer || s.warn.engineEst then s
          else { s with warn := { s.warn with engineTimer := startFor s 5000 } })
       else { s with warn := { s.warn with engineTimer := none, engineEst := false } })
    else s
  | none => s

/-- A rear call is raised: the call counter differs from the valid one held before, in a frame without
FIRST (01 R9). -/
def raisesCall (before : Slot) (h : Heard) : Bool :=
  !h.first &&
    (match before, slotAt h.slots 1 with
     | some old, some new => old ≠ new
     | _, _ => false)

/-- A rear call: its chime request and its message (08 R131, 09 R145). -/
def rearCall (s : State) : State :=
  postNote .rearCall .passengerCall 3 (some 10) (postChime .rearCall .call 3 3 s).2

/-- The consumers of a kind are told of an accepted arrival; `d1`, `d2` are the deltas of its cumulative
slots and `call` says that it raises a rear call (01 R4). The order in which one arrival's effects fall is the
model's choice where the manual gives none: ENGINE changes its gate before entries 1 and 3 are evaluated, and
REAR CONSOLE posts its call before hush decides (07 R116, 08 R133, entry 7). -/
def consumers (k : ReportKind) (h : Heard) (d1 d2 : Nat) (call : Bool) (s : State) : State :=
  match k with
  | .engine => evaluateReport .engine (applyGates (followEngine h.ready (slotAt h.slots 5) s))
  | .fuelFlow => issue runSeconds d2 (issue fuelDelta d1 s)
  | .chassis =>
    evaluateReport .chassis (applyGates (takeGateSpeed h.ready (slotAt h.slots 2)
      (holdSpeed (slotAt h.slots 2) (followStandstill (slotAt h.slots 2) (issue pulseDelta d1 s)))))
  | .tank => followPump (sampleAux h.ready (slotAt h.slots 2) (sampleMain h.ready (slotAt h.slots 1) s))
  | .bodyDoors => evaluateReport .bodyDoors s
  | .bodyLamps => evaluateReport .bodyLamps s
  | .rearConsole => hushChanged (if call then rearCall s else s)

/-- The call counter that the entry held before, absent before a binding (01 R9). -/
def callBefore (s : State) (source : Nat) : Slot :=
  if sameSource s .rearConsole source then slotAt (entryIn s .rearConsole).slots 1 else none

/-- An accepted arrival (01 R4). -/
def acceptArrival (k : ReportKind) (h : Heard) (s : State) : State :=
  consumers k h (slotDelta s k h 1).2 (slotDelta s k h 2).2 (raisesCall (callBefore s h.source) h)
    { s with bus := setEntry k (acceptedEntry s k h) s.bus }

/-- A heard report frame is offered to the entry of its kind (01 R2). -/
def offerReport (k : ReportKind) (h : Heard) (s : State) : State :=
  match offerDecision s k h.source with
  | .accept => acceptArrival k h s
  | .rival => markRival k h.source s
  | .wait => s

/-! ### Baselines, staleness -/

/-- Remove the baselines of every entry bound to a station (01 R12). -/
def dropBaselines (station : Nat) (s : State) : State :=
  { s with bus := mapEntries (fun _ e =>
      if e.bound = some station then { e with base1 := none, base2 := none } else e) s.bus }

/-- A heard PRESENCE with start kind 0 (01 R12). -/
def heardPresence (h : Heard) (s : State) : State :=
  if slotAt h.slots 1 = some 0 then dropBaselines h.source s else s

/-- What the going stale of an entry does to its consumers at once (03 R51, R55, 08 R132). -/
def staleEffects (k : ReportKind) (s : State) : State :=
  match k with
  | .chassis => clearStandstill s
  | .tank => clearPump s
  | .rearConsole => hushChanged s
  | _ => s

/-- The entry after its stale limit (01 R5, R6). -/
def staleEntry (s : State) (k : ReportKind) : ReportEntry :=
  { entryIn s k with stale := true, staleTimer := startFor s (staleLimit k) }

/-- The stale timer of a bound entry expires: stale, timed afresh, and a DEMAND to the bound source
(01 R5, R6). That the end of hush at REAR CONSOLE, with the CHIME STATUS it may queue, comes before the DEMAND is
offered is the model's choice (08 R133, entry 7). -/
def expireStale (k : ReportKind) (s : State) : State :=
  match (entryIn s k).bound with
  | some source =>
    if runs (entryIn s k).staleTimer then
      offerOwned (.staleDemand source) (staleEffects k
        { s with bus := setEntry k (staleEntry s k) s.bus })
    else s
  | none => s

end Sys2Proof.Machine
end

