-- ==== Sys2Proof/Machine/PowerOps.lean ====
section
/-! DEFINITION. Machine/PowerOps.lean: cold start (12 R171), changes of power state (12 R172, 02 R38, R39,
07 R126, 09 R151), entry to SLEEP (12 R173), wake start and warm restart (12 R174, R176), roster refresh
(01 R19) and the supply dip (12 R175), each as the tables of the chapters state. -/

namespace Sys2Proof.Machine

/-! ### Cold start -/

/-- The standby supply comes up: everything at its cold-start value, SETTLE and the clock's seconds begin, the
dark image is sent, and the dip is in force if an input is active (12 R171, R175, 04 R78, 09 R141). That the
transfer of that image begins with SETTLE is DEDUCED (entry 31). -/
def coldStart (crank lowv : Bool) (s : State) : State :=
  { State.reset with
    pending := s.pending, now := s.now,
    power := { State.reset.power with mode := .starting .settle, startTimer := startFor s 50,
                                      crank := crank, lowv := lowv, dip := crank || lowv },
    clock := { Clock.cold with secondTimer := startFor s 1000 },
    disp := { Display.cold with transfer := some .dark },
    nsp := { Nsp.cold with memory := s.nsp.memory } }

/-- The external memory at a loss of supply: a word still being stored may be cut (11 "The Word Map",
entry 8). -/
def cutMemory (cut : Option Word) (n : Nsp) : List (Nat × Word) :=
  match n.storing, cut with
  | some a, some v => writeWord (a % Config.memoryWords) v n.memory
  | _, _ => n.memory

/-- The standby supply is lost: all state is lost; the external memory keeps its words (12 R171). -/
def supplyLost (cut : Option Word) (s : State) : State :=
  { State.reset with pending := s.pending, now := s.now, nsp := { Nsp.cold with memory := cutMemory cut s.nsp } }

/-- High levels among the six address and parity straps (10 R163). -/
def strapHighs (p : StrapPins) : Nat :=
  p.adr.toNat % 2 + p.adr.toNat / 2 % 2 + p.adr.toNat / 4 % 2 + p.adr.toNat / 8 % 2 + p.adr.toNat / 16
    + (if p.apr then 1 else 0)

/-- The own address, or none for listen-only (10 R163). -/
def strapAddress (p : StrapPins) : Option Nat :=
  if strapHighs p % 2 = 1 && 1 ≤ p.adr.toNat && p.adr.toNat ≤ 29 then some p.adr.toNat else none

/-- The STRAPS step, and the beginning of LOAD (12 R171, 10 R163). -/
def sampleStraps (p : StrapPins) (s : State) : State :=
  { s with
    power := { s.power with mode := .starting .load, startTimer := none },
    straps := { address := strapAddress p, variant := p.var, pulseSel := p.pk, imperial := p.unt },
    faults := { s.faults with strap := (strapAddress p).isNone },
    nsp := { s.nsp with loadTries := 0, loadRetry := none } }

/-! ### Entering RUN and WATCH -/

/-- A timer that runs goes on; a stopped one starts. -/
def keepOrStart (s : State) (ms : Nat) (t : Timer) : Timer := if runs t then t else startFor s ms

/-- A press in progress is cancelled: nothing more comes of it (09 R146). -/
def cancelKey (k : KeyState) : KeyState :=
  match k with
  | .released => .released
  | .held _ => .held .nothing

/-- Every press in progress is cancelled (09 R146). -/
def cancelKeys (k : Keys) : Keys :=
  { k with mode := cancelKey k.mode, select := cancelKey k.select, reset := cancelKey k.reset,
           note := cancelKey k.note, journey := cancelKey k.journey }

/-- The Warning Unit at a change of power state to RUN or WATCH: window and grace cleared, the evaluation
timer afresh, the review closed, proving as the new state has it (07 R114, R126). -/
def warnAtChange (s : State) (proving : Timer) : Warn :=
  { s.warn with
    evalTimer := startFor s 250, flashTimer := keepOrStart s 500 s.warn.flashTimer, provingTimer := proving,
    windowTimer := none, window := false, graceTimer := none, graceEnded := false, review := .closed,
    reviewTimer := none }

/-- The display unit at a change of power state: set mode is left (09 R149), the display timer as the new
state has it (09 R141). -/
def dispAtChange (d : Display) (displayTimer : Timer) : Display :=
  { d with setMode := .none, setTimer := none, blinkTimer := none, blinkShown := true,
           displayTimer := displayTimer }

/-- Every channel takes a mode with a fresh hold count (02 R38, R39). -/
def allChannels (m : GaugeMode) (g : Gauges) : Gauges :=
  mapChannels (fun _ c => { c with mode := m, holdCount := 0 }) g

/-- The change to RUN, before the gates are judged (12 R172, 02 R38, 03 R47, 04 R68, 07 R124). The manual gives
the 20 ms period of the damping steps no beginning: that it begins at the first change to RUN or WATCH after a cold
start, with its first fall 20 ms later, is the model's choice (02 R25, entry 37). -/
def runBegun (s : State) : State :=
  { s with
    power := { s.power with mode := .run, sleepTimer := none },
    bus := { s.bus with mirrorTimer := keepOrStart s 500 s.bus.mirrorTimer },
    gauges := { allChannels .track s.gauges with
                coilOn := true, coilOffTimer := none, dampTimer := keepOrStart s 20 s.gauges.dampTimer },
    fuel := { s.fuel with corrTimer := startFor s 1000 },
    trip := { s.trip with tripSecondTimer := startFor s 1000,
                          samplerTimer := keepOrStart s 250 s.trip.samplerTimer },
    warn := warnAtChange s (startFor s 3000),
    disp := dispAtChange s.disp none,
    keys := cancelKeys s.keys }

/-- A change of power state to RUN (12 R172). -/
def enterRun (s : State) : State := applyGates (runBegun s)

/-- The state of WATCH that its start and the change from RUN share; `gauges` is the gauge unit there. A damping
period that does not run yet begins here (the model's choice, entry 37). -/
def watchBegun (gauges : Gauges) (s : State) : State :=
  { s with
    power := { s.power with mode := .watch, sleepTimer := none },
    bus := { s.bus with mirrorTimer := keepOrStart s 500 s.bus.mirrorTimer },
    gauges := { gauges with dampTimer := keepOrStart s 20 gauges.dampTimer },
    fuel := { s.fuel with corrTimer := none },
    trip := { s.trip with tripSecondTimer := none, samplerTimer := keepOrStart s 250 s.trip.samplerTimer },
    warn := warnAtChange s none,
    disp := dispAtChange s.disp (startFor s 30000),
    keys := cancelKeys s.keys }

/-- The gauge unit at a start into WATCH: the coils gather the pointers for 1 s (02 R41). -/
def gaugesGathering (s : State) : Gauges :=
  { allChannels .park s.gauges with coilOn := true, coilOffTimer := startFor s 1000 }

/-- The gauge unit at a change from RUN to WATCH (02 R39). -/
def gaugesParking (s : State) : Gauges :=
  { allChannels .park s.gauges with
    coilOffTimer := if allAtRest s.gauges then startFor s 1000 else none }

/-- A start into WATCH, at the end of LISTEN or at a wake start (12 R171, R174). -/
def startIntoWatch (s : State) : State := applyGates (watchBegun (gaugesGathering s) s)

/-- An item whose remainders have moved is marked (06 R101). -/
def markMoved (s : State) (i : Nat) : State := if (itemOf s i).moved then markItem i s else s

/-- What a change from RUN to WATCH offers to the store: the odometer, the open journey slot and the moved
service records (12 R172, 04 R65, 05 R89, 06 R101). -/
def offerStores (s : State) : State :=
  let odometer := markOdometer s
  itemNumbers.foldl markMoved (if odometer.journey.openJourney.isSome then markOpenSlot odometer else odometer)

/-- The change from RUN to WATCH (12 R172). -/
def enterWatch (s : State) : State :=
  offerStores (applyGates (endReminders (watchBegun (gaugesParking s) s)))

/-! ### Entry to SLEEP (12 R173 and the tables it names) -/

/-- Report table and roster in SLEEP (01 TABLE 1-12). -/
def sleepBus (b : Bus) : Bus :=
  { mapEntries (fun _ e => { e with staleTimer := none }) b with
    roster := b.roster.map (fun r => { r with timer := none }),
    demands := b.demands.map (fun d => { d with wait := none }),
    mirrorTimer := none }

/-- Fuel Estimator in SLEEP: its timers stand (03 R60, entry 26). -/
def sleepFuel (f : Fuel) : Fuel :=
  { f with standTimer := none, pumpTimer := none, corrTimer := none, stopTimer := none }

/-- Warning Unit in SLEEP, and at a wake start but for engine-established (07 TABLE 7-5). The table gives the
flash phase no value there, and keeping it as it stood is the model's choice (entry 5). -/
def quietWarn (engineEst : Bool) (w : Warn) : Warn :=
  { Warn.cold with engineEst := engineEst, gateSpeed := w.gateSpeed, flashLit := w.flashLit }

/-- Gauge Drive Unit in SLEEP, and at a wake start or warm restart before the power state is entered: every
channel at 0 in PARK and the switch OFF. The 20 ms period runs on through both, and a PWM frame in progress
completes (02 R25, R37, R40, R41). -/
def restGauges (g : Gauges) : Gauges := { Gauges.cold with dampTimer := g.dampTimer, frame := g.frame }

/-- Display unit in SLEEP and at a wake start: the image's timer and set mode end, and the base readout with the
alternation of its journey form runs on (09 R148, TABLE 9-6, entry 21). -/
def quietDisp (d : Display) : Display := dispAtChange d none

/-- Body Line Port in SLEEP: an attempt in flight is completed (10 R164). -/
def sleepPort (p : Port) : Port :=
  { p with queue := p.queue.filter (fun e => e.inFlight), owed := [], intake := [], faultCount := 0,
           pauseTimer := none, holdOff := none, pulseUntil := none, wakeWanted := false, lineHeld := false }

/-- The entry to SLEEP (12 R173). -/
def enterSleep (s : State) : State :=
  { s with
    power := { s.power with mode := .sleep, sleepTimer := none },
    bus := sleepBus s.bus, gauges := restGauges s.gauges, fuel := sleepFuel s.fuel,
    trip := { s.trip with tripSecondTimer := none, samplerTimer := none },
    service := { s.service with cursor := none, repostTimer := none },
    warn := quietWarn s.warn.engineEst s.warn,
    chime := { s.chime with requests := [], element := 0, elementTimer := none },
    msg := { s.msg with queue := [], minTimer := none, maxTimer := none },
    disp := quietDisp s.disp, keys := .cold, port := sleepPort s.port }

/-! ### Wake start and warm restart (12 R174, R176) -/

/-- A report entry at a wake start (01 TABLE 1-12). -/
def wakeEntry (s : State) (k : ReportKind) (e : ReportEntry) : ReportEntry :=
  if e.bound.isSome then { e with stale := true, staleTimer := startFor s (staleLimit k) }
  else { e with stale := false, staleTimer := none }

/-- A roster entry at a wake start (01 TABLE 1-12). -/
def wakeRoster (r : RosterEntry) : RosterEntry :=
  { r with status := if r.status = .live then .silent else r.status, timer := none }

/-- Report table and roster at a wake start (01 TABLE 1-12). -/
def wakeBus (s : State) : Bus :=
  { mapEntries (wakeEntry s) s.bus with
    roster := s.bus.roster.map wakeRoster, demands := s.bus.demands.map (fun _ => .empty), mirrorTimer := none }

/-- Fuel Estimator at a wake start (03 TABLE 3-8). -/
def wakeFuel (f : Fuel) : Fuel :=
  { f with mainRing := [], auxRing := [], snapPending := true, standstill := false, standTimer := none,
           pumpLong := false, pumpTimer := none, corrTimer := none, stopTimer := none }

/-- Body Line Port at a wake start: from SLEEP the transmit queue is empty, at a warm restart it is kept
(10 TABLE 10-8). The table has no column for a wake pulse: that one asked for at a key wake and not yet driven is
still sent after a warm restart, and one being driven goes on through it, is the model's choice (10 R162, 12 R176,
entry 26). -/
def wakePort (warm : Bool) (p : Port) : Port :=
  { p with queue := if warm then p.queue else [], sending := if warm then p.sending else none, owed := [],
           intake := [], sentWhole := [], faultCount := 0 }

/-- Every block set for a wake start, before the power state is entered; the request set and the message
queue are emptied, and every key is open until a press is accepted (12 R174, R176, the chapters' tables, 09 R146,
entry 23). -/
def wakeBlocks (warm : Bool) (kind : Nat) (s : State) : State :=
  let quiet := emptyMessages (emptyChimes { s with port := wakePort warm s.port })
  { quiet with
    power := { quiet.power with lastStart := kind, sleepTimer := none },
    bus := wakeBus quiet, gauges := restGauges quiet.gauges, fuel := wakeFuel quiet.fuel,
    trip := { quiet.trip with ring := [], instant := none, tripSecondTimer := none, samplerTimer := none },
    service := { quiet.service with cursor := none, repostTimer := none },
    warn := quietWarn false quiet.warn,
    disp := quietDisp quiet.disp,
    keys := .cold }

/-- Enter RUN or WATCH after a start. -/
def startInto (toRun : Bool) (s : State) : State := if toRun then enterRun s else startIntoWatch s

/-- The wake start from SLEEP: the blocks, the power state, the records marked in SLEEP, the PRESENCE
(12 R174, 05 R95). -/
def wakeStart (toRun : Bool) (s : State) : State :=
  offerOwned .presence (kickWriter (reofferAll (startInto toRun (wakeBlocks false 1 s))))

/-- The warm restart (12 R176). -/
def warmRestart (s : State) : State :=
  offerOwned .presence (startInto s.power.ignOn (wakeBlocks true 2 s))

/-- The roster refresh (01 R19, 12 R176, 03 TABLE 3-8). That a refresh which ends hush has the arbiter decide, with
the CHIME STATUS it may queue, before the ROLL CALL is offered is the model's choice (08 R133, entry 7). -/
def rosterRefresh (s : State) : State :=
  let unbound := { s with
    bus := { Bus.cold with heldSpeed := s.bus.heldSpeed, mirrorTimer := s.bus.mirrorTimer },
    port := { s.port with owed := s.port.owed.filter (fun o =>
      match o.1 with
      | .staleDemand _ => false
      | _ => true) } }
  offerOwned .rollCall (hushChanged (clearPump (clearStandstill unbound)))

/-! ### The supply dip (12 R175) -/

/-- An input becomes active. -/
def setDipInput (i : DipInput) (p : Power) : Power :=
  match i with
  | .crank => { p with crank := true, settleTimer := none }
  | .lowv => { p with lowv := true, settleTimer := none }

/-- The dip begins: the chime is silenced, the busy-poll stops, and the ENGINE gate is false
(12 R175, 08 R137, 11 R167, 07 R116). -/
def beginDip (s : State) : State :=
  let silenced := silenceForDip { s with power := { s.power with dip := true } }
  applyGates { silenced with nsp := dipStopsWriter silenced.nsp }

/-- The dip ends: the arbiter decides and the store port takes up its head (12 R175, 08 R137, 11 R167). -/
def endDip (s : State) : State :=
  dipFreesWriter (withArbiter id { s with power := { s.power with dip := false, settleTimer := none } })

end Sys2Proof.Machine
end

