-- ==== Sys2Proof/Machine/KeyOps.lean ====
section
/-! DEFINITION. Machine/KeyOps.lean: accepted presses of the five keys (09 R146, R147, TABLE 9-5), base
readout and trip selection (R148), set mode (R149), NOTE (R150), and the long actions (04 R69, 05 R86, R87,
06 R106). -/

namespace Sys2Proof.Machine

/-! ### Base readout and set mode -/

/-- The base readout becomes a number; the journey readout begins to alternate when it becomes the base
readout (09 R148, entry 21). -/
def setReadout (n : Nat) (s : State) : State :=
  if s.disp.readout = n then s
  else
    { s with disp := { s.disp with
        readout := n, journeyKm := false, altTimer := if n = 7 then startFor s 2000 else none } }

/-- The readout that MODE goes to (09 TABLE 9-5). -/
def readoutAfter (n : Nat) : Nat := if 10 ≤ n then 1 else n + 1

/-- MODE on a readout: the next one (09 TABLE 9-5). -/
def nextReadout (s : State) : State := setReadout (readoutAfter s.disp.readout) s

/-- The blink of the field being set begins afresh, shown (09 R149). -/
def restartBlink (s : State) : State :=
  { s with disp := { s.disp with blinkTimer := startFor s 500, blinkShown := true } }

/-- A step of set mode is entered (09 R149). -/
def setModeTo (m : SetMode) (s : State) : State :=
  restartBlink { s with disp := { s.disp with setMode := m, setTimer := startFor s 10000 } }

/-- An accepted press in set mode counts its 10 s afresh (09 R149). -/
def keepSetMode (s : State) : State :=
  if s.disp.setMode = .none then s else { s with disp := { s.disp with setTimer := startFor s 10000 } }

/-- One step of the value being set (09 R149, 04 R79, R80). -/
def stepValue (s : State) : State :=
  match s.disp.setMode with
  | .none => s
  | .hours => restartBlink (hoursStep s)
  | .minutes => restartBlink (minutesStep s)
  | .limit => restartBlink { s with trip := { s.trip with speedLimit := nextLimit s.trip.speedLimit } }

/-! ### What a press finds (09 TABLE 9-5) -/

/-- What the display shows when a press is accepted. -/
inductive Shown where
  | record (r : MsgRecord)
  | review
  | readout
  | setMode
deriving DecidableEq, Repr

/-- The column of 09 TABLE 9-5 in which a press falls. -/
def shownNow (s : State) : Shown :=
  match showingRecord s with
  | some r => .record r
  | none => if s.warn.review ≠ .closed then .review else if s.disp.setMode ≠ .none then .setMode else .readout

/-! ### The actions of a press -/

/-- MODE (09 TABLE 9-5). -/
def modeAction (s : State) : State :=
  match shownNow s with
  | .record _ => s
  | .review => nextReadout (closeReview s)
  | .readout => nextReadout s
  | .setMode => nextReadout (leaveSetMode s)

/-- SELECT on a readout: the other trip, or set mode (09 TABLE 9-5). -/
def selectOnReadout (s : State) : State :=
  if 1 ≤ s.disp.readout && s.disp.readout ≤ 4 then { s with disp := { s.disp with selB := !s.disp.selB } }
  else if s.disp.readout = 8 then setModeTo .hours s
  else if s.disp.readout = 9 then setModeTo .limit s
  else s

/-- SELECT (09 TABLE 9-5, R149). -/
def selectAction (s : State) : State :=
  match shownNow s with
  | .record _ => s
  | .review => selectOnReadout (closeReview s)
  | .readout => selectOnReadout s
  | .setMode => if s.disp.setMode = .hours then setModeTo .minutes s else leaveSetMode s

/-- The long action of a RESET pressed on a readout: the shown trip, 2 s from the acceptance (09 R146,
TABLE 9-5). -/
def resetOnReadout (s : State) : KeyAction :=
  if 1 ≤ s.disp.readout && s.disp.readout ≤ 4 then .tripReset s.disp.selB (s.now + 2000) else .nothing

/-- The item whose reminder a record is (06 R106). -/
def reminderItem (r : MsgRecord) : Option Nat :=
  match r.origin, r.text with
  | .reminder, .service _ i => some i
  | _, _ => none

/-- The long action that a RESET press fixes at its acceptance; a service item's falls 5 s from it (09 R146,
TABLE 9-5, 06 R106). -/
def resetHolds (s : State) : KeyAction :=
  match shownNow s with
  | .record r =>
    (match reminderItem r with
     | some i => .serviceReset i (s.now + 5000)
     | none => .nothing)
  | .review | .readout => resetOnReadout s
  | .setMode => .nothing

/-- RESET at its acceptance: it ends a review, and steps the value in set mode (09 TABLE 9-5). -/
def resetAction (s : State) : State :=
  match shownNow s with
  | .record _ | .readout => s
  | .review => closeReview s
  | .setMode => stepValue s

/-- A record leaves the queue by its time or by NOTE; the reminder's departure advances the cursor
(09 R144, 06 R104, entry 19). -/
def departRecord (o : MsgOrigin) (s : State) : State :=
  match o with
  | .reminder => advanceReminder (removeRecord .reminder s)
  | o => removeRecord o s

/-- NOTE on the SHOWING record (09 R150, 07 R120). -/
def noteRecord (o : MsgOrigin) (s : State) : State :=
  match o with
  | .warning n => departRecord o (acknowledge n s)
  | o => departRecord o s

/-- NOTE (09 TABLE 9-5, R150). -/
def noteAction (s : State) : State :=
  match shownNow s with
  | .record r => noteRecord r.origin s
  | .review => moveReview s
  | .readout => openReview s
  | .setMode => openReview (leaveSetMode s)

/-- What a JOURNEY press holds: its actions, the long one 2 s from the acceptance (09 R146). -/
def journeyHolds (s : State) : KeyAction := .journey (s.now + 2000)

/-- JOURNEY at its acceptance: it leaves set mode (09 TABLE 9-5). -/
def journeyAction (s : State) : State :=
  match shownNow s with
  | .setMode => leaveSetMode s
  | _ => s

/-! ### Accepted presses (09 R146) -/

/-- Put a key's state. -/
def holdKey (k : Key) (v : KeyState) (s : State) : State := { s with keys := setKey k v s.keys }

/-- The press is the one that woke the part (09 R146, entry 22). -/
def isWakingPress (k : Key) (s : State) : Bool :=
  match s.keys.waking with
  | some (w, deadline) => w = k && s.now ≤ deadline
  | none => false

/-- The press finds the display dark, or woke the part: it lights the display and posts its click, and is
not otherwise acted on (09 R146). -/
def findsDark (k : Key) (s : State) : Bool :=
  isWakingPress k s || (s.power.mode = .watch && !runs s.disp.displayTimer)

/-- What every accepted press does first: the display timer of WATCH, and the click (09 R141, R146). -/
def pressNoted (s : State) : State := keyClick (wakeDisplay s)

/-- An accepted press of a key: `holds` is the long action it fixes, `act` what it does at once. A press of
a key already held, or outside RUN and WATCH, does not occur (entry 4). -/
def acceptPress (k : Key) (holds : State → KeyAction) (act : State → State) (s : State) : State :=
  if awake s && keyOf s.keys k = .released then
    (if findsDark k s then
       holdKey k (.held .nothing) (pressNoted { s with keys := { s.keys with waking := none } })
     else holdKey k (.held (holds s)) (act (keepSetMode (pressNoted s))))
  else s

/-- An accepted opening of a key that is held, in RUN and WATCH (09 R146). -/
def acceptRelease (k : Key) (act : KeyAction → State → State) (s : State) : State :=
  match keyOf s.keys k with
  | .held a => if awake s then act a (holdKey k .released s) else s
  | .released => s

/-- A long action is taken: nothing more comes of the press (09 R146). -/
def takeLong (k : Key) (s : State) : State := holdKey k (.held .nothing) s

/-- Reset a trip, B when `b` (04 R69). -/
def tripResetOp (b : Bool) (s : State) : State :=
  if b then { s with trip := { s.trip with tripB := .zero } } else { s with trip := { s.trip with tripA := .zero } }

/-- A short press of JOURNEY: opens a journey, or shows the journey readout (05 R86, 09 TABLE 9-5). That its release
leaves a set mode entered by SELECT during the hold as it is, under the journey readout, is the model's choice
(09 R149, entry 20). -/
def journeyShort (a : KeyAction) (s : State) : State :=
  match a with
  | .journey _ => if s.journey.openJourney.isSome then setReadout 7 s else openJourneyOp s
  | _ => s

/-- A press of JOURNEY that reaches 2 s: closes the journey, or opens one (05 R86, R87). -/
def journeyLong (s : State) : State :=
  match s.journey.openJourney with
  | some j => closeJourneyOp j s
  | none => openJourneyOp s

end Sys2Proof.Machine
end

