-- ==== Sys2Proof/Machine/Operands.lean ====
section
/-! DEFINITION. Machine/Operands.lean: what the slots of a command frame stand for (10 TABLE 10-2), the
answer the part gives to an addressed frame (10 R157, TABLE 10-5), and the head of the intake queue
(10 R158). -/

namespace Sys2Proof.Machine

/-- The commands taken by the part (10 TABLE 10-5, first row). -/
def isTakenCommand : FrameKind → Bool
  | .demand | .chimeRequest | .notice | .serviceReset | .journeyClear | .restartRequest | .clockSet => true
  | _ => false

/-- The commands taken from the service position alone (10 TABLE 10-5, second row). -/
def isServiceCommand : FrameKind → Bool
  | .serviceReset | .journeyClear | .restartRequest => true
  | _ => false

/-- A DEMAND's command: mask at most 63, index invalid or at most 9 (01 R14, 10 TABLE 10-5). -/
def parseDemand (mask : Word) (index : Slot) : Option Command :=
  if mask.toNat ≤ 63 then
    (match index with
     | some i => if i.toNat ≤ 9 then some (.demand (BitVec.ofNat 6 mask.toNat) (some i.toNat)) else none
     | none => some (.demand (BitVec.ofNat 6 mask.toNat) none))
  else none

/-- A CHIME REQUEST's command: pattern at most 7, repetitions at most 9 (08 R131, 10 TABLE 10-5). -/
def parseChime (pattern reps : Word) : Option Command :=
  match patternOfCode pattern.toNat with
  | some p => if reps.toNat ≤ 9 then some (.chime p reps.toNat) else none
  | none => none

/-- A NOTICE's command: a text that exists, 1 to 30 s (09 R145, 10 TABLE 10-5). -/
def parseNotice (text seconds : Word) : Option Command :=
  if noticeExists text.toNat && 1 ≤ seconds.toNat && seconds.toNat ≤ 30 then
    some (.notice text.toNat seconds.toNat)
  else none

/-- A RESTART REQUEST's command (12 R176). -/
def parseRestart (action : Word) : Option Command :=
  match action.toNat with
  | 1 => some .rosterRefresh
  | 2 => some .warmRestart
  | _ => none

/-- The command of a frame's slots, none when a slot is invalid or out of range (10 TABLE 10-5, third
row). -/
def parseCommand : FrameKind → List Slot → Option Command
  | .demand, [some mask, index] => parseDemand mask index
  | .chimeRequest, [some pattern, some reps] => parseChime pattern reps
  | .notice, [some text, some seconds] => parseNotice text seconds
  | .serviceReset, [some item] => if item.toNat ≤ 8 then some (.serviceReset item.toNat) else none
  | .journeyClear, [] => some .journeyClear
  | .restartRequest, [some action] => parseRestart action
  | .clockSet, [some minutes] => if minutes.toNat ≤ 1439 then some (.clockSet minutes.toNat) else none
  | _, _ => none

/-- The chime set cannot take a peer's request: full, its source not in it, and the worst present not
outranked (10 TABLE 10-5, 08 R130). -/
def chimeRefused (s : State) (source : Nat) (pattern : ChimePattern) (reps : Nat) : Bool :=
  reps ≠ 0 && !sourcePresent (.peer source) s.chime.requests
    && Config.chimeCapacity ≤ s.chime.requests.length
    && (match worstRequest s.chime.requests with
        | some w => w.priority ≤ (if pattern = .call then 3 else 4)
        | none => false)

/-- The state of the car, the journey or the chime set refuses the command (10 TABLE 10-5, rows four to
six). -/
def refusedNow (s : State) (source : Nat) : Command → Bool
  | .serviceReset _ => !carStopped s
  | .journeyClear => !carStopped s || s.journey.openJourney.isSome
  | .chime pattern reps => chimeRefused s source pattern reps
  | _ => false

/-- The answer to a heard addressed frame, with the command taken when it is TAKE
(10 R157, TABLE 10-5). -/
def decideAnswer (s : State) (kind : Byte) (h : Heard) : Answer × Option Command :=
  match kindOfCode kind with
  | none => (.refuse, none)
  | some k =>
    if !isTakenCommand k then (.refuse, none)
    else if isServiceCommand k && h.source ≠ 30 then (.refuse, none)
    else
      match parseCommand k h.slots with
      | none => (.refuse, none)
      | some c =>
        if refusedNow s h.source c then (.refuse, none)
        else if Config.intakeCapacity ≤ s.port.intake.length then (.hold, none)
        else (.take, some c)

/-- The part drives the answer slot: RUN or WATCH, not listen-only (10 R157). -/
def answers (s : State) : Bool := awake s && s.straps.address.isSome

/-- A heard frame addressed to the part is answered; a command given TAKE joins the intake queue
(10 R157, R158). -/
def answerHeard (kind : Byte) (h : Heard) (s : State) : State :=
  if answers s then
    { s with port := { s.port with
        answer := some (decideAnswer s kind h).1,
        intake := s.port.intake ++
          (match (decideAnswer s kind h).2 with
           | some c => [{ source := h.source, command := c }]
           | none => []) } }
  else { s with port := { s.port with answer := none } }

/-- The command at the head of the intake queue, in RUN and WATCH (10 R158). -/
def intakeHead (s : State) : Option IntakeEntry := if awake s then s.port.intake.head? else none

/-- The owner takes the head of the intake queue (10 R158). -/
def dropHead (s : State) : State := { s with port := { s.port with intake := s.port.intake.drop 1 } }

end Sys2Proof.Machine
end

