-- ==== Sys2Proof/Machine/HeardCommands.lean ====
section
/-! DEFINITION. Machine/HeardCommands.lean: the commands that are frames heard (10 R153) and the commands
taken from the intake queue (10 R158). -/

namespace Sys2Proof.Machine

/-! ### Frames heard -/

/-- REPORT_ARRIVAL: a report broadcast (01 R2, 10 R153). -/
def execReportArrival (kind : ReportKind) (frame : Heard) (s : State) : Host.Outcome State Fault Refusal :=
  .next (settled (hearFrame (fitsKind (reportFrameKind kind) frame) frame (offerReport kind frame) s))

/-- ROLL_CALL: the part's own PRESENCE is queued (01 R13). -/
def execRollCall (frame : Heard) (s : State) : Host.Outcome State Fault Refusal :=
  .next (hearFrame (fitsKind .rollCall frame) frame (offerOwned .presence) s)

/-- PRESENCE (01 R12). -/
def execPresence (frame : Heard) (s : State) : Host.Outcome State Fault Refusal :=
  .next (hearFrame (fitsKind .presence frame) frame (heardPresence frame) s)

/-- OTHER_FRAME_HEARD: a frame for another station, or a broadcast that goes no further (10 R153). -/
def execOtherFrameHeard (kind : Byte) (target : Nat) (frame : Heard) (s : State) :
    Host.Outcome State Fault Refusal :=
  .next (if goesNoFurther s.straps.address kind target then hearFrame (lengthFits kind frame.slots) frame id s else s)

/-- OWN_ADDRESS_FRAME_HEARD: from LISTEN on, not while listen-only (10 R161). -/
def execOwnAddressFrameHeard (s : State) : Host.Outcome State Fault Refusal :=
  .next (if receives s && s.straps.address.isSome then noteClash s else s)

/-- A frame in reception is discarded: a wake pulse holds the line, and stands in for one the part was to
send; no other discard changes anything (10 R152, R153, R162, entry 15). -/
def discardFrame (cause : DiscardCause) (s : State) : State :=
  match cause with
  | .dominantStop | .longRun | .failedTest => s
  | .wakePulse => { s with port := { s.port with wakeWanted := false, lineHeld := true } }

/-- FRAME_DISCARDED (10 R152, R153, R162). -/
def execFrameDiscarded (cause : DiscardCause) (s : State) : Host.Outcome State Fault Refusal :=
  .next (if receives s then discardFrame cause s else s)

/-- ADDRESSED_FRAME_ANSWER: a frame addressed to the part (10 R157). -/
def execAddressedFrameAnswer (kind : Byte) (frame : Heard) (s : State) : Host.Outcome State Fault Refusal :=
  .next (hearFrame (lengthFits kind frame.slots) frame (answerHeard kind frame) s)

/-! ### Commands taken from the intake queue -/

/-- DEMAND (01 R14, R15). -/
def execDemand (s : State) : Host.Outcome State Fault Refusal :=
  .next (match intakeHead s with
    | some ⟨source, .demand mask index⟩ => takeDemand source mask index (dropHead s)
    | _ => s)

/-- A peer's CHIME REQUEST: withdrawn for 0 repetitions, posted otherwise (08 R131). -/
def peerChime (source : Nat) (pattern : ChimePattern) (reps : Nat) (s : State) : State :=
  if reps = 0 then withdrawChime (.peer source) s
  else (postChime (.peer source) pattern (if pattern = .call then 3 else 4) reps s).2

/-- CHIME_REQUEST (08 R131). -/
def execChimeRequest (s : State) : Host.Outcome State Fault Refusal :=
  .next (match intakeHead s with
    | some ⟨source, .chime pattern reps⟩ => settled (peerChime source pattern reps (dropHead s))
    | _ => s)

/-- NOTICE (09 R145). -/
def execNotice (s : State) : Host.Outcome State Fault Refusal :=
  .next (match intakeHead s with
    | some ⟨source, .notice text seconds⟩ =>
      settled (postNote (.notice source) (.notice text) 4 (some seconds) (dropHead s))
    | _ => s)

/-- SERVICE_RESET: discarded unless the car is stopped (06 R105). -/
def execServiceReset (s : State) : Host.Outcome State Fault Refusal :=
  .next (match intakeHead s with
    | some ⟨_, .serviceReset item⟩ =>
      if carStopped s then settled (serviceResetOp item (dropHead s)) else dropHead s
    | _ => s)

/-- JOURNEY_CLEAR: discarded unless the car is stopped with no journey open (05 R91). -/
def execJourneyClear (s : State) : Host.Outcome State Fault Refusal :=
  .next (match intakeHead s with
    | some ⟨_, .journeyClear⟩ =>
      if carStopped s && s.journey.openJourney.isNone then settled (clearJourneys (dropHead s)) else dropHead s
    | _ => s)

/-- CLOCK_SET (04 R79). -/
def execClockSet (s : State) : Host.Outcome State Fault Refusal :=
  .next (match intakeHead s with
    | some ⟨_, .clockSet minutes⟩ => settled (setClock minutes (dropHead s))
    | _ => s)

end Sys2Proof.Machine
end

