-- ==== Sys2Proof/Machine/KeyCommands.lean ====
section
/-! DEFINITION. Machine/KeyCommands.lean: the commands of the driver keys, the display and the message queue
(09). -/

namespace Sys2Proof.Machine

/-! ### Keys -/

/-- MODE_PRESS (09 R146, R147). -/
def execModePress (s : State) : Host.Outcome State Fault Refusal :=
  .next (settled (acceptPress .mode (fun _ => .nothing) modeAction s))

/-- SELECT_PRESS (09 R146, R147, R149). -/
def execSelectPress (s : State) : Host.Outcome State Fault Refusal :=
  .next (settled (acceptPress .select (fun _ => .nothing) selectAction s))

/-- RESET_PRESS (09 R146, R147, R149, 06 R106). -/
def execResetPress (s : State) : Host.Outcome State Fault Refusal :=
  .next (settled (acceptPress .reset resetHolds resetAction s))

/-- NOTE_PRESS (09 R146, R150). -/
def execNotePress (s : State) : Host.Outcome State Fault Refusal :=
  .next (settled (acceptPress .note (fun _ => .nothing) noteAction s))

/-- JOURNEY_PRESS (09 R146, R147). -/
def execJourneyPress (s : State) : Host.Outcome State Fault Refusal :=
  .next (settled (acceptPress .journey journeyHolds journeyAction s))

/-- JOURNEY_RELEASE: a short press acts at its release (05 R86, 09 R147). -/
def execJourneyRelease (s : State) : Host.Outcome State Fault Refusal :=
  .next (settled (acceptRelease .journey journeyShort s))

/-- JOURNEY_LONG_PRESS: the press reaches 2 s (05 R86, R87). -/
def execJourneyLongPress (s : State) : Host.Outcome State Fault Refusal :=
  .next (match keyOf s.keys .journey with
    | .held (.journey _) => if awake s then settled (journeyLong (takeLong .journey s)) else s
    | _ => s)

/-- TRIP_RESET: a RESET press on a trip readout reaches 2 s (04 R69, 09 R147). -/
def execTripReset (s : State) : Host.Outcome State Fault Refusal :=
  .next (match keyOf s.keys .reset with
    | .held (.tripReset b _) => if awake s then settled (tripResetOp b (takeLong .reset s)) else s
    | _ => s)

/-- The item is reset if the part is in RUN and the car stands still (06 R106). -/
def serviceLong (item : Nat) (s : State) : State :=
  if s.power.mode = .run && carStandsStill s then serviceResetOp item s else s

/-- SERVICE_RESET_PRESS: a RESET press on a reminder reaches 5 s (06 R106). An item number 0, which no
reminder has, would be every item. -/
def execServiceResetPress (s : State) : Host.Outcome State Fault Refusal :=
  .next (match keyOf s.keys .reset with
    | .held (.serviceReset item _) => if awake s then settled (serviceLong item (takeLong .reset s)) else s
    | _ => s)

/-- KEY_RELEASE: MODE, SELECT, RESET or NOTE opens; a RESET long action not yet taken is cancelled. JOURNEY
has its own command (09 R146). -/
def execKeyRelease (key : Key) (s : State) : Host.Outcome State Fault Refusal :=
  .next (if key = .journey then s else acceptRelease key (fun _ t => t) s)

/-! ### Display -/

/-- SET_MODE_TIMEOUT (09 R149). -/
def execSetModeTimeout (s : State) : Host.Outcome State Fault Refusal :=
  .next (if runs s.disp.setTimer then settled (leaveSetMode s) else s)

/-- The blink changes phase (09 R149). -/
def blink (s : State) : State :=
  { s with disp := { s.disp with blinkTimer := startFor s 500, blinkShown := !s.disp.blinkShown } }

/-- BLINK_TIMER_EXPIRY (09 R149). -/
def execBlinkTimerExpiry (s : State) : Host.Outcome State Fault Refusal :=
  .next (if runs s.disp.blinkTimer then settled (blink s) else s)

/-- The journey readout changes its form (09 R148). -/
def alternate (s : State) : State :=
  { s with disp := { s.disp with altTimer := startFor s 2000, journeyKm := !s.disp.journeyKm } }

/-- JOURNEY_READOUT_ALTERNATE (09 R148). -/
def execJourneyReadoutAlternate (s : State) : Host.Outcome State Fault Refusal :=
  .next (if runs s.disp.altTimer then settled (alternate s) else s)

/-- DISPLAY_TIMER_EXPIRY: the display goes dark in WATCH (09 R141). -/
def execDisplayTimerExpiry (s : State) : Host.Outcome State Fault Refusal :=
  .next (if runs s.disp.displayTimer then
    settled { s with disp := { s.disp with displayTimer := none } } else s)

/-- DISPLAY_TRANSFER_COMPLETE (09 R140). -/
def execDisplayTransferComplete (s : State) : Host.Outcome State Fault Refusal := .next (completeTransfer s)

/-! ### Message queue -/

/-- MINIMUM_SHOW_TIME_EXPIRY: a selection follows (09 R143). -/
def execMinimumShowTimeExpiry (s : State) : Host.Outcome State Fault Refusal :=
  .next (if runs s.msg.minTimer then
    settled (select { s with msg := { s.msg with minTimer := none } }) else s)

/-- The SHOWING record has shown for its maximum: it leaves the queue (09 R143). -/
def showTimeOver (s : State) : State :=
  match showingRecord s with
  | some r => departRecord r.origin s
  | none => s

/-- MAXIMUM_SHOW_TIME_EXPIRY (09 R143, 06 R104). -/
def execMaximumShowTimeExpiry (s : State) : Host.Outcome State Fault Refusal :=
  .next (if runs s.msg.maxTimer then settled (showTimeOver s) else s)

/-- A refused reminder is posted again while the cursor rests on it in RUN (06 R103). -/
def repost (s : State) : State :=
  match s.service.cursor with
  | some i => if s.power.mode = .run then postReminder i s else s
  | none => s

/-- REMINDER_REPOST_TIMER_EXPIRY (06 R103). -/
def execReminderRepostTimerExpiry (s : State) : Host.Outcome State Fault Refusal :=
  .next (if runs s.service.repostTimer then settled (repost s) else s)

end Sys2Proof.Machine
end

