-- ==== Sys2Proof/Machine/PowerCommands.lean ====
section
/-! DEFINITION. Machine/PowerCommands.lean: the commands of the Power Supervisor (12): supply, cold start,
ignition, sleep, wake, dip and restart requests. An event that cannot occur in a state leaves it unchanged
(entry 4). -/

namespace Sys2Proof.Machine

/-- STANDBY_SUPPLY_UP (12 R171, R175). -/
def execStandbySupplyUp (crank lowv : Bool) (s : State) : Host.Outcome State Fault Refusal :=
  .next (if powered s then s else coldStart crank lowv s)

/-- STANDBY_SUPPLY_LOSS (12 R171, entry 8). -/
def execStandbySupplyLoss (cut : Option Word) (s : State) : Host.Outcome State Fault Refusal :=
  .next (if powered s then supplyLost cut s else s)

/-- SETTLE_END (12 R171, 10 R163). -/
def execSettleEnd (pins : StrapPins) (s : State) : Host.Outcome State Fault Refusal :=
  .next (if s.power.mode = .starting .settle then sampleStraps pins s else s)

/-- The load completes: the read's command byte was acknowledged, which clears the flag NV
(11 R166, R170). -/
def completeLoad (s : State) : State :=
  finishLoad (some s.nsp.memory) { s with faults := { s.faults with nv := false }, nsp := { s.nsp with loadTries := 0, loadRetry := none } }

/-- LOAD_COMPLETE: the read of words 0 to 118 completes, or fails (11 R170). -/
def execLoadComplete (whole : Bool) (s : State) : Host.Outcome State Fault Refusal :=
  .next (if s.power.mode = .starting .load then (if whole then completeLoad s else failLoad s) else s)

/-- The end of LISTEN: RUN or WATCH by IGN, last start kind 0, and its PRESENCE (12 R171). -/
def endListen (s : State) : State :=
  offerOwned .presence
    (startInto s.power.ignOn { s with power := { s.power with startTimer := none, lastStart := 0 } })

/-- LISTEN_END (12 R171). -/
def execListenEnd (s : State) : Host.Outcome State Fault Refusal :=
  .next (if s.power.mode = .starting .listen then settled (endListen s) else s)

/-- The accepted level of IGN. -/
def setIgn (on : Bool) (s : State) : State := { s with power := { s.power with ignOn := on } }

/-- An accepted change of IGN to on (12 R171, R172, R174). -/
def ignitionOn (s : State) : State :=
  match s.power.mode with
  | .offline => s
  | .starting _ | .run => setIgn true s
  | .watch => settled (enterRun (setIgn true s))
  | .sleep => settled (wakeStart true (setIgn true s))

/-- IGN_ON (12 R172, R174). -/
def execIgnOn (s : State) : Host.Outcome State Fault Refusal := .next (ignitionOn s)

/-- An accepted change of IGN to off (12 R171, R172). -/
def ignitionOff (s : State) : State :=
  match s.power.mode with
  | .offline => s
  | .starting _ | .watch | .sleep => setIgn false s
  | .run => settled (enterWatch (setIgn false s))

/-- IGN_OFF (12 R172). -/
def execIgnOff (s : State) : Host.Outcome State Fault Refusal := .next (ignitionOff s)

/-- SLEEP_TIMER_EXPIRY (12 R173). -/
def execSleepTimerExpiry (s : State) : Host.Outcome State Fault Refusal :=
  .next (if s.power.mode = .watch && runs s.power.sleepTimer then settled (enterSleep s) else s)

/-- A wake pulse is on the line (10 R162). -/
def pulseOnLine (s : State) : State := { s with port := { s.port with wakeWanted := false, lineHeld := true } }

/-- A wake pulse heard: in SLEEP a wake start, elsewhere it stands in for a pulse the part was to send
(10 R162, 12 R174, entry 15). -/
def pulseHeard (s : State) : State :=
  match s.power.mode with
  | .offline => s
  | .sleep => settled (wakeStart s.power.ignOn (pulseOnLine s))
  | .starting _ | .run | .watch => pulseOnLine s

/-- WAKE_PULSE_HEARD (12 R174, 10 R162). -/
def execWakePulseHeard (s : State) : Host.Outcome State Fault Refusal := .next (pulseHeard s)

/-- A key closure in SLEEP: a wake start into WATCH, a wake pulse asked for unless listen-only, and the
press to come is the waking one (12 R174, 09 R146, entry 22). -/
def keyWakes (key : Key) (s : State) : State :=
  let woken := wakeStart false s
  { woken with port := { woken.port with wakeWanted := woken.straps.address.isSome },
               keys := { woken.keys with waking := some (key, woken.now + 30) } }

/-- KEY_WAKE (12 R174). -/
def execKeyWake (key : Key) (s : State) : Host.Outcome State Fault Refusal :=
  .next (if s.power.mode = .sleep then settled (keyWakes key s) else s)

/-- A dip input turns active: the dip begins, or goes on (12 R175). -/
def dipInput (input : DipInput) (s : State) : State :=
  let active := { s with power := setDipInput input s.power }
  if active.power.dip then active else beginDip active

/-- SUPPLY_DIP_BEGIN (12 R175). -/
def execSupplyDipBegin (input : DipInput) (s : State) : Host.Outcome State Fault Refusal :=
  .next (if powered s then settled (dipInput input s) else s)

/-- Both dip inputs are inactive: the settle timer starts while the dip is in force (12 R175). -/
def dipInputsClear (s : State) : State :=
  { s with power := { s.power with
      crank := false, lowv := false,
      settleTimer := if s.power.dip then startFor s 500 else none } }

/-- DIP_INPUTS_CLEAR (12 R175). -/
def execDipInputsClear (s : State) : Host.Outcome State Fault Refusal :=
  .next (if powered s && (s.power.crank || s.power.lowv) then dipInputsClear s else s)

/-- SUPPLY_DIP_END (12 R175). -/
def execSupplyDipEnd (s : State) : Host.Outcome State Fault Refusal :=
  .next (if runs s.power.settleTimer then settled (endDip s) else s)

/-- RESTART_REQUEST_ROSTER_REFRESH: action 1 at the head of the intake queue (12 R176, 01 R19). -/
def execRestartRequestRosterRefresh (s : State) : Host.Outcome State Fault Refusal :=
  .next (match intakeHead s with
    | some ⟨_, .rosterRefresh⟩ => settled (rosterRefresh (dropHead s))
    | _ => s)

/-- RESTART_REQUEST_WARM_RESTART: action 2 at the head of the intake queue (12 R176). -/
def execRestartRequestWarmRestart (s : State) : Host.Outcome State Fault Refusal :=
  .next (match intakeHead s with
    | some ⟨_, .warmRestart⟩ => settled (warmRestart (dropHead s))
    | _ => s)

end Sys2Proof.Machine
end

