-- ==== Sys2Proof/Machine/StoreCommands.lean ====
section
/-! DEFINITION. Machine/StoreCommands.lean: the commands of the Nonvolatile Store Port (11). -/

namespace Sys2Proof.Machine

/-- The memory answers a try of the load, which is begun again 1 ms later and fails at its twentieth; the part
itself acknowledges the data bytes of a read (11 R165, R166, R170). -/
def answerLoad (answer : StoreAnswer) (s : State) : State :=
  match answer with
  | .commandAcked => { s with nsp := { s.nsp with loadRetry := none }, faults := { s.faults with nv := false } }
  | .commandUnacked =>
    if s.nsp.loadTries + 1 < 20 then
      { s with nsp := { s.nsp with loadTries := s.nsp.loadTries + 1, loadRetry := startFor s 1 } }
    else failLoad s
  | .dataUnacked => s

/-- The memory answers a try of the operation in progress (11 R166). -/
def answerOperation (answer : StoreAnswer) (s : State) : State :=
  if s.power.mode = .starting .load then answerLoad answer s else answerWrite answer s

/-- BUSY_POLL_RETRY (11 R166, entry 16). -/
def execBusyPollRetry (answer : StoreAnswer) (s : State) : Host.Outcome State Fault Refusal :=
  .next (settled (answerOperation answer s))

/-- FAILED_WRITE_WAIT_EXPIRY (11 R166, R167). -/
def execFailedWriteWaitExpiry (s : State) : Host.Outcome State Fault Refusal :=
  .next (settled (endWriteWait s))

/-- WRITE_COMPLETE (11 R167, R168). -/
def execWriteComplete (s : State) : Host.Outcome State Fault Refusal := .next (settled (completeWrite s))

end Sys2Proof.Machine
end

