-- ==== Sys2Proof/Machine/TimerCommands.lean ====
section
/-! DEFINITION. Machine/TimerCommands.lean: the timers of the report table and roster (01), the gauges (02),
the Fuel Estimator (03), the Trip Computer and clock (04). A command for a timer that is stopped does nothing
(entry 3, entry 4). -/

namespace Sys2Proof.Machine

/-- STALE_TIMER_EXPIRY (01 R5, R6). -/
def execStaleTimerExpiry (kind : ReportKind) (s : State) : Host.Outcome State Fault Refusal :=
  .next (settled (expireStale kind s))

/-- The roster timer of a station (01 R11). -/
def expireRoster (r : RosterEntry) : RosterEntry :=
  if r.status = .live && runs r.timer then { r with status := .silent, timer := none } else r

/-- ROSTER_TIMER_EXPIRY (01 R11). -/
def execRosterTimerExpiry (station : Nat) (s : State) : Host.Outcome State Fault Refusal :=
  .next (modifyRoster station expireRoster s)

/-- A mirror is due: REAR CONSOLE bound, its source LIVE (01 R16). -/
def mirrorDue (s : State) : Bool :=
  match (entryIn s .rearConsole).bound with
  | some station => (rosterOf s station).status = .live
  | none => false

/-- The mirror timer runs on, and a mirror is queued when it is due (01 R16). -/
def mirrorPeriod (s : State) : State :=
  let next := { s with bus := { s.bus with mirrorTimer := startFor s 500 } }
  if mirrorDue s then offerPeriodicMirror next else next

/-- MIRROR_TIMER_EXPIRY (01 R16). -/
def execMirrorTimerExpiry (s : State) : Host.Outcome State Fault Refusal :=
  .next (if runs s.bus.mirrorTimer then mirrorPeriod s else s)

/-- DAMPING_STEP (02 R25). -/
def execDampingStep (s : State) : Host.Outcome State Fault Refusal :=
  .next (if runs s.gauges.dampTimer then dampingPeriod s else s)

/-- COIL_OFF_TIMER_EXPIRY: the coils are released (02 R39). -/
def execCoilOffTimerExpiry (s : State) : Host.Outcome State Fault Refusal :=
  .next (if runs s.gauges.coilOffTimer then
    { s with gauges := { s.gauges with coilOn := false, coilOffTimer := none } } else s)

/-- The correction timer runs on, and a step is taken out of a dip (03 R47). -/
def correctionPeriod (s : State) : State :=
  let next := { s with fuel := { s.fuel with corrTimer := startFor s 1000 } }
  if s.power.dip then next else correctionStep next

/-- CORRECTION_TIMER_EXPIRY (03 R47). -/
def execCorrectionTimerExpiry (s : State) : Host.Outcome State Fault Refusal :=
  .next (if runs s.fuel.corrTimer then settled (correctionPeriod s) else s)

/-- STANDSTILL_TIMER_EXPIRY (03 R51). -/
def execStandstillTimerExpiry (s : State) : Host.Outcome State Fault Refusal :=
  .next (if runs s.fuel.standTimer then
    { s with fuel := { s.fuel with standTimer := none, standstill := true } } else s)

/-- PUMP_TIMER_EXPIRY (03 R55). -/
def execPumpTimerExpiry (s : State) : Host.Outcome State Fault Refusal :=
  .next (if runs s.fuel.pumpTimer then
    { s with fuel := { s.fuel with pumpTimer := none, pumpLong := true } } else s)

/-- The transfer stop timer runs on, and another TRANSFER STOP is queued while warning 7 is raised
(03 R57). -/
def stopPeriod (s : State) : State :=
  let next := { s with fuel := { s.fuel with stopTimer := startFor s 5000 } }
  if raised (warnEntry s 7) then offerOwned .transferStop next else next

/-- TRANSFER_STOP_TIMER_EXPIRY (03 R57). -/
def execTransferStopTimerExpiry (s : State) : Host.Outcome State Fault Refusal :=
  .next (if runs s.fuel.stopTimer then stopPeriod s else s)

/-- Both trips count a second (04 R68). -/
def secondPeriod (s : State) : State :=
  { s with trip := { s.trip with
      tripA := tripSecond s.trip.tripA, tripB := tripSecond s.trip.tripB, tripSecondTimer := startFor s 1000 } }

/-- TRIP_SECOND_TIMER_EXPIRY (04 R68). -/
def execTripSecondTimerExpiry (s : State) : Host.Outcome State Fault Refusal :=
  .next (if runs s.trip.tripSecondTimer then settled (secondPeriod s) else s)

/-- The sampler runs on and takes its sample (04 R74). -/
def samplerPeriod (s : State) : State :=
  takeSample { s with trip := { s.trip with samplerTimer := startFor s 250 } }

/-- INSTANT_SAMPLER_EXPIRY (04 R74, R75). -/
def execInstantSamplerExpiry (s : State) : Host.Outcome State Fault Refusal :=
  .next (if runs s.trip.samplerTimer then settled (samplerPeriod s) else s)

/-- The clock's second (04 R78). -/
def clockPeriod (s : State) : State :=
  clockSecondOp { s with clock := { s.clock with secondTimer := startFor s 1000 } }

/-- CLOCK_SECOND (04 R78, 05 R84). -/
def execClockSecond (s : State) : Host.Outcome State Fault Refusal :=
  .next (if runs s.clock.secondTimer then settled (clockPeriod s) else s)

end Sys2Proof.Machine
end

