-- ==== Sys2Proof/Machine/TransmitCommands.lean ====
section
/-! DEFINITION. Machine/TransmitCommands.lean: the commands of the transmit queue and the wake pulse (10 R154
to R162). -/

namespace Sys2Proof.Machine

/-- ATTEMPT_BEGIN (10 R154, R159). -/
def execAttemptBegin (s : State) : Host.Outcome State Fault Refusal := .next (beginAttempt s)

/-- LOST_ARBITRATION: the entry stays as it was (10 R155, R160). -/
def execLostArbitration (s : State) : Host.Outcome State Fault Refusal :=
  .next (match flying s with
    | some _ => endAttempt some s
    | none => s)

/-- READBACK_FAULT: the entry stays, and the fault is counted (10 R155, R160). -/
def execReadbackFault (s : State) : Host.Outcome State Fault Refusal :=
  .next (match flying s with
    | some _ => countFault (endAttempt some s)
    | none => s)

/-- LINE_FAULT_PAUSE_EXPIRY (10 R160). -/
def execLineFaultPauseExpiry (s : State) : Host.Outcome State Fault Refusal :=
  .next { s with port := { s.port with pauseTimer := none } }

/-- BROADCAST_SENT_WHOLE: the entry is done (10 R154, R160). -/
def execBroadcastSentWhole (s : State) : Host.Outcome State Fault Refusal :=
  .next (match flying s with
    | some e => if e.id.target = 0 then markSentWhole e.id.kind (endAttempt (fun _ => none) s) else s
    | none => s)

/-- The third UNANSWERED attempt makes the target SILENT (01 R11, 10 R160). -/
def silenceTarget (target : Nat) (s : State) : State :=
  modifyRoster target (fun r => { r with status := .silent, timer := none }) s

/-- The answer slot of an addressed frame closes with an answer, none for UNANSWERED (10 R156, R160). That the
third UNANSWERED of an attempt completed in SLEEP makes its target SILENT there too, where 01 R18 has the roster keep
its contents, is the model's choice (entry 34). -/
def closeSlot (e : TxEntry) (answer : Option Answer) (s : State) : State :=
  let ended := markSentWhole e.id.kind (endAttempt (answerAct s.now answer) s)
  if dropsUnanswered answer e then silenceTarget e.id.target ended else ended

/-- ANSWER_SLOT_CLOSE: `run` is the dominant run begun in the first two cells, in cells (10 R156). -/
def execAnswerSlotClose (run : Option Nat) (s : State) : Host.Outcome State Fault Refusal :=
  .next (match flying s with
    | some e => if e.id.target = 0 then s else closeSlot e (judgeAnswer run) s
    | none => s)

/-- RETRY_DELAY_EXPIRY: the entry competes again (10 R159). -/
def execRetryDelayExpiry (id : FrameId) (s : State) : Host.Outcome State Fault Refusal :=
  .next { s with port := { s.port with
    queue := s.port.queue.map (fun e => if e.id = id then { e with retry := none } else e) } }

/-- An owner's 50 ms are over: its frame is built and offered again (10 R159, 01 R15). -/
def reoffer (what : Reoffer) (s : State) : State :=
  match what with
  | .answers station =>
    if runs (demandOf s station).wait then answerBits station (bitsFrom (demandOf s station).resume) s else s
  | other => if s.port.owed.any (fun o => o.1 = other) then offerOwned other s else s

/-- OWNER_REOFFER (10 R159). -/
def execOwnerReoffer (what : Reoffer) (s : State) : Host.Outcome State Fault Refusal :=
  .next (if mayQueue s then reoffer what s else s)

/-- HOLD_OFF_EXPIRY (10 R162). -/
def execHoldOffExpiry (s : State) : Host.Outcome State Fault Refusal :=
  .next { s with port := { s.port with holdOff := none } }

/-- The part may drive the wake pulse it was asked for (10 R162). -/
def mayPulse (s : State) : Bool :=
  mayQueue s && s.port.wakeWanted && !s.port.lineHeld && s.port.sending.isNone

/-- The part begins its wake pulse: 3 ms dominant, then the 20 ms hold-off (10 R162, entry 15). -/
def beginPulse (s : State) : State :=
  { s with port := { s.port with
      wakeWanted := false, pulseUntil := some (s.now + 3), holdOff := startFor s 23 } }

/-- WAKE_PULSE_SEND (10 R162). -/
def execWakePulseSend (s : State) : Host.Outcome State Fault Refusal :=
  .next (if mayPulse s then beginPulse s else s)

/-- WAKE_PULSE_END: the 20 ms hold-off starts (10 R162). -/
def execWakePulseEnd (s : State) : Host.Outcome State Fault Refusal :=
  .next (match s.power.mode with
    | .offline | .sleep => s
    | .starting _ | .run | .watch => { s with port := { s.port with lineHeld := false, holdOff := startFor s 20 } })

end Sys2Proof.Machine
end

