-- ==== Sys2Proof/Machine/WarningCommands.lean ====
section
/-! DEFINITION. Machine/WarningCommands.lean: the timers of the Warning Unit (07) and of the Chime Generator
(08). -/

namespace Sys2Proof.Machine

/-- The evaluation timer runs on, and the entries with internal sources and STALE tests are evaluated
(07 R114). -/
def evaluationPeriod (s : State) : State :=
  timedEntries.foldl evaluate { s with warn := { s.warn with evalTimer := startFor s 250 } }

/-- EVALUATION_TIMER_EXPIRY (07 R114). -/
def execEvaluationTimerExpiry (s : State) : Host.Outcome State Fault Refusal :=
  .next (if runs s.warn.evalTimer then settled (evaluationPeriod s) else s)

/-- RE_OFFER_TIMER_EXPIRY: the outstanding posts are made again (07 R119). -/
def execReOfferTimerExpiry (entry : Nat) (s : State) : Host.Outcome State Fault Refusal :=
  .next (if runs (warnEntry s entry).reofferTimer then settled (postOutstanding entry s) else s)

/-- Re-chime is due (07 R122). -/
def rechimeFalls (e : WarnEntry) : WarnEntry :=
  if runs e.rechimeTimer then { e with rechimeDue := e.status = .noted, rechimeTimer := none } else e

/-- RE_CHIME_TIMER_EXPIRY (07 R122). -/
def execReChimeTimerExpiry (entry : Nat) (s : State) : Host.Outcome State Fault Refusal :=
  .next (modifyWarn entry rechimeFalls s)

/-- REVIEW_TIMER_EXPIRY (07 R125). -/
def execReviewTimerExpiry (s : State) : Host.Outcome State Fault Refusal :=
  .next (if runs s.warn.reviewTimer then settled (moveReview s) else s)

/-- FLASH_TIMER_EXPIRY: the phase changes (07 R123). -/
def execFlashTimerExpiry (s : State) : Host.Outcome State Fault Refusal :=
  .next (if runs s.warn.flashTimer then
    { s with warn := { s.warn with flashTimer := startFor s 500, flashLit := !s.warn.flashLit } } else s)

/-- The end of lamp proving: the RUN gate opens, the window and grace timers start, and the reminder cycle
begins (07 R124, 06 R103). -/
def endProving (s : State) : State :=
  setCursor (nextReminder s 0)
    { s with warn := { s.warn with provingTimer := none, windowTimer := startFor s 8000, window := true,
                                   graceTimer := startFor s 5000 } }

/-- LAMP_PROVING_EXPIRY (07 R124). -/
def execLampProvingExpiry (s : State) : Host.Outcome State Fault Refusal :=
  .next (if runs s.warn.provingTimer then settled (endProving s) else s)

/-- The window closes: its gate turns false (07 R115, R116). -/
def endWindow (s : State) : State :=
  applyGates { s with warn := { s.warn with windowTimer := none, window := false } }

/-- WINDOW_TIMER_EXPIRY (07 R115). -/
def execWindowTimerExpiry (s : State) : Host.Outcome State Fault Refusal :=
  .next (if runs s.warn.windowTimer then settled (endWindow s) else s)

/-- STALE_GRACE_EXPIRY (07 R113). -/
def execStaleGraceExpiry (s : State) : Host.Outcome State Fault Refusal :=
  .next (if runs s.warn.graceTimer then
    { s with warn := { s.warn with graceTimer := none, graceEnded := true } } else s)

/-- ENGINE_RUNNING_TIMER_EXPIRY (07 R115). -/
def execEngineRunningTimerExpiry (s : State) : Host.Outcome State Fault Refusal :=
  .next (if runs s.warn.engineTimer then
    { s with warn := { s.warn with engineTimer := none, engineEst := true } } else s)

/-- The element in progress ends, and a CHIME STATUS reports a change of source (08 R127, R135, R138). -/
def elementOver (s : State) : State :=
  match soundingRequest s with
  | some r => reportSource s (endElement r s)
  | none => s

/-- ELEMENT_END (08 R127, R134, R135). -/
def execElementEnd (s : State) : Host.Outcome State Fault Refusal :=
  .next (if runs s.chime.elementTimer then settled (elementOver s) else s)

end Sys2Proof.Machine
end

