-- ==== Sys2Proof/Machine/Dispatch.lean ====
section
/-! DEFINITION. Machine/Dispatch.lean: the meaning of every command, one arm per constructor. -/

namespace Sys2Proof.Machine

def exec (i : Instr) (s : State) : Host.Outcome State Fault Refusal :=
  match i with
  | .standbySupplyUp crank lowv => Sys2Proof.Machine.execStandbySupplyUp crank lowv s
  | .standbySupplyLoss cut => Sys2Proof.Machine.execStandbySupplyLoss cut s
  | .settleEnd pins => Sys2Proof.Machine.execSettleEnd pins s
  | .loadComplete whole => Sys2Proof.Machine.execLoadComplete whole s
  | .listenEnd => Sys2Proof.Machine.execListenEnd s
  | .ignOn => Sys2Proof.Machine.execIgnOn s
  | .ignOff => Sys2Proof.Machine.execIgnOff s
  | .sleepTimerExpiry => Sys2Proof.Machine.execSleepTimerExpiry s
  | .wakePulseHeard => Sys2Proof.Machine.execWakePulseHeard s
  | .keyWake key => Sys2Proof.Machine.execKeyWake key s
  | .supplyDipBegin input => Sys2Proof.Machine.execSupplyDipBegin input s
  | .dipInputsClear => Sys2Proof.Machine.execDipInputsClear s
  | .supplyDipEnd => Sys2Proof.Machine.execSupplyDipEnd s
  | .restartRequestRosterRefresh => Sys2Proof.Machine.execRestartRequestRosterRefresh s
  | .restartRequestWarmRestart => Sys2Proof.Machine.execRestartRequestWarmRestart s
  | .reportArrival kind frame => Sys2Proof.Machine.execReportArrival kind frame s
  | .rollCall frame => Sys2Proof.Machine.execRollCall frame s
  | .presence frame => Sys2Proof.Machine.execPresence frame s
  | .otherFrameHeard kind target frame => Sys2Proof.Machine.execOtherFrameHeard kind target frame s
  | .ownAddressFrameHeard => Sys2Proof.Machine.execOwnAddressFrameHeard s
  | .frameDiscarded cause => Sys2Proof.Machine.execFrameDiscarded cause s
  | .addressedFrameAnswer kind frame => Sys2Proof.Machine.execAddressedFrameAnswer kind frame s
  | .demand => Sys2Proof.Machine.execDemand s
  | .chimeRequest => Sys2Proof.Machine.execChimeRequest s
  | .notice => Sys2Proof.Machine.execNotice s
  | .serviceReset => Sys2Proof.Machine.execServiceReset s
  | .journeyClear => Sys2Proof.Machine.execJourneyClear s
  | .clockSet => Sys2Proof.Machine.execClockSet s
  | .attemptBegin => Sys2Proof.Machine.execAttemptBegin s
  | .lostArbitration => Sys2Proof.Machine.execLostArbitration s
  | .readbackFault => Sys2Proof.Machine.execReadbackFault s
  | .lineFaultPauseExpiry => Sys2Proof.Machine.execLineFaultPauseExpiry s
  | .broadcastSentWhole => Sys2Proof.Machine.execBroadcastSentWhole s
  | .answerSlotClose run => Sys2Proof.Machine.execAnswerSlotClose run s
  | .retryDelayExpiry id => Sys2Proof.Machine.execRetryDelayExpiry id s
  | .ownerReoffer what => Sys2Proof.Machine.execOwnerReoffer what s
  | .holdOffExpiry => Sys2Proof.Machine.execHoldOffExpiry s
  | .wakePulseSend => Sys2Proof.Machine.execWakePulseSend s
  | .staleTimerExpiry kind => Sys2Proof.Machine.execStaleTimerExpiry kind s
  | .rosterTimerExpiry station => Sys2Proof.Machine.execRosterTimerExpiry station s
  | .mirrorTimerExpiry => Sys2Proof.Machine.execMirrorTimerExpiry s
  | .dampingStep => Sys2Proof.Machine.execDampingStep s
  | .coilOffTimerExpiry => Sys2Proof.Machine.execCoilOffTimerExpiry s
  | .correctionTimerExpiry => Sys2Proof.Machine.execCorrectionTimerExpiry s
  | .standstillTimerExpiry => Sys2Proof.Machine.execStandstillTimerExpiry s
  | .pumpTimerExpiry => Sys2Proof.Machine.execPumpTimerExpiry s
  | .transferStopTimerExpiry => Sys2Proof.Machine.execTransferStopTimerExpiry s
  | .tripSecondTimerExpiry => Sys2Proof.Machine.execTripSecondTimerExpiry s
  | .instantSamplerExpiry => Sys2Proof.Machine.execInstantSamplerExpiry s
  | .clockSecond => Sys2Proof.Machine.execClockSecond s
  | .modePress => Sys2Proof.Machine.execModePress s
  | .selectPress => Sys2Proof.Machine.execSelectPress s
  | .resetPress => Sys2Proof.Machine.execResetPress s
  | .notePress => Sys2Proof.Machine.execNotePress s
  | .journeyPress => Sys2Proof.Machine.execJourneyPress s
  | .journeyRelease => Sys2Proof.Machine.execJourneyRelease s
  | .journeyLongPress => Sys2Proof.Machine.execJourneyLongPress s
  | .tripReset => Sys2Proof.Machine.execTripReset s
  | .serviceResetPress => Sys2Proof.Machine.execServiceResetPress s
  | .setModeTimeout => Sys2Proof.Machine.execSetModeTimeout s
  | .blinkTimerExpiry => Sys2Proof.Machine.execBlinkTimerExpiry s
  | .journeyReadoutAlternate => Sys2Proof.Machine.execJourneyReadoutAlternate s
  | .displayTimerExpiry => Sys2Proof.Machine.execDisplayTimerExpiry s
  | .displayTransferComplete => Sys2Proof.Machine.execDisplayTransferComplete s
  | .minimumShowTimeExpiry => Sys2Proof.Machine.execMinimumShowTimeExpiry s
  | .maximumShowTimeExpiry => Sys2Proof.Machine.execMaximumShowTimeExpiry s
  | .reminderRepostTimerExpiry => Sys2Proof.Machine.execReminderRepostTimerExpiry s
  | .evaluationTimerExpiry => Sys2Proof.Machine.execEvaluationTimerExpiry s
  | .reOfferTimerExpiry entry => Sys2Proof.Machine.execReOfferTimerExpiry entry s
  | .reChimeTimerExpiry entry => Sys2Proof.Machine.execReChimeTimerExpiry entry s
  | .reviewTimerExpiry => Sys2Proof.Machine.execReviewTimerExpiry s
  | .flashTimerExpiry => Sys2Proof.Machine.execFlashTimerExpiry s
  | .lampProvingExpiry => Sys2Proof.Machine.execLampProvingExpiry s
  | .windowTimerExpiry => Sys2Proof.Machine.execWindowTimerExpiry s
  | .staleGraceExpiry => Sys2Proof.Machine.execStaleGraceExpiry s
  | .engineRunningTimerExpiry => Sys2Proof.Machine.execEngineRunningTimerExpiry s
  | .elementEnd => Sys2Proof.Machine.execElementEnd s
  | .busyPollRetry byte => Sys2Proof.Machine.execBusyPollRetry byte s
  | .failedWriteWaitExpiry => Sys2Proof.Machine.execFailedWriteWaitExpiry s
  | .writeComplete => Sys2Proof.Machine.execWriteComplete s
  | .keyRelease key => Sys2Proof.Machine.execKeyRelease key s
  | .wakePulseEnd => Sys2Proof.Machine.execWakePulseEnd s

end Sys2Proof.Machine
end

