-- ==== Sys2Proof/Machine/Lines.lean ====
section
/-! DEFINITION. Machine/Lines.lean: the levels of the part's two clocked lines: the store line on NVC and NVD
(11 R165) and the character port on DCK, DDA and DLD (09 R140). Only the order of the levels is stated; their
10 us are not stepped (entry 24). -/

namespace Sys2Proof.Machine

/-! ### Clocked lines -/

/-- Levels of a clock line and its data line, true for high: NVC and NVD, or DCK and DDA. -/
structure Levels where
  clock : Bool
  data : Bool
deriving DecidableEq, Repr

/-- The bits of a byte, the most significant first (11 R165, 09 R140). -/
def bitsOf (b : Byte) : List Bool :=
  [b.getLsbD 7, b.getLsbD 6, b.getLsbD 5, b.getLsbD 4, b.getLsbD 3, b.getLsbD 2, b.getLsbD 1, b.getLsbD 0]

/-- One bit on the lines: the clock falls, the data changes while it is low, and the clock rises for the
receiving end to take the bit (11 R165, 09 R140). -/
def clockBit (before bit : Bool) : List Levels := [⟨false, before⟩, ⟨false, bit⟩, ⟨true, bit⟩]

/-- Bits one after another, the data line standing at `before`. -/
def clockBits (before : Bool) : List Bool → List Levels
  | [] => []
  | b :: rest => clockBit before b ++ clockBits b rest

/-- The bits that the receiving end takes: the data at each rising edge of the clock, which stood at `clock`
before (11 R165, 09 R140). -/
def takenBits (clock : Bool) : List Levels → List Bool
  | [] => []
  | l :: rest => (if l.clock && !clock then [l.data] else []) ++ takenBits l.clock rest

/-- The data line changes only while the clock is low, from the levels `before` (11 R165). -/
def dataSteady (before : Levels) : List Levels → Bool
  | [] => true
  | l :: rest => (!(before.clock && l.clock) || before.data = l.data) && dataSteady l rest

/-! ### The store line (11 R165) -/

/-- Between operations NVC rests high and NVD rests released high (11 R165). -/
def storeRest : Levels := ⟨true, true⟩

/-- Start marker: NVD taken low while NVC is high (11 R165). -/
def startMarker : List Levels := [storeRest, ⟨true, false⟩]

/-- Stop marker, NVD standing at `before`: NVD low while NVC is low, then released high while NVC is high
(11 R165). -/
def stopMarker (before : Bool) : List Levels := [⟨false, before⟩, ⟨false, false⟩, ⟨true, false⟩, storeRest]

/-- A byte's eight bits and its ninth clock, on which the receiving end acknowledges by holding NVD low
(11 R165). -/
def byteBits (ba : Byte × Bool) : List Bool := bitsOf ba.1 ++ [!ba.2]

/-- The bits of an operation: its bytes, each with whether it is acknowledged (11 R165). -/
def operationBits (bytes : List (Byte × Bool)) : List Bool := bytes.flatMap byteBits

/-- An operation on the store line: start marker, bytes, stop marker (11 R165). -/
def storeOperation (bytes : List (Byte × Bool)) : List Levels :=
  startMarker ++ clockBits false (operationBits bytes) ++ stopMarker ((operationBits bytes).getLastD false)

/-- Bytes of which the receiving end acknowledges the first `acks`. That the first one left unacknowledged is the
last sent, with the stop marker after it, is the model's choice for a write (11 R165, R166, entry 41). Of a read's
data bytes the last alone is unacknowledged, as 11 R165 states. -/
def answered : Nat → List Byte → List (Byte × Bool)
  | _, [] => []
  | 0, b :: _ => [(b, false)]
  | n + 1, b :: rest => (b, true) :: answered n rest

/-- A write of a word, its command byte and two data bytes, the memory acknowledging the first `acks` of them
(11 R165). -/
def writeBytes (acks addr : Nat) (data : Word) : List (Byte × Bool) := answered acks (storeWriteBytes addr data)

/-- A read of `n` words from an address up: the memory acknowledges the command byte or not, and the part
acknowledges every byte it receives except the last (11 R165). That after a command byte left unacknowledged the line
goes straight to the stop marker, with no data byte, is the model's choice for a read too (11 R166, entry 41). -/
def readBytes (acked : Bool) (memory : List (Nat × Word)) (start n : Nat) : List (Byte × Bool) :=
  if acked then
    (storeCommand true start, true)
      :: answered (2 * n - 1) (storeReadBytes memory start n)
  else [(storeCommand true start, false)]

/-- A try that waits to be begun again has not begun yet (11 R166). -/
def awaitsRetry (s : State) (retry : Timer) : Bool := retry.any (fun d => s.now < d)

/-- The operation that the part carries out in this state, the memory acknowledging the first `acks` bytes that
it receives: the load's read of words 0 to 118, or a try of the head of the write queue; none between tries
(11 R165 to R167, R170). -/
def operationNow (acks : Nat) (s : State) : List (Byte × Bool) :=
  if s.power.mode = .starting .load then
    (if awaitsRetry s s.nsp.loadRetry then [] else readBytes (0 < acks) s.nsp.memory 0 119)
  else
    match s.nsp.writer, s.nsp.queue with
    | .trying _ _ retry, e :: _ =>
      if awaitsRetry s retry then [] else writeBytes acks (e.addr % Config.memoryWords) e.data
    | _, _ => []

/-- The levels of the store line in this state, at rest without an operation (11 R165). -/
def storeLine (acks : Nat) (s : State) : List Levels :=
  match operationNow acks s with
  | [] => [storeRest]
  | bytes => storeOperation bytes

/-! ### The character port (09 R140) -/

/-- Levels of DCK and DDA, with DLD. -/
structure PortLevels where
  lines : Levels
  load : Bool
deriving DecidableEq, Repr

/-- DCK and DDA rest low between transfers, and DLD is low but for its pulse (09 R140). -/
def portRest : PortLevels := ⟨⟨false, false⟩, false⟩

/-- The bits of an image's eighteen bytes (09 R140). -/
def imageBits (i : Image) : List Bool := (imageBytes i).flatMap bitsOf

/-- The transfer of an image: its bits, then the pulse on DLD at whose falling edge the module loads them
(09 R140). -/
def imageTransfer (i : Image) : List PortLevels :=
  (clockBits false (imageBits i)).map (fun l => ⟨l, false⟩)
    ++ [⟨⟨false, (imageBits i).getLastD false⟩, false⟩, portRest, ⟨⟨false, false⟩, true⟩, portRest]

/-- The levels of the character port in this state: the transfer in progress, or at rest (09 R140). -/
def displayPort (s : State) : List PortLevels :=
  match s.disp.transfer with
  | some i => imageTransfer i
  | none => [portRest]

end Sys2Proof.Machine
end

