-- ==== Sys2Proof/Safety.lean ====
section
/-! DEFINITION. Safety.lean: what claims about the part are stated in: the blocks of the state and what a
command leaves unchanged, and the bounds that the manual sets and every step keeps. -/

namespace Sys2Proof.Machine

/-! ### What a command leaves unchanged -/

/-- The blocks of the state (00 TABLE 1-1), one per record of `State`. -/
inductive Block where
  | power | straps | faults | bus | gauges | fuel | trip | clock | journey | service | warn | chime | msg
  | disp | keys | port | nsp
deriving DecidableEq, Repr

/-- `t` has the queue, the time and every block of `s` but those listed. -/
structure OnlyIn (changed : List Block) (s t : State) : Prop where
  pending : t.pending = s.pending
  now : t.now = s.now
  power : Block.power ∉ changed → t.power = s.power
  straps : Block.straps ∉ changed → t.straps = s.straps
  faults : Block.faults ∉ changed → t.faults = s.faults
  bus : Block.bus ∉ changed → t.bus = s.bus
  gauges : Block.gauges ∉ changed → t.gauges = s.gauges
  fuel : Block.fuel ∉ changed → t.fuel = s.fuel
  trip : Block.trip ∉ changed → t.trip = s.trip
  clock : Block.clock ∉ changed → t.clock = s.clock
  journey : Block.journey ∉ changed → t.journey = s.journey
  service : Block.service ∉ changed → t.service = s.service
  warn : Block.warn ∉ changed → t.warn = s.warn
  chime : Block.chime ∉ changed → t.chime = s.chime
  msg : Block.msg ∉ changed → t.msg = s.msg
  disp : Block.disp ∉ changed → t.disp = s.disp
  keys : Block.keys ∉ changed → t.keys = s.keys
  port : Block.port ∉ changed → t.port = s.port
  nsp : Block.nsp ∉ changed → t.nsp = s.nsp

/-- Every block. -/
def allBlocks : List Block :=
  [.power, .straps, .faults, .bus, .gauges, .fuel, .trip, .clock, .journey, .service, .warn, .chime, .msg,
   .disp, .keys, .port, .nsp]

/-- What the end of most commands brings up to date: the sleep timer and the display. -/
def settledBlocks : List Block := [.power, .disp]

/-- The blocks that posts of chimes and messages reach, with what their drops and selections bring. -/
def postBlocks : List Block := [.warn, .chime, .msg, .disp, .port, .service]

/-- The blocks that the warning entries reach: their posts, and entry 7's transfer stop. -/
def warnBlocks : List Block := .fuel :: postBlocks

/-- The blocks that a record's offer to the store reaches. -/
def storeBlocks : List Block := [.trip, .journey, .service, .nsp]

/-- The blocks that a report reaches, by its kind (01 TABLE 1-5). -/
def reportBlocks : ReportKind → List Block
  | .engine => [.faults, .bus] ++ settledBlocks ++ warnBlocks
  | .fuelFlow => [.faults, .bus, .fuel] ++ settledBlocks ++ storeBlocks
  | .chassis => [.faults, .bus] ++ settledBlocks ++ warnBlocks ++ storeBlocks
  | .tank => [.faults, .bus, .fuel] ++ settledBlocks
  | .bodyDoors | .bodyLamps => [.faults, .bus] ++ settledBlocks ++ warnBlocks
  | .rearConsole => [.faults, .bus] ++ settledBlocks ++ postBlocks

/-- The blocks that a start reaches. -/
def startBlocks : List Block :=
  [.power, .bus, .gauges, .fuel, .trip, .service, .warn, .chime, .msg, .disp, .keys, .port, .journey, .nsp]

/-- The blocks that a command may change; every other block it leaves as it was. -/
def mayChange : Instr → List Block
  | .standbySupplyUp _ _ | .standbySupplyLoss _ => allBlocks
  | .settleEnd _ => [.power, .straps, .faults, .nsp]
  | .loadComplete _ => [.power, .faults] ++ storeBlocks
  | .listenEnd => [.power, .bus, .gauges, .fuel, .trip, .service, .warn, .chime, .msg, .disp, .keys, .port]
  | .ignOn | .ignOff | .wakePulseHeard | .keyWake _ => startBlocks
  | .sleepTimerExpiry => [.power, .bus, .gauges, .fuel, .trip, .service, .warn, .chime, .msg, .disp, .keys, .port]
  | .supplyDipBegin _ => settledBlocks ++ warnBlocks ++ [.nsp]
  | .dipInputsClear => [.power]
  | .supplyDipEnd => settledBlocks ++ [.chime, .port, .nsp]
  | .restartRequestRosterRefresh => settledBlocks ++ [.bus, .fuel, .chime, .port]
  | .restartRequestWarmRestart => [.power, .bus, .gauges, .fuel, .trip, .service, .warn, .chime, .msg, .disp, .keys, .port]
  | .reportArrival k _ => reportBlocks k
  | .rollCall _ => [.faults, .bus, .power, .port]
  | .presence _ | .otherFrameHeard _ _ _ => [.faults, .bus, .power]
  | .ownAddressFrameHeard => [.faults]
  | .frameDiscarded _ => [.port]
  | .addressedFrameAnswer _ _ => [.faults, .bus, .power, .port]
  | .demand => [.bus, .port]
  | .chimeRequest => settledBlocks ++ [.warn, .chime, .port]
  | .notice => settledBlocks ++ [.warn, .msg, .port, .service]
  | .serviceReset => settledBlocks ++ postBlocks ++ storeBlocks
  | .journeyClear => settledBlocks ++ [.warn, .msg, .port] ++ storeBlocks
  | .clockSet => settledBlocks ++ [.clock, .port]
  | .attemptBegin | .lostArbitration | .lineFaultPauseExpiry | .retryDelayExpiry _ | .holdOffExpiry
  | .wakePulseSend | .wakePulseEnd => [.port]
  | .readbackFault | .broadcastSentWhole => [.port, .faults]
  | .answerSlotClose _ => [.port, .faults, .bus]
  | .ownerReoffer _ => [.port, .bus]
  | .staleTimerExpiry _ => settledBlocks ++ [.bus, .fuel, .chime, .port]
  | .rosterTimerExpiry _ => [.bus]
  | .mirrorTimerExpiry => [.bus, .port]
  | .dampingStep | .coilOffTimerExpiry => [.gauges]
  | .correctionTimerExpiry => .fuel :: settledBlocks
  | .standstillTimerExpiry | .pumpTimerExpiry => [.fuel]
  | .transferStopTimerExpiry => [.fuel, .port]
  | .tripSecondTimerExpiry | .instantSamplerExpiry => .trip :: settledBlocks
  | .clockSecond => .clock :: settledBlocks ++ storeBlocks
  | .modePress => settledBlocks ++ [.keys, .warn, .chime, .port]
  | .selectPress => settledBlocks ++ [.keys, .warn, .chime, .port]
  | .resetPress => settledBlocks ++ [.keys, .warn, .chime, .port, .clock, .trip]
  | .notePress => settledBlocks ++ .keys :: warnBlocks
  | .journeyPress => settledBlocks ++ [.keys, .warn, .chime, .port]
  | .journeyRelease | .journeyLongPress => settledBlocks ++ [.keys, .warn, .msg] ++ storeBlocks
  | .tripReset => settledBlocks ++ [.keys, .trip]
  | .serviceResetPress => settledBlocks ++ [.keys, .warn, .msg] ++ storeBlocks
  | .setModeTimeout | .blinkTimerExpiry | .journeyReadoutAlternate | .displayTimerExpiry => settledBlocks
  | .displayTransferComplete => [.disp]
  | .minimumShowTimeExpiry => settledBlocks ++ [.msg, .warn]
  | .maximumShowTimeExpiry | .reminderRepostTimerExpiry => settledBlocks ++ [.msg, .warn, .service]
  | .evaluationTimerExpiry => settledBlocks ++ warnBlocks
  | .reOfferTimerExpiry _ => settledBlocks ++ postBlocks
  | .reChimeTimerExpiry _ => [.warn]
  | .reviewTimerExpiry => .warn :: settledBlocks
  | .flashTimerExpiry | .staleGraceExpiry | .engineRunningTimerExpiry => [.warn]
  | .lampProvingExpiry => settledBlocks ++ [.msg, .warn, .service]
  | .windowTimerExpiry => settledBlocks ++ warnBlocks
  | .elementEnd => settledBlocks ++ [.chime, .port]
  | .busyPollRetry _ => [.power, .faults, .disp] ++ storeBlocks
  | .failedWriteWaitExpiry => settledBlocks ++ [.nsp]
  | .writeComplete => [.power, .faults, .disp] ++ storeBlocks
  | .keyRelease _ => [.keys]

/-! ### Bounds that the manual sets -/

/-- Every gauge position lies within 0 and its channel's sweep (02 R20). -/
def gaugesWithin (g : Gauges) : Bool :=
  g.g0.position ≤ 720 && g.g1.position ≤ 720 && g.g2.position ≤ 256 && g.g3.position ≤ 256
    && g.g4.position ≤ 256 && g.g5.position ≤ 256

/-- No two of a list are equal. -/
def distinct {α : Type} [BEq α] : List α → Bool
  | [] => true
  | x :: rest => !rest.contains x && distinct rest

/-- At most one of a list. -/
def atMostOne {α : Type} (p : α → Bool) (xs : List α) : Bool := xs.countP p ≤ 1

/-- The chime request set: at most 8 requests, no two of one source, at most one SOUNDING (08 R129,
R133). -/
def chimeSetWithin (c : Chime) : Bool :=
  c.requests.length ≤ 8 && distinct (c.requests.map (fun r => r.source)) && atMostOne (fun r => r.sounding) c.requests

/-- The message queue: at most 8 records, no two of one origin, and one SHOWING unless it is empty
(09 R142, R143, R150). -/
def messagesWithin (m : Messages) : Bool :=
  m.queue.length ≤ 8 && distinct (m.queue.map (fun r => r.origin))
    && (m.queue.isEmpty || m.queue.countP (fun r => r.showing) = 1)

/-- The transmit queue: at most 8 entries, each of another identity, and one in flight exactly while a frame
is being sent (10 R159). -/
def transmitWithin (p : Port) : Bool :=
  p.queue.length ≤ 8 && distinct (p.queue.map (fun e => e.id))
    && p.queue.countP (fun e => e.inFlight) = (if p.sending.isSome then 1 else 0)

/-- The NSP write queue: at most 16 entries, never two of one word address (11 R167). -/
def writesWithin (n : Nsp) : Bool := n.queue.length ≤ 16 && distinct (n.queue.map (fun e => e.addr))

/-- The intake queue: at most 4 commands (10 R158). -/
def intakeWithin (p : Port) : Bool := p.intake.length ≤ 4

/-- The queues and sets of the part keep their bounds. -/
def queuesWithin (s : State) : Bool :=
  chimeSetWithin s.chime && messagesWithin s.msg && transmitWithin s.port && intakeWithin s.port
    && writesWithin s.nsp

/-- While its gate is false, an entry stays IDLE (07 R116). -/
def gatesHold (s : State) : Bool :=
  warnNumbers.all (fun n => gateTrue s (warnDef n).gate || (warnEntry s n).status = .idle)

/-- The transmit and intake queues are empty, nothing is being sent and no wake pulse driven. -/
def portSilent (p : Port) : Bool :=
  p.queue.isEmpty && p.intake.isEmpty && p.sending.isNone && p.pulseUntil.isNone

/-- The part neither sends nor answers while listen-only, nor in OFFLINE and STARTING (10 R163, R164). -/
def silenceHolds (s : State) : Bool :=
  match s.power.mode with
  | .offline | .starting _ => portSilent s.port
  | .run | .watch | .sleep => s.straps.address.isSome || portSilent s.port

/-- A trip within its ranges (04 TABLE 4-2). -/
def tripWithin (t : Trip) : Bool := t.distance ≤ 99999 && t.fuel ≤ 4294967295 && t.seconds ≤ 359999

/-- The speed limit is 0, or 30 to 200 in steps of 10 (04 R80). -/
def limitLegal (n : Nat) : Bool := n = 0 || (30 ≤ n && n ≤ 200 && n % 10 = 0)

/-- The figures of the Trip Computer within their ranges (04 R64, R66 to R68, R76, R80). -/
def tripsWithin (t : TripComputer) : Bool :=
  tripWithin t.tripA && tripWithin t.tripB && t.odometer ≤ 9999999 && t.segSteps ≤ 9 && 30 ≤ t.rangeBasis
    && t.rangeBasis ≤ 999 && limitLegal t.speedLimit

/-- The straps have been sampled since the cold start (12 R171). -/
def strapped (s : State) : Bool := s.power.mode ≠ .offline && s.power.mode ≠ .starting .settle

/-- The open journey's distance, fuel and minutes are 16-bit figures (05 TABLE 5-1, R84 to R86). -/
def journeyWithin (j : Journey) : Bool :=
  j.distance ≤ 65535 && j.fuel ≤ 65535 && j.elapsed ≤ 65535 && j.waiting ≤ 65535

/-- The remainders of a service item: km from -9,999 to 30,000, tenths of an hour from -9,999 to 15,000
(06 R96). -/
def itemWithin (i : Item) : Bool :=
  decide (-9999 ≤ i.km ∧ i.km ≤ 30000) && i.hours.all (fun h => decide (-9999 ≤ h ∧ h ≤ 15000))

/-- Residues below what takes them, and counts at their stops: the pulse residue (04 R62), the fuel residue
(03 R46), the journey's residue (05 R85), the segment's counts (04 R76), the sender watch (03 R58), the open
journey, the hours residue with the service items (06 R96), and the ring of ten records at most (05 R88). -/
def countersWithin (s : State) : Bool :=
  (if strapped s then s.trip.pulseResidue < pulsesPerStep s.straps.pulseSel else s.trip.pulseResidue = 0)
    && s.fuel.residue < 200 && s.journey.residue < 200 && s.trip.segCount ≤ 4294967295
    && s.fuel.senderWatch ≤ 65535 && s.journey.openJourney.all journeyWithin
    && s.service.hoursResidue < 360 && s.service.items.all itemWithin && s.journey.ring.length ≤ Config.ringCapacity

/-- A CLOCK SET in the intake queue carries minutes of the day (10 TABLE 10-5). -/
def clockSetsLegal (p : Port) : Bool :=
  p.intake.all (fun e => match e.command with | .clockSet m => m ≤ 1439 | _ => true)

/-- The clock within its ranges (04 R78). -/
def clockWithin (s : State) : Bool := s.clock.minutes ≤ 1439 && s.clock.seconds ≤ 59 && clockSetsLegal s.port

/-- The dip is in force while an input is active, and the settle timer runs only in a dip with both inputs
inactive (12 R175). -/
def dipHolds (p : Power) : Bool :=
  (p.dip || !(p.crank || p.lowv)) && (!runs p.settleTimer || (p.dip && !p.crank && !p.lowv))

/-- In a dip no write is being tried whose command byte is not acknowledged (11 R167). -/
def writerHolds (s : State) : Bool :=
  !s.power.dip || (match s.nsp.writer with | .trying _ acked _ => acked | _ => true)

/-- A volume within the auxiliary tank of a body variant, if it has one (03 TABLE 3-1). -/
def withinAux (variant : BitVec 2) (v : Nat) : Bool :=
  match (tankSpec variant).aux with
  | some (capacity, _) => v ≤ capacity
  | none => false

/-- Samples and estimates lie within their tanks, and there are none before the straps are sampled
(03 R43, R44, R50, R59). -/
def fuelWithin (s : State) : Bool :=
  s.fuel.mainRing.all (fun v => v ≤ (tankSpec s.straps.variant).mainCapacity)
    && s.fuel.mainEst.all (fun v => v ≤ (tankSpec s.straps.variant).mainCapacity)
    && s.fuel.auxRing.all (withinAux s.straps.variant) && s.fuel.auxEst.all (withinAux s.straps.variant)
    && (strapped s || (s.fuel.mainRing.isEmpty && s.fuel.auxRing.isEmpty && s.fuel.mainEst.isNone
        && s.fuel.auxEst.isNone))

/-! ### What comes at the end of a command -/

/-- `t` is `x` with the sleep timer settled (12 R173) and the display's image brought up to date
(09 R140). -/
structure SettledFrom (x t : State) : Prop where
  rest : t = { x with
    power := { x.power with sleepTimer := t.power.sleepTimer }
    disp := { x.disp with image := t.disp.image, transfer := t.disp.transfer, changed := t.disp.changed } }
  sleep : runs t.power.sleepTimer = (decide (x.power.mode = .watch) && sleepConditions x)
  image : t.disp.image = composeImage t

/-- The sleep timer runs exactly in WATCH under the sleep conditions (12 R173), and the image is the one that the
state shows (09 R140). -/
def currentHolds (s : State) : Bool :=
  runs s.power.sleepTimer = (decide (s.power.mode = .watch) && sleepConditions s)
    && s.disp.image = composeImage s

/-! ### Commands that find nothing to act on -/

/-- The event of a command can occur in the state; a command whose event cannot occur changes nothing but
what is brought up to date at its end (entry 4). -/
def occurs (s : State) : Instr → Bool
  | .standbySupplyUp _ _ => !powered s
  | .standbySupplyLoss _ | .supplyDipBegin _ | .ignOn | .ignOff | .wakePulseHeard => powered s
  | .settleEnd _ => s.power.mode = .starting .settle
  | .loadComplete _ => s.power.mode = .starting .load
  | .listenEnd => s.power.mode = .starting .listen
  | .sleepTimerExpiry => s.power.mode = .watch && runs s.power.sleepTimer
  | .keyWake _ => s.power.mode = .sleep
  | .dipInputsClear => powered s && (s.power.crank || s.power.lowv)
  | .supplyDipEnd => runs s.power.settleTimer
  | .restartRequestRosterRefresh => (intakeHead s).any (fun e => e.command = .rosterRefresh)
  | .restartRequestWarmRestart => (intakeHead s).any (fun e => e.command = .warmRestart)
  | .reportArrival _ _ | .rollCall _ | .presence _ | .addressedFrameAnswer _ _ => receives s
  | .otherFrameHeard kind target _ => receives s && goesNoFurther s.straps.address kind target
  | .ownAddressFrameHeard => receives s && s.straps.address.isSome
  | .frameDiscarded cause => receives s && cause = .wakePulse
  | .demand => (intakeHead s).any (fun e => match e.command with | .demand _ _ => true | _ => false)
  | .chimeRequest => (intakeHead s).any (fun e => match e.command with | .chime _ _ => true | _ => false)
  | .notice => (intakeHead s).any (fun e => match e.command with | .notice _ _ => true | _ => false)
  | .serviceReset => (intakeHead s).any (fun e => match e.command with | .serviceReset _ => true | _ => false)
  | .journeyClear => (intakeHead s).any (fun e => e.command = .journeyClear)
  | .clockSet => (intakeHead s).any (fun e => match e.command with | .clockSet _ => true | _ => false)
  | .attemptBegin => mayTransmit s && (txHead s.port.queue).isSome
  | .lostArbitration | .readbackFault => (flying s).isSome
  | .lineFaultPauseExpiry => runs s.port.pauseTimer
  | .broadcastSentWhole => (flying s).any (fun e => e.id.target = 0)
  | .answerSlotClose _ => (flying s).any (fun e => e.id.target ≠ 0)
  | .retryDelayExpiry id => s.port.queue.any (fun e => e.id = id && runs e.retry)
  | .ownerReoffer (.answers n) => mayQueue s && runs (demandOf s n).wait
  | .ownerReoffer what => mayQueue s && s.port.owed.any (fun o => o.1 = what)
  | .holdOffExpiry => runs s.port.holdOff
  | .wakePulseSend => mayPulse s
  | .staleTimerExpiry k => (entryIn s k).bound.isSome && runs (entryIn s k).staleTimer
  | .rosterTimerExpiry n => (rosterOf s n).status = .live && runs (rosterOf s n).timer
  | .mirrorTimerExpiry => runs s.bus.mirrorTimer
  | .dampingStep => runs s.gauges.dampTimer
  | .coilOffTimerExpiry => runs s.gauges.coilOffTimer
  | .correctionTimerExpiry => runs s.fuel.corrTimer
  | .standstillTimerExpiry => runs s.fuel.standTimer
  | .pumpTimerExpiry => runs s.fuel.pumpTimer
  | .transferStopTimerExpiry => runs s.fuel.stopTimer
  | .tripSecondTimerExpiry => runs s.trip.tripSecondTimer
  | .instantSamplerExpiry => runs s.trip.samplerTimer
  | .clockSecond => runs s.clock.secondTimer
  | .modePress => awake s && s.keys.mode = .released
  | .selectPress => awake s && s.keys.select = .released
  | .resetPress => awake s && s.keys.reset = .released
  | .notePress => awake s && s.keys.note = .released
  | .journeyPress => awake s && s.keys.journey = .released
  | .journeyRelease => awake s && s.keys.journey ≠ .released
  | .journeyLongPress => awake s && (match s.keys.journey with | .held (.journey _) => true | _ => false)
  | .tripReset => awake s && (match s.keys.reset with | .held (.tripReset _ _) => true | _ => false)
  | .serviceResetPress => awake s && (match s.keys.reset with | .held (.serviceReset _ _) => true | _ => false)
  | .setModeTimeout => runs s.disp.setTimer
  | .blinkTimerExpiry => runs s.disp.blinkTimer
  | .journeyReadoutAlternate => runs s.disp.altTimer
  | .displayTimerExpiry => runs s.disp.displayTimer
  | .displayTransferComplete => s.disp.transfer.isSome
  | .minimumShowTimeExpiry => runs s.msg.minTimer
  | .maximumShowTimeExpiry => runs s.msg.maxTimer
  | .reminderRepostTimerExpiry => runs s.service.repostTimer
  | .evaluationTimerExpiry => runs s.warn.evalTimer
  | .reOfferTimerExpiry n => runs (warnEntry s n).reofferTimer
  | .reChimeTimerExpiry n => runs (warnEntry s n).rechimeTimer
  | .reviewTimerExpiry => runs s.warn.reviewTimer
  | .flashTimerExpiry => runs s.warn.flashTimer
  | .lampProvingExpiry => runs s.warn.provingTimer
  | .windowTimerExpiry => runs s.warn.windowTimer
  | .staleGraceExpiry => runs s.warn.graceTimer
  | .engineRunningTimerExpiry => runs s.warn.engineTimer
  | .elementEnd => runs s.chime.elementTimer
  | .busyPollRetry answer =>
    if s.power.mode = .starting .load then answer ≠ .dataUnacked
    else
      (match s.nsp.writer with
       | .trying _ acked _ => if answer = .dataUnacked then acked || !s.power.dip else !acked && !s.power.dip
       | _ => false)
  | .failedWriteWaitExpiry => (match s.nsp.writer with | .waiting _ => true | _ => false)
  | .writeComplete => (match s.nsp.writer with | .trying _ acked _ => !s.nsp.queue.isEmpty && (acked || !s.power.dip) | _ => false)
  | .keyRelease key => awake s && key ≠ .journey && keyOf s.keys key ≠ .released
  | .wakePulseEnd => (match s.power.mode with | .offline | .sleep => false | _ => true)

/-! ### Words the statements use -/

/-- A frame whose characters are a heard frame: its class in three bits, a station as source, a target of 0
to 30, and as many slots as its kind carries, never more than six (10 TABLE 10-1, R153). -/
def frameWf (f : Frame) : Bool :=
  f.cls < 8 && isStation f.source && f.target ≤ Config.stations && f.slots.length ≤ 6 && lengthFits f.kind f.slots

/-- A heard frame comes from another station with the length of its kind, at a part that receives. -/
def heardBy (s : State) (fits : Bool) (h : Heard) : Bool :=
  receives s && isStation h.source && fits && s.straps.address ≠ some h.source

/-- A report is accepted by its entry: unbound, bound to its source, or stale with the frame's READY set
(01 R2, R3). -/
def acceptedBy (s : State) (k : ReportKind) (h : Heard) : Bool :=
  match (entryIn s k).bound with
  | none => true
  | some b => b = h.source || ((entryIn s k).stale && h.ready)

/-- The banks of the state have one place for each station, warning entry, service item and ring position. -/
def banksWhole (s : State) : Bool :=
  s.bus.roster.length = 30 && s.bus.demands.length = 30 && s.warn.entries.length = 24
    && s.service.items.length = 8 && s.journey.positions.length = 10

/-- A transmit queue entry as a frame joins the queue (10 TABLE 10-6). -/
def joined (kind : FrameKind) (target : Nat) (slots : List Slot) (order : Nat) : TxEntry :=
  { id := { kind := kind, target := target, selector := none }, slots := slots, replacement := none,
    periodic := false, order := order, unanswered := 0, holds := 0, retry := none, inFlight := false }

/-- What an entry of the transmit queue sends next: in flight, its replacement contents (10 R159). -/
def carries (e : TxEntry) (slots : List Slot) : Bool :=
  (if e.inFlight then e.replacement else some e.slots) = some slots

/-- The slots that the third row of 10 TABLE 10-5 refuses: invalid, or out of their range; the notices above 15 are
empty entries of the notice table (09 TABLE 9-3). -/
def slotsRefused (k : FrameKind) (slots : List Slot) : Bool :=
  let above (i top : Nat) : Bool := match slotAt slots i with
    | some v => top < v.toNat
    | none => true
  match k with
  | .demand => above 1 63 || (slotAt slots 2).any (fun v => 9 < v.toNat)
  | .chimeRequest => above 1 7 || above 2 9
  | .notice => above 1 15 || above 2 30 || slotAt slots 2 = some 0
  | .serviceReset => above 1 8
  | .restartRequest => slotAt slots 1 ≠ some 1 && slotAt slots 1 ≠ some 2
  | .clockSet => above 1 1439
  | _ => false

/-- The fourth, fifth and sixth rows of 10 TABLE 10-5: the car, the journey and the chime set refuse. -/
def refusedByState (s : State) (k : FrameKind) (h : Heard) : Bool :=
  match k with
  | .serviceReset => !carStopped s
  | .journeyClear => !carStopped s || s.journey.openJourney.isSome
  | .chimeRequest =>
    slotAt h.slots 2 ≠ some 0 && 8 ≤ s.chime.requests.length
      && s.chime.requests.all (fun r =>
        r.source ≠ .peer h.source && r.priority ≤ (if slotAt h.slots 1 = some 6 then 3 else 4))
  | _ => false

/-- The answer of 10 TABLE 10-5 to a frame of a kind code. -/
def tableAnswer (s : State) (code : Byte) (h : Heard) : Answer :=
  match kindOfCode code with
  | none => .refuse
  | some k =>
    if !isTakenCommand k || (isServiceCommand k && h.source ≠ 30) || slotsRefused k h.slots || refusedByState s k h
    then .refuse
    else if 4 ≤ s.port.intake.length then .hold else .take

/-- The command that the slots of a taken frame stand for (10 TABLE 10-2). -/
def commandOf (k : FrameKind) (slots : List Slot) : Command :=
  let n (i : Nat) : Nat := slotNat (slotAt slots i)
  match k with
  | .demand => .demand (BitVec.ofNat 6 (n 1)) ((slotAt slots 2).map (fun v => v.toNat))
  | .chimeRequest => .chime ((patternOfCode (n 1)).getD .single) (n 2)
  | .notice => .notice (n 1) (n 2)
  | .serviceReset => .serviceReset (n 1)
  | .restartRequest => if n 1 = 1 then .rosterRefresh else .warmRestart
  | .clockSet => .clockSet (n 1)
  | _ => .journeyClear

/-- The command of a key's accepted press. -/
def pressOf : Key → Instr
  | .mode => .modePress
  | .select => .selectPress
  | .reset => .resetPress
  | .note => .notePress
  | .journey => .journeyPress

/-- 07 TABLE 7-4: state and count after an evaluation of an entry of debounce `n`, but for the re-chime of
R122; a return to the prior state has its count at 0. -/
def table74 (n : Nat) (truth : Bool) (e : WarnEntry) : WarnStatus × Nat :=
  match truth, e.status with
  | true, .idle => if n = 1 then (.active, 1) else (.arming, 1)
  | true, .arming => if n ≤ e.count + 1 then (.active, e.count + 1) else (.arming, e.count + 1)
  | true, .active => (.active, e.count)
  | true, .noted => (if e.rechimeDue then .active else .noted, e.count)
  | true, .clearing => (match e.prior with | .active => .active | .noted => .noted, 0)
  | false, .idle => (.idle, e.count)
  | false, .arming => (.idle, 0)
  | false, .active | false, .noted => if n = 1 then (.idle, 0) else (.clearing, 1)
  | false, .clearing => if n ≤ e.count + 1 then (.idle, 0) else (.clearing, e.count + 1)

/-- The truth that 07 TABLE 7-2 gives the test of an entry for a value, by R111 and R112 (`release` in ACTIVE, NOTED
and CLEARING, `limit` the speed limit); the value of a STALE test is 1 or 0 by R113. -/
def table72 (n limit : Nat) (release : Bool) (v : Nat) : Bool :=
  match n with
  | 1 => v ≤ (if release then 70 else 50)
  | 2 => (if release then 322 else 330) ≤ v
  | 3 => v ≤ (if release then 123 else 118)
  | 4 | 14 | 23 => v.testBit 0
  | 5 => v.testBit 1
  | 6 => v ≤ (if release then 120 else 100)
  | 7 | 18 | 19 | 20 | 21 | 24 => 1 ≤ v
  | 8 => 100 ≤ v
  | 9 | 10 => v % 64 ≠ 0
  | 11 | 12 => !v.testBit 0
  | 13 => v.testBit 0 && v.testBit 8
  | 15 => v.testBit 3
  | 16 => v.testBit 2
  | 17 => v ≤ (if release then 88 else 86)
  | 22 => limit ≠ 0 && (if release then limit * 10 - 20 else limit * 10) ≤ v
  | _ => false

/-- The entries whose lamps are L0 to L11 (07 TABLE 7-2). -/
def lampOwners : List (List Nat) :=
  [[1], [2], [3], [4, 5], [6, 7], [9, 10], [11, 12], [20, 21], [15], [16], [17], [8, 18, 19, 24]]

end Sys2Proof.Machine
end

