-- ==== Sys2Proof/WellFormed.lean ====
section
/-! DEFINITION. WellFormed.lean: the commands that the surroundings can send: operands within the numbers the
manual gives. The meanings do not rely on these checks: a command outside them changes nothing the manual
keeps (entry 28). -/

namespace Sys2Proof

open Machine

/-- A station number (00 Terms "Station"). -/
def stationWf (n : Nat) : Bool := 1 ≤ n && n ≤ Config.stations

/-- A heard frame of a kind: a station as its source, and as many slots as the kind carries (10 R153). -/
def kindWf (k : FrameKind) (h : Heard) : Bool := stationWf h.source && h.slots.length = kindSlots k

/-- A heard frame of a kind code: one not in 10 TABLE 10-2 may carry any length (10 R153). -/
def codeWf (code : Byte) (h : Heard) : Bool :=
  match kindOfCode code with
  | some k => kindWf k h
  | none => stationWf h.source

/-- A warning entry number (07 R109). -/
def entryWf (n : Nat) : Bool := 1 ≤ n && n ≤ 24

/-- Identities the part queues: a trip for TRIP SUMMARY, an index for JOURNEY RECORD, and a target that is a
station or 0 for all (10 TABLE 10-6). -/
def frameIdWf (id : FrameId) : Bool :=
  id.target ≤ Config.stations &&
    (match id.kind, id.selector with
     | .tripSummary, some t => t ≤ 1
     | .journeyRecord, some i => i ≤ 9
     | .tripSummary, none | .journeyRecord, none => false
     | _, selector => selector.isNone)

/-- What an owner offers again names stations (10 R159). -/
def reofferWf : Reoffer → Bool
  | .staleDemand target => stationWf target
  | .answers station => stationWf station
  | .presence | .rollCall | .chimeStatus | .transferStop => true

/-- A command that the surroundings can send. -/
def Instr.wf : Instr → Bool
  | .reportArrival k h => kindWf (reportFrameKind k) h
  | .rollCall h => kindWf .rollCall h
  | .presence h => kindWf .presence h
  | .otherFrameHeard code target h => codeWf code h && target ≤ Config.stations
  | .addressedFrameAnswer code h => codeWf code h
  | .answerSlotClose (some run) => 1 ≤ run
  | .retryDelayExpiry id => frameIdWf id
  | .ownerReoffer what => reofferWf what
  | .rosterTimerExpiry station => stationWf station
  | .reOfferTimerExpiry entry | .reChimeTimerExpiry entry => entryWf entry
  | .keyRelease key => key ≠ .journey
  | .standbySupplyUp _ _ | .standbySupplyLoss _ | .settleEnd _ | .loadComplete _ | .listenEnd | .ignOn
  | .ignOff | .sleepTimerExpiry | .wakePulseHeard | .keyWake _ | .supplyDipBegin _ | .dipInputsClear
  | .supplyDipEnd | .restartRequestRosterRefresh | .restartRequestWarmRestart | .ownAddressFrameHeard
  | .frameDiscarded _ | .demand | .chimeRequest | .notice | .serviceReset | .journeyClear | .clockSet
  | .attemptBegin | .lostArbitration | .readbackFault | .lineFaultPauseExpiry | .broadcastSentWhole
  | .answerSlotClose none | .holdOffExpiry | .wakePulseSend | .staleTimerExpiry _ | .mirrorTimerExpiry
  | .dampingStep | .coilOffTimerExpiry | .correctionTimerExpiry | .standstillTimerExpiry | .pumpTimerExpiry
  | .transferStopTimerExpiry | .tripSecondTimerExpiry | .instantSamplerExpiry | .clockSecond | .modePress
  | .selectPress | .resetPress | .notePress | .journeyPress | .journeyRelease | .journeyLongPress | .tripReset
  | .serviceResetPress | .setModeTimeout | .blinkTimerExpiry | .journeyReadoutAlternate | .displayTimerExpiry
  | .displayTransferComplete | .minimumShowTimeExpiry | .maximumShowTimeExpiry | .reminderRepostTimerExpiry
  | .evaluationTimerExpiry | .reviewTimerExpiry | .flashTimerExpiry | .lampProvingExpiry | .windowTimerExpiry
  | .staleGraceExpiry | .engineRunningTimerExpiry | .elementEnd | .busyPollRetry _ | .failedWriteWaitExpiry
  | .writeComplete | .wakePulseEnd => true

end Sys2Proof
end

