-- ==== Sys2Proof/Certificates/Slice0/Obligations.lean ====
section
/-! DEFINITION. Certificates/Slice0/Obligations.lean: the statements for the provers. Where a statement says
that a command answers a next state and then `SettledFrom x t` or `OnlyIn blocks s t`, that is its frame: `x`
names every change but the sleep timer and the display image, and the blocks not listed stay as they were. -/

open Sys2Proof Sys2Proof.Machine

/-! ### The machine -/

/-- A step carries out the command at the front of the queue on the state with the queue's rest; with no
command waiting it lets a millisecond pass, in which a PWM frame of the gauge coils begins (the model's choices,
entries 2 and 24). -/
def Obligations.StepRunsFrontCommand : Prop :=
  (∀ (c : Instr) (rest : List Instr) (s : State),
    step { s with pending := c :: rest } = exec c { s with pending := rest })
  ∧ ∀ s : State, s.pending = [] → step s = .next { s with
      now := s.now + 1
      gauges := { s.gauges with frame := beginFrame s.gauges } }

/-- Every command answers a next state, and leaves the queue, the time and every block outside `mayChange` of
it as they were; where its event cannot occur it changes nothing but what the end of a command brings up to date
(the model's choice, entry 4). -/
def Obligations.EveryCommandKeepsToItsBlocks : Prop :=
  ∀ (c : Instr) (s : State), ∃ t, exec c s = .next t ∧ OnlyIn (mayChange c) s t
    ∧ (occurs s c = false → t = s ∨ SettledFrom s t)

/-- The words of the external memory change only at the completion of a write, or in a word cut by the loss of
the supply. -/
def Obligations.OnlyStoreWritesChangeMemory : Prop :=
  ∀ (c : Instr) (s : State), c ≠ .writeComplete → (∀ cut, c ≠ .standbySupplyLoss cut) →
    ∃ t, exec c s = .next t ∧ t.nsp.memory = s.nsp.memory

/-- The sleep timer and the image: from a state whose sleep timer runs exactly in WATCH under the sleep conditions,
and whose image is the one the state shows, every step leads to such a state. What the operation `settled` does for
that: the timer keeps its deadline while it runs and starts for 5 s when it does not, and a change of the image
is sent at once, or after the transfer in progress. -/
def Obligations.SleepTimerAndImageStayCurrent : Prop :=
  (∀ s t : State, currentHolds s = true → step s = .next t → currentHolds t = true)
  ∧ ∀ s : State, SettledFrom s (settled s)
    ∧ (s.power.mode = .watch → sleepConditions s = true → ∀ d, s.power.sleepTimer = some d →
        (settled s).power.sleepTimer = some d)
    ∧ (s.power.mode = .watch → sleepConditions s = true → s.power.sleepTimer = none →
        (settled s).power.sleepTimer = some (s.now + 5000))
    ∧ (composeImage s ≠ s.disp.image → s.disp.transfer = none →
        (settled s).disp.transfer = some (composeImage s))
    ∧ (composeImage s ≠ s.disp.image → s.disp.transfer ≠ none →
        (settled s).disp.transfer = s.disp.transfer ∧ (settled s).disp.changed = true)

/-! ### Bounds that every step keeps -/

/-- The state after reset meets every bound that the statements of this part say each step keeps. -/
def Obligations.ResetMeetsEveryBound : Prop :=
  memoryWf State.reset.nsp.memory = true ∧ queuesWithin State.reset = true ∧ gatesHold State.reset = true
    ∧ silenceHolds State.reset = true ∧ gaugesWithin State.reset.gauges = true
    ∧ tripsWithin State.reset.trip = true ∧ clockWithin State.reset = true ∧ dipHolds State.reset.power = true
    ∧ fuelWithin State.reset = true ∧ countersWithin State.reset = true ∧ banksWhole State.reset = true
    ∧ State.reset.warn.review = .closed ∧ currentHolds State.reset = true ∧ writerHolds State.reset = true

/-- Every step keeps the canonical form of the external memory (addresses rising, below 128, no erased word
listed), the NSP write queue at 16 entries at most, never two of one word address, and in a dip no write being tried
whose command byte is not acknowledged. -/
def Obligations.StoreKeepsItsForm : Prop :=
  (∀ s t : State, memoryWf s.nsp.memory = true → step s = .next t → memoryWf t.nsp.memory = true)
  ∧ (∀ s t : State, writesWithin s.nsp = true → step s = .next t → writesWithin t.nsp = true)
  ∧ ∀ s t : State, writerHolds s = true → step s = .next t → writerHolds t = true

/-- Every step keeps the chime request set at 8 requests at most, no two of one source, at most one SOUNDING,
and the message queue at 8 records at most, no two of one origin, with exactly one SHOWING unless it is empty. -/
def Obligations.ChimesAndMessagesKeepTheirBounds : Prop :=
  (∀ s t : State, chimeSetWithin s.chime = true → step s = .next t → chimeSetWithin t.chime = true)
  ∧ ∀ s t : State, messagesWithin s.msg = true → step s = .next t → messagesWithin t.msg = true

/-- Every step keeps the transmit queue at 8 entries at most, each of another identity, with one in flight
exactly while a frame is being sent, and the intake queue at 4 commands at most. -/
def Obligations.LineQueuesKeepTheirBounds : Prop :=
  ∀ s t : State, transmitWithin s.port = true → intakeWithin s.port = true → step s = .next t →
    transmitWithin t.port = true ∧ intakeWithin t.port = true

/-- While its gate is false, a warning entry is IDLE: every step keeps that. -/
def Obligations.EntriesIdleBehindFalseGates : Prop :=
  ∀ s t : State, gatesHold s = true → step s = .next t → gatesHold t = true

/-- A listen-only part, and a part in OFFLINE or STARTING, holds no frame to send, sends none, drives no wake
pulse and holds no command given TAKE: every step keeps that. -/
def Obligations.ListenOnlyPartStaysSilent : Prop :=
  ∀ s t : State, silenceHolds s = true → step s = .next t → silenceHolds t = true

/-- Every step keeps the figures of the Trip Computer within their ranges (D to 99,999, F to 4,294,967,295, S
to 359,999, the odometer to 9,999,999, the range basis 30 to 999, the speed limit 0 or 30 to 200 in tens), the
clock's minutes within 0 to 1,439 and its seconds within 0 to 59, every gauge position within 0 and its channel's
sweep, the residues of pulses, fuel and run seconds below what takes them, the sender watch and the open journey at
65,535 at most, the remainders of the service items within theirs, and the journey ring at ten records at most. -/
def Obligations.FiguresStayWithinTheirRanges : Prop :=
  (∀ s t : State, tripsWithin s.trip = true → step s = .next t → tripsWithin t.trip = true)
  ∧ (∀ s t : State, clockWithin s = true → step s = .next t → clockWithin t = true)
  ∧ (∀ s t : State, gaugesWithin s.gauges = true → step s = .next t → gaugesWithin t.gauges = true)
  ∧ ∀ s t : State, countersWithin s = true → step s = .next t → countersWithin t = true

/-- Every step keeps one roster entry and one pending demand for each of 30 stations, 24 warning entries, 8
service items and 10 ring positions, and never a review open in set mode. -/
def Obligations.BanksStayWhole : Prop :=
  (∀ s t : State, banksWhole s = true → step s = .next t → banksWhole t = true)
  ∧ ∀ s t : State, s.warn.review = .closed ∨ s.disp.setMode = .none → step s = .next t →
      t.warn.review = .closed ∨ t.disp.setMode = .none

/-- Every step keeps the supply dip in force while CRANK or LOWV is active, and the settle timer running only
in a dip with both inactive. -/
def Obligations.DipStaysWithItsInputs : Prop :=
  ∀ s t : State, dipHolds s.power = true → step s = .next t → dipHolds t.power = true

/-- Every step keeps the sender samples and the estimates within the capacities of their tanks, and where they
are so kept the usable fuel, when defined, lies within 0 and the usable capacity. -/
def Obligations.FuelStaysWithinCapacity : Prop :=
  (∀ s t : State, fuelWithin s = true → step s = .next t → fuelWithin t = true)
  ∧ ∀ (s : State) (u : Nat), fuelWithin s = true → usableFuel s = some u → u ≤ usableCapacity s.straps.variant

/-! ### Frames and stored records as characters and words -/

/-- The characters of every well-formed frame, with its check character, are heard as that frame. Received cells
are read ten at a time up to the first stop cell that no start cell follows at once: the cells of characters give
those characters, and the cells of a well-formed frame the command that the frame is. A dominant stop cell discards
the frame: a run of more than 9 dominant cells, and one of twelve or more as a wake pulse. -/
def Obligations.CharactersAreHeardAsTheirFrame : Prop :=
  (∀ f : Frame, frameWf f = true → heardFrame (encodeFrame f) = some f)
  ∧ (∀ (chars : List Byte) (rest : List Bool), readChars (frameCells chars ++ false :: rest) = .chars chars)
  ∧ (∀ (own : Option Nat) (f : Frame), frameWf f = true →
      receiveCells own (frameCells (encodeFrame f)) = frameCommand own f)
  ∧ (∀ (own : Option Nat) (chars : List Byte) (data rest : List Bool), data.length = 8 →
      ∃ cause, cause ≠ .failedTest
        ∧ receiveCells own (frameCells chars ++ true :: data ++ true :: rest) = .frameDiscarded cause)
  ∧ ∀ (own : Option Nat) (chars : List Byte) (n : Nat) (rest : List Bool), 10 ≤ n →
      receiveCells own (frameCells chars ++ List.replicate n true ++ false :: rest)
        = .frameDiscarded (if 12 ≤ n then .wakePulse else .longRun)

/-- The words that a record is stored as are loaded as that record: an odometer value to 9,999,999 in any
slot, an admissible service record, and a journey record with its 16-bit fields. -/
def Obligations.StoredRecordsLoadAsTheyWere : Prop :=
  (∀ (m : List (Nat × Word)) (slot v : Nat), v ≤ 9999999 → wordsAt m (2 * slot) 2 = odometerWords v →
    slotValue m slot = some v)
  ∧ (∀ (variant : BitVec 2) (i : Nat) (x : Item), -9999 ≤ x.km → x.km ≤ 30000 →
      (x.hours = none ↔ hoursInterval variant i = none) → (∀ h ∈ x.hours, -9999 ≤ h ∧ h ≤ 15000) →
      storedItem variant i (itemWords x) = some (x.km, x.hours))
  ∧ ∀ j : Journey, j.number < 65536 → (∀ m ∈ j.startClock, m ≤ 1439) → j.distance < 65536 → j.fuel < 65536 →
      j.elapsed < 65536 → j.waiting < 65536 →
      checkGood (journeyWords j) = true ∧ journeyOfWords (journeyWords j) = j

/-! ### Power -/

/-- The standby supply begins a cold start: SETTLE for 50 ms and the clock's seconds run, every other part of the
state is as after reset, but for the words of the external memory and the transfer of the dark image, which begins;
the dip is in force if an input is active. What the manual gives of those parts at a cold start it gives by its
chapters; IGN held as off (entry 10), the values that entries 1 and 5 name and the image's transfer beginning with
SETTLE (entry 31) are the model's. The loss of the supply leaves the state of reset but for the words of the external
memory, of which one that the memory may still be storing may be cut to another value (the model's choice, entry 8).
-/
def Obligations.SupplyBeginsAndEndsTheState : Prop :=
  (∀ (crank lowv : Bool) (s : State), s.power.mode = .offline →
      exec (.standbySupplyUp crank lowv) s = .next { State.reset with
        pending := s.pending
        now := s.now
        power := { mode := .starting .settle, startTimer := some (s.now + 50), ignOn := false, crank := crank,
                   lowv := lowv, dip := crank || lowv, settleTimer := none, sleepTimer := none, lastStart := 0 }
        clock := { minutes := 0, seconds := 0, unset := true, secondTimer := some (s.now + 1000) }
        disp := { State.reset.disp with
                    transfer := some { chars := List.replicate 16 ' ', brightness := 15, lit := false } }
        nsp := { State.reset.nsp with memory := s.nsp.memory } })
  ∧ ∀ (cut : Option Word) (s : State), s.power.mode ≠ .offline → memoryWf s.nsp.memory = true →
      ∃ m, exec (.standbySupplyLoss cut) s = .next { State.reset with
          pending := s.pending, now := s.now, nsp := { State.reset.nsp with memory := m } }
        ∧ memoryWf m = true
        ∧ ∀ a, readWord m a =
            match s.nsp.storing, cut with
            | some b, some v => if a = b % 128 then v else readWord s.nsp.memory a
            | _, _ => readWord s.nsp.memory a

/-- At the end of SETTLE the straps are sampled: the address is accepted when the six address and parity
straps hold an odd number of high levels and it lies from 1 to 29, and the flag strap is set otherwise; the
variant, pulse and units straps are kept, and LOAD begins. -/
def Obligations.StrapsAreSampledAfterSettle : Prop :=
  ∀ (p : StrapPins) (s : State), s.power.mode = .starting .settle →
    let highs := (List.range 5).countP (fun i => p.adr.getLsbD i) + (if p.apr then 1 else 0)
    let good := highs % 2 = 1 ∧ 1 ≤ p.adr.toNat ∧ p.adr.toNat ≤ 29
    exec (.settleEnd p) s = .next { s with
      power := { s.power with mode := .starting .load, startTimer := none }
      straps := { address := if good then some p.adr.toNat else none, variant := p.var, pulseSel := p.pk,
                  imperial := p.unt }
      faults := { s.faults with strap := !decide good }
      nsp := { s.nsp with loadTries := 0, loadRetry := none } }

/-- A completed load takes the largest good odometer slot, or 0 with the flag store, takes every service record as
stored, with its state judged, or as 0 km, DUE and dirty until the write queue holds its three words, clears the flag
NV, and begins LISTEN for 250 ms. The ring holds, from the last number L of the header down, the records whose
positions hold them, a damaged one for a failing position, up to the first that is erased or of another number (that a
failing position met a second time, past the number 1, is entered again is the model's choice, entry 38). The open
journey is the one of the open slot unless its check fails or its number is 0 or L. -/
def Obligations.LoadTakesTheStoredRecords : Prop :=
  ∀ s : State, s.power.mode = .starting .load → banksWhole s = true →
    ∃ t, exec (.loadComplete true) s = .next t
      ∧ t.power = { s.power with mode := .starting .listen, startTimer := some (s.now + 250) }
      ∧ t.faults.nv = false
      ∧ (∀ slot < 8, ∀ v ∈ slotValue s.nsp.memory slot, v ≤ t.trip.odometer)
      ∧ ((∃ slot < 8, slotValue s.nsp.memory slot = some t.trip.odometer)
          ∨ (t.trip.odometer = 0 ∧ t.faults.store = true ∧ ∀ slot < 8, slotValue s.nsp.memory slot = none))
      ∧ (∀ i ∈ itemNumbers,
          match storedItem s.straps.variant i (wordsAt s.nsp.memory (16 + 3 * (i - 1)) 3) with
          | some (km, hours) => (itemOf t i).km = km ∧ (itemOf t i).hours = hours
              ∧ (itemOf t i).state = judgeItem s.straps.variant i km hours ∧ (itemOf t i).dirty = false
          | none => (itemOf t i).km = 0 ∧ (itemOf t i).state = .due ∧ t.faults.store = true
              ∧ (itemOf t i).hours = (hoursInterval s.straps.variant i).map (fun _ => 0)
              ∧ ((itemOf t i).dirty = true
                  ∨ ∀ k < 3, ∃ e ∈ t.nsp.queue, e.addr = 16 + 3 * (i - 1) + k))
      ∧ (let number (i : Nat) : Nat :=
           if i < t.journey.lastNumber then t.journey.lastNumber - i else t.journey.lastNumber + 65535 - i
         let words (i : Nat) : List Word := wordsAt s.nsp.memory (42 + 7 * ((number i - 1) % 10)) 7
         t.journey.ring.length ≤ 10
         ∧ (t.journey.lastNumber = 0 → t.journey.ring = [])
         ∧ (∀ i < t.journey.ring.length, (∃ w ∈ words i, w ≠ 0xFFFF)
             ∧ (checkGood (words i) = true → (journeyOfWords (words i)).number = number i
                 ∧ t.journey.ring[i]? = some (.good (journeyOfWords (words i))))
             ∧ (checkGood (words i) = false → t.journey.ring[i]? = some (.damaged (number i))
                 ∧ t.faults.store = true))
         ∧ (t.journey.lastNumber ≠ 0 → t.journey.ring.length < 10 →
             (∀ w ∈ words t.journey.ring.length, w = 0xFFFF)
             ∨ (checkGood (words t.journey.ring.length) = true
                 ∧ (journeyOfWords (words t.journey.ring.length)).number ≠ number t.journey.ring.length)))
      ∧ (let slot := wordsAt s.nsp.memory 112 7
         let stored := journeyOfWords slot
         t.journey.residue = 0
         ∧ t.journey.openJourney = (if checkGood slot = true ∧ stored.number ≠ 0 ∧ stored.number ≠ t.journey.lastNumber
             then some stored else none)
         ∧ (checkGood slot = false → (∃ w ∈ slot, w ≠ 0xFFFF) → t.faults.store = true))
      ∧ t.nsp.memory = s.nsp.memory
      ∧ OnlyIn (mayChange (.loadComplete true)) s t

/-- A load that fails, or whose command byte goes unacknowledged for the twentieth time (the model's BUSY_POLL_RETRY
with that answer, entry 16), sets the flags NV and store, leaves the odometer 0, every service item DUE with 0 km and
dirty until the write queue holds its words, no journey open and the ring empty, and begins LISTEN. -/
def Obligations.FailedLoadLosesEveryRecord : Prop :=
  ∀ (s : State) (c : Instr), s.power.mode = .starting .load → banksWhole s = true →
    (c = .loadComplete false ∨ c = .busyPollRetry .commandUnacked ∧ 19 ≤ s.nsp.loadTries) →
    ∃ t, exec c s = .next t
      ∧ t.power.mode = .starting .listen ∧ t.power.startTimer = some (s.now + 250)
      ∧ t.faults.nv = true ∧ t.faults.store = true ∧ t.trip.odometer = 0 ∧ t.nsp.lastSlot = 7
      ∧ (∀ i ∈ itemNumbers, (itemOf t i).km = 0 ∧ (itemOf t i).state = .due
          ∧ ((itemOf t i).dirty = true ∨ ∀ k < 3, ∃ e ∈ t.nsp.queue, e.addr = 16 + 3 * (i - 1) + k))
      ∧ t.journey.openJourney = none ∧ t.journey.ring = [] ∧ t.journey.lastNumber = 0
      ∧ OnlyIn (mayChange (.busyPollRetry .commandUnacked)) s t

/-- The end of LISTEN enters RUN with IGN on and WATCH with IGN off; the last start kind is 0 and a PRESENCE
with start kind 0 is queued, unless the part is listen-only. -/
def Obligations.ListenEndsInRunOrWatch : Prop :=
  ∀ s : State, s.power.mode = .starting .listen → gatesHold s = true → s.port.queue = [] →
    ∃ t, exec .listenEnd s = .next t
      ∧ t.power.mode = (if s.power.ignOn then .run else .watch)
      ∧ t.power.startTimer = none ∧ t.power.lastStart = 0
      ∧ t.gauges.coilOn = true
      ∧ (∀ g, channelOf t.gauges g = { channelOf s.gauges g with
            mode := if s.power.ignOn then .track else .park, holdCount := 0 })
      ∧ t.warn.evalTimer = some (s.now + 250)
      ∧ t.warn.provingTimer = (if s.power.ignOn then some (s.now + 3000) else none)
      ∧ t.disp.displayTimer = (if s.power.ignOn then none else some (s.now + 30000))
      ∧ t.port.queue = (if s.straps.address.isSome then [joined .presence 0 [some 0] s.port.nextOrder] else [])
      ∧ OnlyIn (mayChange .listenEnd) s t

/-- IGN on in WATCH enters RUN: every channel tracks with the coils on, lamp proving runs for 3 s, the
correction and trip-second timers start, and the entries whose gate is then false are IDLE; in STARTING it
only sets the level read at the end of LISTEN. -/
def Obligations.IgnitionOnEntersRun : Prop :=
  (∀ s : State, s.power.mode = .watch →
    ∃ t, exec .ignOn s = .next t
      ∧ t.power = { s.power with mode := .run, ignOn := true, sleepTimer := none }
      ∧ t.gauges.coilOn = true ∧ t.gauges.coilOffTimer = none
      ∧ (∀ g, channelOf t.gauges g = { channelOf s.gauges g with mode := .track, holdCount := 0 })
      ∧ t.warn.provingTimer = some (s.now + 3000) ∧ t.warn.evalTimer = some (s.now + 250)
      ∧ t.warn.windowTimer = none ∧ t.warn.window = false ∧ t.warn.graceTimer = none ∧ t.warn.graceEnded = false
      ∧ t.fuel.corrTimer = some (s.now + 1000) ∧ t.trip.tripSecondTimer = some (s.now + 1000)
      ∧ t.disp.displayTimer = none ∧ t.disp.setMode = .none ∧ gatesHold t = true
      ∧ OnlyIn startBlocks s t)
  ∧ ∀ (s : State) (step : StartStep), s.power.mode = .starting step →
      exec .ignOn s = .next { s with power := { s.power with ignOn := true } }
        ∧ exec .ignOff s = .next { s with power := { s.power with ignOn := false } }

/-- IGN off in RUN enters WATCH: every channel parks, lamp proving, corrections and trip seconds stop, the
display timer runs for 30 s, the reminder cycle ends, the entries whose gate is then false are IDLE, and the
odometer is offered to the store. -/
def Obligations.IgnitionOffEntersWatch : Prop :=
  ∀ s : State, s.power.mode = .run →
    ∃ t, exec .ignOff s = .next t
      ∧ t.power.mode = .watch ∧ t.power.ignOn = false
      ∧ t.gauges.coilOn = s.gauges.coilOn
      ∧ t.gauges.coilOffTimer = (if allAtRest s.gauges then some (s.now + 1000) else none)
      ∧ (∀ g, channelOf t.gauges g = { channelOf s.gauges g with mode := .park, holdCount := 0 })
      ∧ t.warn.provingTimer = none ∧ t.fuel.corrTimer = none ∧ t.trip.tripSecondTimer = none
      ∧ t.disp.displayTimer = some (s.now + 30000) ∧ t.disp.setMode = .none
      ∧ t.service.cursor = none ∧ (∀ r ∈ t.msg.queue, r.origin ≠ .reminder)
      ∧ gatesHold t = true
      ∧ (s.nsp.queue.length ≤ 14 → t.trip.odoDirty = false ∧ t.nsp.lastSlot = (s.nsp.lastSlot + 1) % 8)
      ∧ OnlyIn startBlocks s t

/-- The sleep timer's expiry in WATCH enters SLEEP: coils off with every channel at 0, the 20 ms period and a PWM
frame in progress running on, warnings IDLE, chime set, message and intake queues empty, of the transmit queue only an
attempt in flight left, the report, roster and schedule timers stopped, keys not decoded and the image dark: sixteen
blanks at the brightness that the BODY LAMPS entry, fresh or not, gives. That those timers stand and that the keys are
forgotten as open are the model's (entries 26 and 23). -/
def Obligations.SleepEntryQuietsThePart : Prop :=
  ∀ s : State, s.power.mode = .watch → s.power.sleepTimer ≠ none →
    ∃ t, exec .sleepTimerExpiry s = .next t
      ∧ t.power = { s.power with mode := .sleep, sleepTimer := none }
      ∧ t.gauges = { Gauges.cold with dampTimer := s.gauges.dampTimer, frame := s.gauges.frame }
      ∧ (∀ n, warnEntry t n = .clear) ∧ t.warn.gateSpeed = s.warn.gateSpeed
      ∧ t.warn.engineEst = s.warn.engineEst ∧ t.warn.evalTimer = none ∧ t.warn.flashTimer = none
      ∧ t.chime.requests = [] ∧ t.msg.queue = [] ∧ t.port.intake = []
      ∧ t.port.queue = s.port.queue.filter (fun e => e.inFlight) ∧ t.port.sending = s.port.sending
      ∧ (∀ k, entryIn t k = { entryIn s k with staleTimer := none })
      ∧ (∀ r ∈ t.bus.roster, r.timer = none) ∧ t.bus.mirrorTimer = none
      ∧ t.fuel.corrTimer = none ∧ t.trip.samplerTimer = none ∧ t.trip.tripSecondTimer = none
      ∧ t.keys = Keys.cold
      ∧ t.disp.image = { chars := List.replicate 16 ' ', brightness := brightness s, lit := false }
      ∧ OnlyIn (mayChange .sleepTimerExpiry) s t

/-- IGN on, a wake pulse and a key each make a wake start in SLEEP, into RUN when IGN is then on (a key into
WATCH): every bound report entry is stale with its timer afresh, no station is LIVE, no demand is pending, the
sender rings, the chime set and the message queue are empty, first-fill snap is pending, and a PRESENCE with
start kind 1 is all that is queued, unless the part is listen-only; only the key asks for a wake pulse. -/
def Obligations.WakeStartLeavesSleep : Prop :=
  ∀ (s : State) (c : Instr) (toRun : Bool), s.power.mode = .sleep →
    ((c = .ignOn ∧ toRun = true) ∨ (c = .wakePulseHeard ∧ toRun = s.power.ignOn)
      ∨ (∃ k, c = .keyWake k) ∧ toRun = false) →
    ∃ t, exec c s = .next t
      ∧ t.power.mode = (if toRun then .run else .watch) ∧ t.power.lastStart = 1
      ∧ (∀ k, entryIn t k =
          if (entryIn s k).bound.isSome then
            { entryIn s k with stale := true, staleTimer := some (s.now + staleLimit k) }
          else { entryIn s k with stale := false, staleTimer := none })
      ∧ (∀ r ∈ t.bus.roster, r.status ≠ .live ∧ r.timer = none) ∧ (∀ d ∈ t.bus.demands, d = .empty)
      ∧ t.bus.heldSpeed = s.bus.heldSpeed
      ∧ t.fuel.mainRing = [] ∧ t.fuel.auxRing = [] ∧ t.fuel.snapPending = true
      ∧ t.fuel.mainEst = s.fuel.mainEst ∧ t.fuel.auxEst = s.fuel.auxEst
      ∧ t.chime.requests = [] ∧ t.msg.queue = [] ∧ t.port.sentWhole = [] ∧ t.port.faultCount = 0
      ∧ t.port.queue = (if s.straps.address.isSome then [joined .presence 0 [some 1] s.port.nextOrder] else [])
      ∧ ((∃ k, c = .keyWake k) → t.port.wakeWanted = s.straps.address.isSome)
      ∧ (c = .ignOn → t.port.wakeWanted = s.port.wakeWanted)
      ∧ (c = .wakePulseHeard → t.port.wakeWanted = false ∧ t.port.lineHeld = true)
      ∧ OnlyIn startBlocks s t

/-- CRANK or LOWV begins the supply dip at once: no request sounds, and the entries behind the ENGINE gate are IDLE;
within a dip a turn to active only stops the settle timer. With both inputs inactive the settle timer runs for 500 ms,
and its expiry ends the dip in every mode: a write held back is begun, and in RUN and WATCH the arbiter decides, the
request that ranks highest of those that hush lets sound starting where none sounds, with a CHIME STATUS of it; in
STARTING and SLEEP nothing sounds and nothing is queued. -/
def Obligations.SupplyDipFollowsItsInputs : Prop :=
  (∀ (input : DipInput) (s : State), s.power.mode ≠ .offline →
      ∃ t, exec (.supplyDipBegin input) s = .next t
        ∧ t.power.dip = true ∧ t.power.settleTimer = none ∧ t.power.mode = s.power.mode
        ∧ t.power.crank = (s.power.crank || decide (input = .crank))
        ∧ t.power.lowv = (s.power.lowv || decide (input = .lowv))
        ∧ (s.power.dip = false → soundingRequest t = none ∧ gatesHold t = true)
        ∧ (s.power.dip = true → SettledFrom { s with power := t.power } t)
        ∧ OnlyIn (mayChange (.supplyDipBegin input)) s t)
  ∧ (∀ s : State, s.power.mode ≠ .offline → s.power.dip = true → (s.power.crank || s.power.lowv) = true →
      exec .dipInputsClear s = .next { s with
        power := { s.power with crank := false, lowv := false, settleTimer := some (s.now + 500) } })
  ∧ ∀ s : State, s.power.settleTimer ≠ none →
      let held (r : ChimeRequest) : Prop := hush s = true ∧ (r.priority = 4 ∨ r.priority = 5)
      ∃ t, exec .supplyDipEnd s = .next t
        ∧ SettledFrom { s with
            power := { s.power with dip := false, settleTimer := none }
            chime := t.chime
            port := t.port
            nsp := { s.nsp with writer :=
              (if s.nsp.writer = .held ∨ (s.nsp.writer = .idle ∧ s.nsp.queue ≠ [] ∧ receives s = true)
               then .trying 0 false none else s.nsp.writer) } } t
        ∧ (s.power.mode = .run → t.power = { s.power with dip := false, settleTimer := none, sleepTimer := none })
        ∧ (awake s = false → t.chime = s.chime ∧ t.port = s.port)
        ∧ (awake s = true → soundingRequest t = none → bestRequest (hush s) s.chime.requests = none)
        ∧ (awake s = true → chimeSetWithin s.chime = true → soundingRequest s = none →
            t.chime.requests.map (fun r => (r.source, r.pattern, r.priority, r.remaining, r.order))
              = s.chime.requests.map (fun r => (r.source, r.pattern, r.priority, r.remaining, r.order))
            ∧ match soundingRequest t with
              | none => ∀ x ∈ s.chime.requests, held x
              | some r => ¬ held r ∧ ∀ x ∈ s.chime.requests, x.source = r.source ∨ held x
                  ∨ r.priority < x.priority ∨ (r.priority = x.priority ∧ r.order ≤ x.order))
        ∧ (soundingSource t = soundingSource s → t.port = s.port)
        ∧ (soundingSource t ≠ soundingSource s → s.straps.address.isSome = true → s.port.queue.length < 8 →
            ∃ e ∈ t.port.queue, e.id = broadcastId .chimeStatus ∧ carries e (chimeStatusSlots t) = true)
        ∧ OnlyIn (mayChange .supplyDipEnd) s t

/-- A roster refresh at the head of the intake queue leaves the report table, roster and demands as a cold
start does, keeps the held road speed, and queues a ROLL CALL; the power state is kept.
A warm restart at the head of the intake queue makes a wake start into RUN or WATCH by IGN, with last
start kind 2: bound entries stale, demands and intake queue empty, sent-whole marks cleared, chime set and
message queue emptied, sender rings empty with the first-fill snap pending, and of the estimates and the Trip Computer
all kept but the instantaneous ring and the two running timers, and a PRESENCE with start kind 2 queued behind what
the transmit queue holds; a listen-only part queues nothing. -/
def Obligations.RestartRequestsAreCarriedOut : Prop :=
  (∀ (s : State) (n : Nat) (rest : List IntakeEntry), awake s = true →
      s.port.intake = ⟨n, .rosterRefresh⟩ :: rest →
      ∃ t, exec .restartRequestRosterRefresh s = .next t
        ∧ t.bus = { Bus.cold with heldSpeed := s.bus.heldSpeed, mirrorTimer := s.bus.mirrorTimer }
        ∧ t.power.mode = s.power.mode ∧ t.port.intake = rest
        ∧ t.fuel = { s.fuel with standTimer := none, standstill := false, pumpTimer := none, pumpLong := false }
        ∧ (s.straps.address.isSome = true → s.port.queue.length ≤ 6 →
            ∃ e ∈ t.port.queue, e.id = { kind := .rollCall, target := 0, selector := none })
        ∧ OnlyIn (mayChange .restartRequestRosterRefresh) s t)
  ∧ ∀ (s : State) (n : Nat) (rest : List IntakeEntry), awake s = true →
      s.port.intake = ⟨n, .warmRestart⟩ :: rest →
      ∃ t, exec .restartRequestWarmRestart s = .next t
        ∧ t.power.mode = (if s.power.ignOn then .run else .watch) ∧ t.power.lastStart = 2
        ∧ t.power.dip = s.power.dip
        ∧ (∀ k, entryIn t k =
            if (entryIn s k).bound.isSome then
              { entryIn s k with stale := true, staleTimer := some (s.now + staleLimit k) }
            else { entryIn s k with stale := false, staleTimer := none })
        ∧ (∀ d ∈ t.bus.demands, d = .empty) ∧ t.port.intake = [] ∧ t.port.sentWhole = []
        ∧ t.chime.requests = [] ∧ t.msg.queue = []
        ∧ t.fuel.mainRing = [] ∧ t.fuel.auxRing = [] ∧ t.fuel.snapPending = true
        ∧ t.fuel.mainEst = s.fuel.mainEst ∧ t.fuel.auxEst = s.fuel.auxEst ∧ t.fuel.residue = s.fuel.residue
        ∧ t.fuel.senderWatch = s.fuel.senderWatch ∧ t.fuel.standstill = false ∧ t.fuel.pumpLong = false
        ∧ t.trip = { s.trip with
            ring := [], instant := none, samplerTimer := some (s.now + 250)
            tripSecondTimer := if s.power.ignOn then some (s.now + 1000) else none }
        ∧ t.disp.readout = s.disp.readout
        ∧ (s.straps.address.isSome = true → s.port.queue.length ≤ 6 →
            (∃ e ∈ t.port.queue, e.id = broadcastId .presence ∧ carries e [some 2] = true)
            ∧ ∃ more, t.port.queue.map (fun e => e.id) = s.port.queue.map (fun e => e.id) ++ more)
        ∧ (s.straps.address = none → t.port.queue = s.port.queue)
        ∧ OnlyIn (mayChange .restartRequestWarmRestart) s t

/-! ### Frames heard -/

/-- A frame heard from another station makes its roster entry LIVE with the time, the READY flag and the
2,000 ms timer of the frame, whatever its kind and target, and starts a running sleep timer afresh while the sleep
conditions hold. A frame for another station, and a broadcast that goes no further, change nothing else (an addressed
ROLL CALL or PRESENCE too, the model's choice, entry 27). A heard ROLL CALL queues a PRESENCE with the kind of the
part's last start, replacing one still queued; a part that is listen-only or in LISTEN queues none.
A frame that carries the part's own address sets the flag clash from LISTEN on and changes nothing else, whichever
command brings it (the model's choice, entry 27); of the frames discarded in reception only a wake pulse changes the
port, standing in for one the part was to send. -/
def Obligations.HeardFramesUpdateTheRoster : Prop :=
  let heardAs (c : Instr) (h : Heard) (s : State) (fits : Bool) : Prop :=
    (c = .rollCall h ∧ fits = fitsKind .rollCall h) ∨ (c = .presence h ∧ fits = fitsKind .presence h)
      ∨ (∃ k, c = .reportArrival k h ∧ fits = fitsKind (reportFrameKind k) h)
      ∨ (∃ code, c = .addressedFrameAnswer code h ∧ fits = lengthFits code h.slots)
      ∨ ∃ code target, c = .otherFrameHeard code target h ∧ fits = lengthFits code h.slots
          ∧ goesNoFurther s.straps.address code target = true
  (∀ (c : Instr) (h : Heard) (fits : Bool) (s : State), banksWhole s = true → heardAs c h s fits →
      heardBy s fits h = true →
      ∃ t, exec c s = .next t ∧ (rosterOf t h.source).status = .live ∧ (rosterOf t h.source).lastHeard = s.now
        ∧ (rosterOf t h.source).lastReady = h.ready ∧ (rosterOf t h.source).timer = some (s.now + 2000)
        ∧ (∀ n, n ≠ h.source → rosterOf t n = rosterOf s n)
        ∧ (s.power.mode = .watch → s.power.sleepTimer ≠ none → sleepConditions t = true →
            t.power.sleepTimer = some (s.now + 5000)))
  ∧ (∀ (code : Byte) (target : Nat) (h : Heard) (s : State),
      heardBy s (lengthFits code h.slots) h = true → goesNoFurther s.straps.address code target = true →
      exec (.otherFrameHeard code target h) s = .next { s with
        power := { s.power with sleepTimer := s.power.sleepTimer.map (fun _ => s.now + 5000) },
        bus := { s.bus with roster := s.bus.roster.modify (h.source - 1) (fun r => { r with
          status := .live, lastHeard := s.now, lastReady := h.ready, timer := some (s.now + 2000) }) } })
  ∧ (∀ (h : Heard) (s : State), heardBy s (fitsKind .rollCall h) h = true →
      ∃ t, exec (.rollCall h) s = .next t
        ∧ (mayQueue s = false → t.port = s.port)
        ∧ (mayQueue s = true → s.port.queue.length < 8 →
            (∀ e ∈ s.port.queue, e.id ≠ broadcastId .presence) →
            t.port.queue = s.port.queue ++ [joined .presence 0 [numSlot s.power.lastStart] s.port.nextOrder])
        ∧ (mayQueue s = true → (∃ e ∈ s.port.queue, e.id = broadcastId .presence) →
            t.port.queue = s.port.queue.map (replaceTx (broadcastId .presence) [numSlot s.power.lastStart] false))
        ∧ OnlyIn (mayChange (.rollCall h)) s t)
  ∧ (∀ s : State, receives s = true → s.straps.address.isSome = true →
      exec .ownAddressFrameHeard s = .next { s with faults := { s.faults with clash := true } })
  ∧ (∀ (c : Instr) (h : Heard) (fits : Bool) (s : State), heardAs c h s fits → receives s = true →
      isStation h.source = true → fits = true → s.straps.address = some h.source →
      let clashed := { s with faults := { s.faults with clash := true } }
      ∃ t, exec c s = .next t ∧ (t = clashed ∨ ((∃ k, c = .reportArrival k h) ∧ SettledFrom clashed t)))
  ∧ ∀ (cause : DiscardCause) (s : State), receives s = true →
      exec (.frameDiscarded cause) s = .next
        (if cause = .wakePulse then { s with port := { s.port with wakeWanted := false, lineHeld := true } } else s)

/-- An item's state is the worst that TABLE 6-2 gives its remainders. Each whole km that the distance steps of a
CHASSIS arrival bring the odometer to takes 1 from every item's remaining km, down to -9,999, and each 360 run seconds
of the FUEL FLOW arrivals take one tenth of an hour from every item with an hours interval. Each decrement has the
state judged again; one that changes the state or brings its remainder to a multiple of 100 marks the record, which
waits dirty or in the write queue, and clears its moved flag, and any other sets that flag of a record that is not
dirty (the flag of a dirty record is the model's reading, entry 32). -/
def Obligations.ServiceItemsCountDown : Prop :=
  (∀ (variant : BitVec 2) (i : Nat) (km : Int) (hours : Option Int), i ∈ itemNumbers →
      (hours = none ↔ hoursInterval variant i = none) →
      judgeItem variant i km hours =
        (if km ≤ -1000 ∨ ∃ h ∈ hours, h ≤ -300 then .overdue
         else if km ≤ 0 ∨ ∃ h ∈ hours, h ≤ 0 then .due
         else if km ≤ (max (kmInterval variant i / 10) 300 : Nat)
            ∨ ∃ h ∈ hours, ∃ x ∈ hoursInterval variant i, h ≤ (x / 10 : Nat) then .soon
         else .counting))
  ∧ (∀ (h : Heard) (old new : Word) (s : State),
      heardBy s (fitsKind .chassis h) h = true → (entryIn s .chassis).bound = some h.source →
      (entryIn s .chassis).base1 = some old → slotAt h.slots 1 = some new → h.first = false →
      (new - old).toNat ≤ 4096 → s.trip.odometer ≤ 9999999 → banksWhole s = true → countersWithin s = true →
      let steps := (s.trip.pulseResidue + (new - old).toNat) / pulsesPerStep s.straps.pulseSel
      let marks := min 9999999 (s.trip.odometer + steps) / 10 - s.trip.odometer / 10
      ∃ t, exec (.reportArrival .chassis h) s = .next t
        ∧ (∀ i ∈ itemNumbers,
            (itemOf t i).km = max (-9999) ((itemOf s i).km - marks) ∧ (itemOf t i).hours = (itemOf s i).hours
            ∧ ((itemOf t i).km ≠ (itemOf s i).km →
                (itemOf t i).state = judgeItem s.straps.variant i (itemOf t i).km (itemOf s i).hours)
            ∧ ((itemOf t i).km = (itemOf s i).km → (itemOf t i).state = (itemOf s i).state)
            ∧ (let taken := min marks ((itemOf s i).km + 9999).toNat
               let level (j : Nat) : ItemState :=
                 if j = 0 then (itemOf s i).state
                 else judgeItem s.straps.variant i ((itemOf s i).km - j) (itemOf s i).hours
               let marking (j : Nat) : Prop := level j ≠ level (j - 1) ∨ ((itemOf s i).km - j) % 100 = 0
               (taken = 0 → (itemOf t i).moved = (itemOf s i).moved)
               ∧ (0 < taken → marking taken → (itemOf t i).moved = false)
               ∧ (0 < taken → ¬ marking taken → (itemOf t i).moved = !(itemOf t i).dirty)
               ∧ (∀ j, 1 ≤ j → j ≤ taken → marking j →
                   (itemOf t i).dirty = true ∨ ∀ k < 3, ∃ e ∈ t.nsp.queue, e.addr = 16 + 3 * (i - 1) + k)
               ∧ ((∀ j, 1 ≤ j → j ≤ taken → ¬ marking j) → (itemOf t i).dirty = (itemOf s i).dirty)))
        ∧ OnlyIn (mayChange (.reportArrival .chassis h)) s t)
  ∧ ∀ (h : Heard) (old new : Word) (s : State),
      heardBy s (fitsKind .fuelFlow h) h = true → (entryIn s .fuelFlow).bound = some h.source →
      (entryIn s .fuelFlow).base2 = some old → slotAt h.slots 2 = some new → h.first = false →
      (new - old).toNat ≤ 64 → banksWhole s = true → countersWithin s = true →
      let seconds := s.service.hoursResidue + (new - old).toNat
      ∃ t, exec (.reportArrival .fuelFlow h) s = .next t
        ∧ t.service.hoursResidue = seconds % 360
        ∧ (∀ i ∈ itemNumbers, (itemOf t i).km = (itemOf s i).km
            ∧ (itemOf t i).hours = (itemOf s i).hours.map (fun x : Int =>
                if hoursInterval s.straps.variant i = none then x
                else max (-9999) (x - (((seconds / 360 : Nat) : Int))))
            ∧ ((itemOf t i).hours ≠ (itemOf s i).hours →
                (itemOf t i).state = judgeItem s.straps.variant i (itemOf s i).km (itemOf t i).hours)
            ∧ ((itemOf t i).hours = (itemOf s i).hours → (itemOf t i).state = (itemOf s i).state
                ∧ (itemOf t i).moved = (itemOf s i).moved ∧ (itemOf t i).dirty = (itemOf s i).dirty)
            ∧ (let marking : Prop :=
                 (itemOf t i).state ≠ (itemOf s i).state ∨ ∃ x ∈ (itemOf t i).hours, x % 100 = 0
               ((itemOf t i).hours ≠ (itemOf s i).hours → marking → (itemOf t i).moved = false
                 ∧ ((itemOf t i).dirty = true ∨ ∀ k < 3, ∃ e ∈ t.nsp.queue, e.addr = 16 + 3 * (i - 1) + k))
               ∧ ((itemOf t i).hours ≠ (itemOf s i).hours → ¬ marking →
                 (itemOf t i).dirty = (itemOf s i).dirty ∧ (itemOf t i).moved = !(itemOf s i).dirty)))
        ∧ OnlyIn (mayChange (.reportArrival .fuelFlow h)) s t

/-- A heard PRESENCE updates the roster, and with start kind 0 removes the counter baselines of every report
entry bound to its station and of no other; every other PRESENCE leaves the report entries as they were. -/
def Obligations.ColdPresenceDropsBaselines : Prop :=
  ∀ (h : Heard) (s : State), heardBy s (fitsKind .presence h) h = true → banksWhole s = true →
    ∃ t, exec (.presence h) s = .next t
      ∧ rosterOf t h.source = { rosterOf s h.source with
          status := .live, lastHeard := s.now, lastReady := h.ready, timer := some (s.now + 2000) }
      ∧ (∀ k, entryIn t k =
          if slotAt h.slots 1 = some 0 ∧ (entryIn s k).bound = some h.source then
            { entryIn s k with base1 := none, base2 := none }
          else entryIn s k)
      ∧ OnlyIn [.bus, .power] s t

/-- An accepted report binds its entry to the source and replaces every slot, the READY flag and the arrival time; the
entry is fresh, its stale timer runs afresh, and each cumulative slot that arrives valid becomes the baseline. One
that arrives invalid leaves the baseline that the bound source had, and a binding or rebinding leaves no baseline but
what arrives with it. A report from another station than the bound one finds a fresh entry: it is ignored but for the
rival flags of the entry and of the station. A stale entry leaves it without any effect but on the roster while its
READY is clear. -/
def Obligations.ReportsBindOrAreIgnored : Prop :=
  (∀ (k : ReportKind) (h : Heard) (s : State),
      heardBy s (fitsKind (reportFrameKind k) h) h = true → acceptedBy s k h = true → banksWhole s = true →
      ∃ t, exec (.reportArrival k h) s = .next t
        ∧ (entryIn t k).bound = some h.source
        ∧ (∀ i, 1 ≤ i → i ≤ 6 → slotAt (entryIn t k).slots i = slotAt h.slots i)
        ∧ (entryIn t k).ready = h.ready ∧ (entryIn t k).arrivalTime = s.now ∧ (entryIn t k).stale = false
        ∧ (entryIn t k).staleTimer = some (s.now + staleLimit k)
        ∧ (entryIn t k).rivalSeen = (entryIn s k).rivalSeen
        ∧ (k = .chassis ∨ k = .fuelFlow → ∀ v ∈ slotAt h.slots 1, (entryIn t k).base1 = some v)
        ∧ (k = .fuelFlow → ∀ v ∈ slotAt h.slots 2, (entryIn t k).base2 = some v)
        ∧ (slotAt h.slots 1 = none →
            (entryIn t k).base1 = if (entryIn s k).bound = some h.source then (entryIn s k).base1 else none)
        ∧ (slotAt h.slots 2 = none →
            (entryIn t k).base2 = if (entryIn s k).bound = some h.source then (entryIn s k).base2 else none)
        ∧ (∀ k', k' ≠ k → entryIn t k' = entryIn s k')
        ∧ OnlyIn (mayChange (.reportArrival k h)) s t)
  ∧ ∀ (k : ReportKind) (h : Heard) (b : Nat) (s : State),
      heardBy s (fitsKind (reportFrameKind k) h) h = true → (entryIn s k).bound = some b → b ≠ h.source →
      banksWhole s = true → ((entryIn s k).stale = false ∨ h.ready = false) →
      ∃ t, exec (.reportArrival k h) s = .next t
        ∧ entryIn t k = { entryIn s k with rivalSeen := (entryIn s k).rivalSeen || !(entryIn s k).stale }
        ∧ (rosterOf t h.source).rival = ((rosterOf s h.source).rival || !(entryIn s k).stale)
        ∧ (∀ k', k' ≠ k → entryIn t k' = entryIn s k')
        ∧ OnlyIn [.bus, .power, .disp] s t

/-- The pulses of an accepted CHASSIS arrival with a baseline and without FIRST, up to 4,096, fill the pulse residue,
and each q of them is one distance step, taken by every consumer: the odometer, saturating at 9,999,999, with a mark
to the service items at each whole km; both trips; the open journey; the sender watch; and the range segment, of which
the tenth step closes the segment and blends its consumption into C. An accepted arrival with FIRST, without a
baseline of its source, or with its pulses invalid yields no delta, and none of these figures changes. -/
def Obligations.ChassisPulsesBecomeDistance : Prop :=
  (∀ (h : Heard) (s : State), heardBy s (fitsKind .chassis h) h = true → acceptedBy s .chassis h = true →
    (h.first = true ∨ (entryIn s .chassis).bound ≠ some h.source ∨ (entryIn s .chassis).base1 = none
      ∨ slotAt h.slots 1 = none) →
    ∃ t, exec (.reportArrival .chassis h) s = .next t
      ∧ t.trip = s.trip ∧ t.journey = s.journey ∧ t.service.items = s.service.items
      ∧ t.service.hoursResidue = s.service.hoursResidue ∧ t.fuel.senderWatch = s.fuel.senderWatch ∧ t.nsp = s.nsp
      ∧ OnlyIn (mayChange (.reportArrival .chassis h)) s t)
  ∧ ∀ (h : Heard) (old new : Word) (s : State),
    heardBy s (fitsKind .chassis h) h = true → (entryIn s .chassis).bound = some h.source →
    (entryIn s .chassis).base1 = some old → slotAt h.slots 1 = some new → h.first = false →
    tripsWithin s.trip = true → countersWithin s = true → banksWhole s = true →
    let delta := if (new - old).toNat ≤ 4096 then (new - old).toNat else 0
    let q := pulsesPerStep s.straps.pulseSel
    let steps := (s.trip.pulseResidue + delta) / q
    let blend (c seg : Nat) : Nat :=
      if c < seg then c + max 1 ((seg - c) / 8) else if seg < c then c - max 1 ((c - seg) / 8) else c
    let consumption := max 30 (min 999 ((s.trip.segCount * 10 + 10) / 20))
    s.trip.pulseResidue < q →
    ∃ t, exec (.reportArrival .chassis h) s = .next t
      ∧ t.trip.pulseResidue = (s.trip.pulseResidue + delta) % q
      ∧ t.trip.pulseTotal = s.trip.pulseTotal + BitVec.ofNat 32 delta
      ∧ t.trip.tripA.distance = (s.trip.tripA.distance + steps) % 100000
      ∧ t.trip.tripB.distance = (s.trip.tripB.distance + steps) % 100000
      ∧ t.trip.odometer = min 9999999 (s.trip.odometer + steps)
      ∧ t.fuel.senderWatch = min 65535 (s.fuel.senderWatch + steps)
      ∧ (t.journey.openJourney.map (fun j => j.distance)
          = s.journey.openJourney.map (fun j => if steps = 0 then j.distance else min 65535 (j.distance + steps)))
      ∧ (∀ i ∈ itemNumbers, (itemOf t i).km =
          max (-9999) ((itemOf s i).km - (t.trip.odometer / 10 - s.trip.odometer / 10 : Nat)))
      ∧ t.trip.segSteps = (s.trip.segSteps + steps) % 10
      ∧ (s.trip.segSteps + steps < 10 →
          t.trip.segCount = s.trip.segCount ∧ t.trip.rangeBasis = s.trip.rangeBasis)
      ∧ (10 ≤ s.trip.segSteps + steps → t.trip.segCount = 0)
      ∧ (10 ≤ s.trip.segSteps + steps → s.trip.segSteps + steps < 20 →
          t.trip.rangeBasis = blend s.trip.rangeBasis consumption)
      ∧ (20 ≤ s.trip.segSteps + steps → t.trip.rangeBasis = blend (blend s.trip.rangeBasis consumption) 30)
      ∧ t.trip.tripA.fuel = s.trip.tripA.fuel ∧ t.trip.tripA.seconds = s.trip.tripA.seconds
      ∧ OnlyIn (mayChange (.reportArrival .chassis h)) s t

/-- The fuel counts of an accepted FUEL FLOW arrival with a baseline and without FIRST, up to 1,024, are added to both
trips, the range segment and the count total, and whole decilitres of them are taken from M and added to the open
journey. Its run seconds, with a baseline, up to 64, fill the hours residue. An accepted arrival with FIRST, without a
baseline of its source, or with the slot invalid yields no delta of that slot. -/
def Obligations.FuelCountsReachTheirConsumers : Prop :=
  (∀ (h : Heard) (s : State), heardBy s (fitsKind .fuelFlow h) h = true → acceptedBy s .fuelFlow h = true →
    let noDelta (base : Option Word) (slot : Slot) : Prop :=
      h.first = true ∨ (entryIn s .fuelFlow).bound ≠ some h.source ∨ base = none ∨ slot = none
    ∃ t, exec (.reportArrival .fuelFlow h) s = .next t
      ∧ (noDelta (entryIn s .fuelFlow).base1 (slotAt h.slots 1) →
          t.trip = s.trip ∧ t.fuel = s.fuel ∧ t.journey = s.journey)
      ∧ (noDelta (entryIn s .fuelFlow).base2 (slotAt h.slots 2) → t.service = s.service)
      ∧ OnlyIn (mayChange (.reportArrival .fuelFlow h)) s t)
  ∧ ∀ (h : Heard) (old new : Word) (s : State),
    heardBy s (fitsKind .fuelFlow h) h = true → (entryIn s .fuelFlow).bound = some h.source →
    (entryIn s .fuelFlow).base1 = some old → slotAt h.slots 1 = some new → h.first = false →
    tripsWithin s.trip = true → s.trip.segCount ≤ 4294967295 → s.fuel.residue < 200 → s.journey.residue < 200 →
    let delta := if (new - old).toNat ≤ 1024 then (new - old).toNat else 0
    ∃ t, exec (.reportArrival .fuelFlow h) s = .next t
      ∧ t.trip.tripA = { s.trip.tripA with fuel := min 4294967295 (s.trip.tripA.fuel + delta) }
      ∧ t.trip.tripB = { s.trip.tripB with fuel := min 4294967295 (s.trip.tripB.fuel + delta) }
      ∧ t.trip.segCount = min 4294967295 (s.trip.segCount + delta)
      ∧ t.trip.countTotal = s.trip.countTotal + BitVec.ofNat 32 delta
      ∧ t.fuel.mainEst = s.fuel.mainEst.map (fun m => m - (s.fuel.residue + delta) / 200)
      ∧ (s.fuel.mainEst ≠ none → t.fuel.residue = (s.fuel.residue + delta) % 200)
      ∧ (s.fuel.mainEst = none → t.fuel.residue = s.fuel.residue)
      ∧ (∀ j ∈ s.journey.openJourney, j.fuel ≤ 65535 →
          t.journey.openJourney = some { j with fuel := min 65535 (j.fuel + (s.journey.residue + delta) / 200) })
      ∧ (s.journey.openJourney = none → t.journey.openJourney = none)
      ∧ (∀ a b, (entryIn s .fuelFlow).base2 = some a → slotAt h.slots 2 = some b → s.service.hoursResidue < 360 →
          t.service.hoursResidue =
            (s.service.hoursResidue + (if (b - a).toNat ≤ 64 then (b - a).toNat else 0)) % 360)
      ∧ OnlyIn (mayChange (.reportArrival .fuelFlow h)) s t

/-- An accepted TANK arrival with READY set, outside a dip, adds the calibrated volume of each valid sender to
its ring, dropping the oldest of sixteen, and a main sample clears the sender watch; with READY clear or in a
dip the rings stay. The pump timer runs for 30 s from the first report of the pump running. -/
def Obligations.TankArrivalFeedsItsRings : Prop :=
  ∀ (h : Heard) (s : State), heardBy s (fitsKind .tank h) h = true → acceptedBy s .tank h = true →
    banksWhole s = true →
    ∃ t, exec (.reportArrival .tank h) s = .next t
      ∧ (∀ v ∈ slotAt h.slots 1, h.ready = true → v.toNat ≤ 255 → s.power.dip = false →
          t.fuel.mainRing = pushRing 16 s.fuel.mainRing (calibrate (mainCurve s.straps.variant) v.toNat)
            ∧ t.fuel.senderWatch = 0)
      ∧ (∀ v ∈ slotAt h.slots 2, ∀ points ∈ auxCurve s.straps.variant, h.ready = true → v.toNat ≤ 255 →
          s.power.dip = false → t.fuel.auxRing = pushRing 16 s.fuel.auxRing (calibrate points v.toNat))
      ∧ (h.ready = false ∨ s.power.dip = true →
          t.fuel.mainRing = s.fuel.mainRing ∧ t.fuel.auxRing = s.fuel.auxRing
            ∧ t.fuel.senderWatch = s.fuel.senderWatch)
      ∧ (∀ v ∈ slotAt h.slots 3, v.getLsbD 0 = true → s.straps.variant ≠ 0 → s.fuel.pumpTimer = none →
          s.fuel.pumpLong = false → t.fuel.pumpTimer = some (s.now + 30000))
      ∧ ((∀ v ∈ slotAt h.slots 3, v.getLsbD 0 = false) → t.fuel.pumpTimer = none ∧ t.fuel.pumpLong = false)
      ∧ t.fuel.mainEst = s.fuel.mainEst ∧ t.fuel.auxEst = s.fuel.auxEst
      ∧ OnlyIn (mayChange (.reportArrival .tank h)) s t

/-- An accepted ENGINE arrival with READY set and its running bit set starts the 5 s engine-running timer; with the
bit clear it stops it and the engine is not established. An accepted BODY DOORS arrival with READY set and its
driver's door open makes an IDLE helper entry 23 ACTIVE. An accepted BODY LAMPS arrival with the headlamps on dims the
display to its level, in LISTEN the dark image of sixteen blanks too, and the changed image is sent at once where no
transfer is in progress. -/
def Obligations.ReportsReachTheirWarnings : Prop :=
  (∀ (h : Heard) (v : Word) (s : State), heardBy s (fitsKind .engine h) h = true → acceptedBy s .engine h = true →
    banksWhole s = true → h.ready = true → slotAt h.slots 5 = some v →
    ∃ t, exec (.reportArrival .engine h) s = .next t
      ∧ (v.getLsbD 0 = true → s.warn.engineTimer = none → s.warn.engineEst = false →
          t.warn.engineTimer = some (s.now + 5000) ∧ t.warn.engineEst = false)
      ∧ (v.getLsbD 0 = false → t.warn.engineTimer = none ∧ t.warn.engineEst = false)
      ∧ OnlyIn (mayChange (.reportArrival .engine h)) s t)
  ∧ (∀ (h : Heard) (v : Word) (s : State), heardBy s (fitsKind .bodyDoors h) h = true →
      acceptedBy s .bodyDoors h = true → h.ready = true → slotAt h.slots 1 = some v → v.getLsbD 0 = true →
      awake s = true → banksWhole s = true → warnEntry s 23 = .clear →
      ∃ t, exec (.reportArrival .bodyDoors h) s = .next t ∧ (warnEntry t 23).status = .active
        ∧ OnlyIn (mayChange (.reportArrival .bodyDoors h)) s t)
  ∧ ∀ (h : Heard) (v level : Word) (s : State), heardBy s (fitsKind .bodyLamps h) h = true →
      acceptedBy s .bodyLamps h = true → slotAt h.slots 1 = some v → v.getLsbD 1 = true →
      slotAt h.slots 3 = some level → banksWhole s = true →
      ∃ t, exec (.reportArrival .bodyLamps h) s = .next t
        ∧ t.disp.image.brightness = min 15 level.toNat
        ∧ (awake s = false → t.disp.image.chars = List.replicate 16 ' ' ∧ t.disp.image.lit = false)
        ∧ (s.disp.transfer = none → t.disp.image ≠ s.disp.image → t.disp.transfer = some t.disp.image)
        ∧ OnlyIn (mayChange (.reportArrival .bodyLamps h)) s t

/-- A REAR CONSOLE arrival from the bound source, without FIRST, whose valid call counter differs from the
valid one before it posts the passenger call for 10 s when the message queue has room, and in RUN and WATCH the CALL
chime of 3 repetitions when the request set has room; with FIRST, with the counter unchanged or invalid, or with no
valid counter before it, it posts no message; nor does an arrival that binds or rebinds the entry. -/
def Obligations.RearCallPostsItsMessage : Prop :=
  (∀ (h : Heard) (s : State), heardBy s (fitsKind .rearConsole h) h = true →
    (entryIn s .rearConsole).bound = some h.source →
    ∃ t, exec (.reportArrival .rearConsole h) s = .next t
      ∧ (∀ old new, slotAt (entryIn s .rearConsole).slots 1 = some old → slotAt h.slots 1 = some new → old ≠ new →
          h.first = false →
          (s.msg.queue.length < 8 →
            ∃ r ∈ t.msg.queue, r.origin = .rearCall ∧ r.text = .passengerCall ∧ r.priority = 3 ∧ r.maxShow = some 10)
          ∧ (awake s = true → s.chime.requests.length < 8 ∨ sourcePresent .rearCall s.chime.requests = true →
              ∃ r ∈ t.chime.requests, r.source = .rearCall ∧ r.pattern = .call ∧ r.remaining = 3 ∧ r.priority = 3))
      ∧ (h.first = true ∨ slotAt h.slots 1 = slotAt (entryIn s .rearConsole).slots 1 ∨ slotAt h.slots 1 = none
          ∨ slotAt (entryIn s .rearConsole).slots 1 = none →
          t.msg = s.msg
            ∧ ∀ r ∈ t.chime.requests, ∃ x ∈ s.chime.requests, x.source = r.source ∧ x.remaining = r.remaining)
      ∧ OnlyIn (mayChange (.reportArrival .rearConsole h)) s t)
  ∧ ∀ (h : Heard) (s : State), heardBy s (fitsKind .rearConsole h) h = true → acceptedBy s .rearConsole h = true →
      (entryIn s .rearConsole).bound ≠ some h.source →
      ∃ t, exec (.reportArrival .rearConsole h) s = .next t ∧ t.msg = s.msg
        ∧ (∀ r ∈ t.chime.requests, ∃ x ∈ s.chime.requests, x.source = r.source ∧ x.remaining = r.remaining)
        ∧ OnlyIn (mayChange (.reportArrival .rearConsole h)) s t

/-- The answer to a heard frame addressed to the part, in RUN or WATCH and not listen-only, is the first row of
TABLE 10-5 that the frame meets, for every kind: no command of the part, a service command from another station than
30, a slot invalid or out of its range, the car, the journey or the chime set refusing, all REFUSE; then HOLD while the
intake queue holds four commands; otherwise TAKE, and the command that its slots stand for joins the queue. In LISTEN
and while listen-only nothing is answered. -/
def Obligations.AddressedFramesAreAnsweredByTheTable : Prop :=
  ∀ (code : Byte) (h : Heard) (s : State), heardBy s (lengthFits code h.slots) h = true →
    ∃ t, exec (.addressedFrameAnswer code h) s = .next t
      ∧ (mayQueue s = false → t.port = { s.port with answer := none })
      ∧ (mayQueue s = true → tableAnswer s code h ≠ .take →
          t.port = { s.port with answer := some (tableAnswer s code h) })
      ∧ (∀ k, mayQueue s = true → tableAnswer s code h = .take → kindOfCode code = some k →
          t.port = { s.port with answer := some .take,
                                 intake := s.port.intake ++ [⟨h.source, commandOf k h.slots⟩] })
      ∧ OnlyIn [.bus, .power, .port] s t

/-! ### Commands from the intake queue -/

/-- A DEMAND at the head of the intake queue is merged into its station's pending demand, its index replacing the
pending one when it has bit 5 set; while answering waits nothing else happens, and with room for six frames every bit
set is answered by its frame, built from the present state, and cleared. A queue full of other frames and without a
mirror that gives way stops the answering at its first bit, which it takes up again 50 ms later. The frames of the
bits, each to its demander or broadcast, carry what the manual's tables give: the two TRIP SUMMARIES the trip's
figures, SERVICE STATUS the states of the items and the least remaining km, CHIME STATUS the sounding source and
pattern, and JOURNEY RECORD the ring record at the index. -/
def Obligations.DemandIsMergedAndAnswered : Prop :=
  (∀ (s : State) (n : Nat) (mask : BitVec 6) (index : Option Nat) (rest : List IntakeEntry),
    awake s = true → banksWhole s = true → isStation n = true →
    s.port.intake = ⟨n, .demand mask index⟩ :: rest →
    ∃ t, exec .demand s = .next t
      ∧ t.port.intake = rest
      ∧ (demandOf t n).index = (if mask.getLsbD 5 then index.getD 0 else (demandOf s n).index)
      ∧ (runs (demandOf s n).wait = true →
          (demandOf t n).mask = (demandOf s n).mask ||| mask ∧ t.port = { s.port with intake := rest })
      ∧ (runs (demandOf s n).wait = false → s.port.queue.length ≤ 2 →
          (demandOf t n).mask = 0
          ∧ ∀ b < 6, ((demandOf s n).mask ||| mask).getLsbD b = true →
              ∃ e ∈ t.port.queue, e.id = (answerFrame s n (demandOf t n).index b).1
                ∧ carries e (answerFrame s n (demandOf t n).index b).2 = true)
      ∧ (∀ b, runs (demandOf s n).wait = false → 8 ≤ s.port.queue.length →
          (∀ e ∈ s.port.queue, yieldingMirror e = false ∧ e.id ≠ (answerFrame s n (demandOf t n).index b).1) →
          b < 6 → ((demandOf s n).mask ||| mask).getLsbD b = true →
          (∀ a < b, ((demandOf s n).mask ||| mask).getLsbD a = false) →
          t.port.queue = s.port.queue
            ∧ demandOf t n = { mask := (demandOf s n).mask ||| mask, index := (demandOf t n).index, resume := b,
                               wait := some (s.now + 50) })
      ∧ (∀ m, m ≠ n → demandOf t m = demandOf s m)
      ∧ OnlyIn [.bus, .port] s t)
  ∧ ∀ (s : State) (n index : Nat), banksWhole s = true →
      let word (v : Nat) : Slot := some (BitVec.ofNat 16 v)
      answerFrame s n index 0 = (broadcastId .clusterMirror, mirrorSlots s)
      ∧ (∀ b, b = 1 ∨ b = 2 →
          let t := if b = 1 then s.trip.tripA else s.trip.tripB
          answerFrame s n index b = ({ kind := .tripSummary, target := n, selector := some (b - 1) },
            [word (b - 1), word (t.distance / 10),
             if t.distance < 10 then none else word (min 999 ((t.fuel * 10 + t.distance) / (2 * t.distance))),
             if t.seconds < 60 then none else word (min 999 (t.distance * 360 / t.seconds)),
             word (t.seconds / 60), word (min 65535 (t.fuel / 200))]))
      ∧ (∃ i ∈ itemNumbers,
          (∀ j ∈ itemNumbers, (itemOf s i).km ≤ (itemOf s j).km ∧ (j < i → (itemOf s i).km < (itemOf s j).km))
          ∧ answerFrame s n index 3 = ({ kind := .serviceStatus, target := n, selector := none },
              [word ((itemNumbers.map (fun j => 4 ^ (j - 1) * (match (itemOf s j).state with
                  | .counting => 0
                  | .soon => 1
                  | .due => 2
                  | .overdue => 3))).sum),
               word i, some (BitVec.ofInt 16 (itemOf s i).km)]))
      ∧ answerFrame s n index 4 = (broadcastId .chimeStatus, match soundingRequest s with
          | none => [none, none]
          | some r =>
            [word (match r.source with
              | .warning m => m
              | .peer m => 32 + m
              | .rearCall => 64
              | .keyClick => 65),
             word (match r.pattern with
              | .single => 0
              | .triple => 1
              | .slow => 2
              | .fast => 3
              | .continuous => 4
              | .twoTone => 5
              | .call => 6
              | .click => 7)])
      ∧ answerFrame s n index 5 = ({ kind := .journeyRecord, target := n, selector := some index },
          match s.journey.ring[index]? with
          | some (.good j) =>
            [word j.number, j.startClock.map (BitVec.ofNat 16), word j.distance, word j.fuel, word j.elapsed,
             word j.waiting]
          | some (.damaged m) => [word m, none, none, none, none, none]
          | none => [none, none, none, none, none, none])

/-- A CHIME REQUEST at the head of the intake queue is posted at priority 3 for CALL and 4 otherwise when the
set has room or its source is in it, and repetitions of 0 withdraw the source's request; a NOTICE posts its
text at priority 4 for its seconds when the queue has room. -/
def Obligations.PeerPostsJoinTheirQueues : Prop :=
  (∀ (s : State) (n : Nat) (pattern : ChimePattern) (reps : Nat) (rest : List IntakeEntry),
    awake s = true → s.port.intake = ⟨n, .chime pattern reps⟩ :: rest →
    ∃ t, exec .chimeRequest s = .next t ∧ t.port.intake = rest
      ∧ (reps = 0 → ∀ r ∈ t.chime.requests, r.source ≠ .peer n)
      ∧ (reps ≠ 0 → s.chime.requests.length < 8 ∨ sourcePresent (.peer n) s.chime.requests = true →
          ∃ r ∈ t.chime.requests, r.source = .peer n ∧ r.pattern = pattern ∧ r.remaining = reps
            ∧ r.priority = (if pattern = .call then 3 else 4))
      ∧ OnlyIn (mayChange .chimeRequest) s t)
  ∧ ∀ (s : State) (n text seconds : Nat) (rest : List IntakeEntry),
      awake s = true → s.port.intake = ⟨n, .notice text seconds⟩ :: rest → s.msg.queue.length < 8 →
      ∃ t, exec .notice s = .next t ∧ t.port.intake = rest
        ∧ (∃ r ∈ t.msg.queue, r.origin = .notice n ∧ r.text = .notice text ∧ r.priority = 4
            ∧ r.maxShow = some seconds)
        ∧ OnlyIn (mayChange .notice) s t

/-- A reset of a service item sets its remaining km and hours to its intervals and its state to COUNTING, and
posts its status note, priority 6 for 2 s, when the queue has room for it beside a reminder: by a SERVICE RESET taken
while the car is stopped (item 0 resets every item), and by a RESET press that reaches 5 s in RUN with the car
standing. A SERVICE RESET taken while the car is not stopped is discarded. -/
def Obligations.ServiceResetRestoresTheIntervals : Prop :=
  (∀ (s : State) (c : Instr) (n item : Nat) (rest : List IntakeEntry), banksWhole s = true → item ≤ 8 →
    ((c = .serviceReset ∧ awake s = true ∧ s.port.intake = ⟨n, .serviceReset item⟩ :: rest ∧ carStopped s = true)
      ∨ (c = .serviceResetPress ∧ s.power.mode = .run ∧ (∃ d, s.keys.reset = .held (.serviceReset item d))
          ∧ carStandsStill s = true)) →
    ∃ t, exec c s = .next t
      ∧ (∀ i ∈ itemNumbers, if item = 0 ∨ item = i then
            (itemOf t i).km = (kmInterval s.straps.variant i : Int) ∧ (itemOf t i).state = .counting
              ∧ (itemOf t i).hours = (hoursInterval s.straps.variant i).map (fun x => (x : Int))
          else (itemOf t i).km = (itemOf s i).km ∧ (itemOf t i).hours = (itemOf s i).hours
            ∧ (itemOf t i).state = (itemOf s i).state)
      ∧ t.service.hoursResidue = s.service.hoursResidue
      ∧ (s.msg.queue.length < 7 → ∃ r ∈ t.msg.queue, r.origin = .statusNote ∧ r.priority = 6 ∧ r.maxShow = some 2
          ∧ r.text = .serviceReset (if item = 0 then none else some item))
      ∧ OnlyIn (.keys :: mayChange .serviceReset) s t)
  ∧ ∀ (s : State) (n item : Nat) (rest : List IntakeEntry), awake s = true →
      s.port.intake = ⟨n, .serviceReset item⟩ :: rest → carStopped s = false →
      exec .serviceReset s = .next { s with port := { s.port with intake := rest } }

/-- A JOURNEY CLEAR taken with the car stopped and no journey open empties the ring, keeps the last number, and
gives every ring position the erased value; taken otherwise it is discarded. -/
def Obligations.JourneyClearEmptiesTheRing : Prop :=
  ∀ (s : State) (n : Nat) (rest : List IntakeEntry), awake s = true →
    s.port.intake = ⟨n, .journeyClear⟩ :: rest →
    (carStopped s = true → s.journey.openJourney = none →
      ∃ t, exec .journeyClear s = .next t ∧ t.journey.ring = [] ∧ t.journey.lastNumber = s.journey.lastNumber
        ∧ t.journey.headerDirty = s.journey.headerDirty ∧ t.journey.openJourney = none
        ∧ (∀ p ∈ t.journey.positions, p.value = none) ∧ t.port.intake = rest
        ∧ OnlyIn (mayChange .journeyClear) s t)
    ∧ (carStopped s = false ∨ s.journey.openJourney ≠ none →
        exec .journeyClear s = .next { s with port := { s.port with intake := rest } })

/-- A CLOCK SET taken sets the minutes, clears the unset flag and leaves the seconds. Each clock second
advances the seconds, and at each minute tick the minutes while the clock is set, and the elapsed minutes of
the open journey, with its waiting minutes outside RUN. -/
def Obligations.ClockIsSetAndCounts : Prop :=
  (∀ (s : State) (n minutes : Nat) (rest : List IntakeEntry), awake s = true →
    s.port.intake = ⟨n, .clockSet minutes⟩ :: rest →
    ∃ t, exec .clockSet s = .next t
      ∧ SettledFrom { s with port := { s.port with intake := rest },
                             clock := { s.clock with minutes := minutes, unset := false } } t)
  ∧ (∀ s : State, s.clock.secondTimer ≠ none → s.clock.seconds < 59 →
      ∃ t, exec .clockSecond s = .next t
        ∧ SettledFrom { s with clock := { s.clock with seconds := s.clock.seconds + 1,
                                                       secondTimer := some (s.now + 1000) } } t)
  ∧ ∀ s : State, s.clock.secondTimer ≠ none → s.clock.seconds = 59 →
      ∃ t, exec .clockSecond s = .next t
        ∧ t.clock = { s.clock with seconds := 0, secondTimer := some (s.now + 1000),
                                   minutes := if s.clock.unset then s.clock.minutes
                                              else (s.clock.minutes + 1) % 1440 }
        ∧ (∀ j ∈ s.journey.openJourney, j.elapsed < 65535 → j.waiting < 65535 →
            t.journey.openJourney = some { j with
              elapsed := j.elapsed + 1,
              waiting := if s.power.mode = .run ∧ ∃ v ∈ roadSpeed s, 50 ≤ v then j.waiting else j.waiting + 1 })
        ∧ (s.journey.openJourney = none → t.journey = s.journey)
        ∧ OnlyIn (mayChange .clockSecond) s t

/-! ### Transmission -/

/-- At an idle gap the part begins the eligible entry of lowest class, and among equals of earliest order, and
sends its frame with the part's address, READY clear in a dip, and FIRST until its kind has been sent whole. -/
def Obligations.AttemptSendsTheHeadOfTheQueue : Prop :=
  ∀ (s : State) (own : Nat), awake s = true → s.straps.address = some own → s.port.holdOff = none →
    s.port.pauseTimer = none → s.port.sending = none → s.port.wakeWanted = false → s.port.lineHeld = false →
    (∃ e ∈ s.port.queue, txEligible e = true) →
    ∃ head ∈ s.port.queue, txEligible head = true
      ∧ (∀ e ∈ s.port.queue, txEligible e = true → kindClass head.id.kind < kindClass e.id.kind
          ∨ (kindClass head.id.kind = kindClass e.id.kind ∧ head.order ≤ e.order))
      ∧ exec .attemptBegin s = .next { s with port := { s.port with
          queue := s.port.queue.map (fun x => if x.id = head.id then { x with inFlight := true } else x),
          sending := some (encodeFrame ⟨kindClass head.id.kind, own, kindCode head.id.kind, head.id.target,
            !s.power.dip, !s.port.sentWhole.contains head.id.kind, head.slots⟩) } }

/-- After a lost arbitration and after a readback fault the attempt is over and every entry stays queued, the one
sent with its counts or, if it has replacement contents, with those and counts of 0; a readback fault is counted,
and the eighth in a row sets the flag line and pauses transmission for 1 s. In SLEEP the entry leaves the queue, a
readback fault counted there too (how such an attempt ends is the model's reading, entry 34). -/
def Obligations.FailedAttemptsKeepTheirEntry : Prop :=
  ∀ s : State, (∃ e ∈ s.port.queue, e.inFlight = true) →
    let kept := s.port.queue.map (fun e => if e.inFlight then
      (match e.replacement with
        | some r => newTx e.id r e.periodic e.order
        | none => { e with inFlight := false }) else e)
    (s.power.mode ≠ .sleep →
      exec .lostArbitration s = .next { s with port := { s.port with queue := kept, sending := none } }
      ∧ (s.port.faultCount < 7 → exec .readbackFault s = .next { s with port := { s.port with
          queue := kept, sending := none, faultCount := s.port.faultCount + 1 } })
      ∧ (s.port.faultCount = 7 → exec .readbackFault s = .next { s with
          faults := { s.faults with line := true },
          port := { s.port with queue := kept, sending := none, faultCount := 0,
                                pauseTimer := some (s.now + 1000) } }))
    ∧ (s.power.mode = .sleep →
      exec .lostArbitration s = .next { s with port := { s.port with
        queue := s.port.queue.filter (fun e => !e.inFlight), sending := none } }
      ∧ (s.port.faultCount < 7 → exec .readbackFault s = .next { s with port := { s.port with
          queue := s.port.queue.filter (fun e => !e.inFlight), sending := none,
          faultCount := s.port.faultCount + 1 } })
      ∧ (s.port.faultCount = 7 → exec .readbackFault s = .next { s with
          faults := { s.faults with line := true },
          port := { s.port with queue := s.port.queue.filter (fun e => !e.inFlight), sending := none,
                                faultCount := 0, pauseTimer := some (s.now + 1000) } }))

/-- A frame sent whole marks its kind, returns the fault count to 0 and clears the flag line. A broadcast and an
addressed frame answered TAKE or REFUSE leave the queue; HOLD waits 50 ms and UNANSWERED 20 ms with their counts; the
tenth HOLD and the third UNANSWERED drop the entry, the latter making its target SILENT; an entry with replacement
contents stays with them, its counts 0, whatever the outcome; the other entries stay. In SLEEP the entry leaves
whatever the answer, and with it its replacement contents (that the third UNANSWERED makes its target SILENT there too
is the model's choice, entry 34). -/
def Obligations.SentFramesLeaveByTheirAnswer : Prop :=
  ∀ (s : State) (before after : List TxEntry) (e : TxEntry), banksWhole s = true →
    s.port.queue = before ++ e :: after → e.inFlight = true →
    (∀ x ∈ before ++ after, x.inFlight = false) →
    let sleeping := s.power.mode = .sleep
    let left := match e.replacement with
      | some r => if sleeping then before ++ after else before ++ newTx e.id r e.periodic e.order :: after
      | none => before ++ after
    (e.id.target = 0 → ∃ t, exec .broadcastSentWhole s = .next t ∧ t.port.queue = left
      ∧ t.port.sending = none ∧ e.id.kind ∈ t.port.sentWhole ∧ t.port.faultCount = 0 ∧ t.faults.line = false
      ∧ OnlyIn [.port, .faults] s t)
    ∧ (e.id.target ≠ 0 → ∀ run : Option Nat, ∃ t, exec (.answerSlotClose run) s = .next t
        ∧ t.port.sending = none ∧ e.id.kind ∈ t.port.sentWhole ∧ t.port.faultCount = 0 ∧ t.faults.line = false
        ∧ ((∃ n, run = some n ∧ 1 ≤ n ∧ n ≤ 5) → t.port.queue = left)
        ∧ ((∃ n, run = some n ∧ 6 ≤ n ∧ n ≤ 8) → t.port.queue =
            if e.holds + 1 < 10 ∧ e.replacement = none ∧ ¬ sleeping then
              before ++ { e with holds := e.holds + 1, retry := some (s.now + 50), inFlight := false } :: after
            else left)
        ∧ ((run = none ∨ ∃ n, run = some n ∧ 8 < n) → t.port.queue =
            if e.unanswered + 1 < 3 ∧ e.replacement = none ∧ ¬ sleeping then
              before ++ { e with unanswered := e.unanswered + 1, retry := some (s.now + 20), inFlight := false }
                :: after
            else left)
        ∧ ((run = none ∨ ∃ n, run = some n ∧ 8 < n) → 2 ≤ e.unanswered → e.replacement = none →
            isStation e.id.target = true → (rosterOf t e.id.target).status = .silent)
        ∧ ((∃ n, run = some n ∧ 1 ≤ n ∧ n ≤ 8) ∨ e.unanswered < 2 ∨ e.replacement ≠ none → t.bus = s.bus)
        ∧ OnlyIn [.port, .faults, .bus] s t)

/-- The line-fault pause, the hold-off and a retry delay end with their timers; a wake pulse asked for is driven
when the part may, 24 dominant cells of which 8 have gone by with each millisecond, and at the end of every pulse the
hold-off runs for 20 ms (that of the part's own pulse set at its beginning, the model's choice, entry 15). -/
def Obligations.LineDelaysEndWithTheirTimers : Prop :=
  (∀ s : State, exec .lineFaultPauseExpiry s = .next { s with port := { s.port with pauseTimer := none } })
  ∧ (∀ s : State, exec .holdOffExpiry s = .next { s with port := { s.port with holdOff := none } })
  ∧ (∀ (s : State) (id : FrameId), ∃ t, exec (.retryDelayExpiry id) s = .next t
      ∧ (∀ e ∈ t.port.queue, e.id = id → e.retry = none)
      ∧ t.port.queue.map (fun e => { e with retry := none }) = s.port.queue.map (fun e => { e with retry := none })
      ∧ t = { s with port := { s.port with queue := t.port.queue } })
  ∧ (∀ s : State, mayQueue s = true → s.port.wakeWanted = true → s.port.lineHeld = false →
      s.port.sending = none →
      let driven := { s with port := { s.port with
        wakeWanted := false, pulseUntil := some (s.now + 3), holdOff := some (s.now + 23) } }
      exec .wakePulseSend s = .next driven
        ∧ ∀ ms : Nat, drivenCells { driven with now := s.now + ms } = List.replicate (24 - 8 * ms) true)
  ∧ ∀ s : State, s.power.mode ≠ .offline → s.power.mode ≠ .sleep →
      exec .wakePulseEnd s = .next { s with port := { s.port with
        lineHeld := false, holdOff := some (s.now + 20) } }

/-- A frame that a full queue did not take is built afresh and joins the queue when its owner offers it again and
there is room, and is then no longer owed; with the queue still full of other frames and no mirror to drop, it stays
owed for 50 ms more (a TRANSFER STOP whose warning 7 has left ACTIVE and NOTED too, the model's choice, entry 13). The
answering of a station's demand that waits is taken up at its waiting bit: with room for six frames every bit set is
answered and cleared, and with the queue still full it stops at the first bit set from that one on, for 50 ms more
(that the bits below it, merged meanwhile, come after is the model's reading, entry 12). -/
def Obligations.OwedFramesAreOfferedAgain : Prop :=
  (∀ (n : Nat) (s : State), mayQueue s = true → banksWhole s = true → isStation n = true →
    (demandOf s n).wait ≠ none → (demandOf s n).resume < 6 →
    let place (b : Nat) : Nat := (b + 6 - (demandOf s n).resume) % 6
    ∃ t, exec (.ownerReoffer (.answers n)) s = .next t
      ∧ (s.port.queue.length ≤ 2 →
          demandOf t n = { mask := 0, index := (demandOf s n).index, resume := 0, wait := none }
          ∧ ∀ b < 6, (demandOf s n).mask.getLsbD b = true →
              ∃ e ∈ t.port.queue, e.id = (answerFrame s n (demandOf s n).index b).1
                ∧ carries e (answerFrame s n (demandOf s n).index b).2 = true)
      ∧ (∀ b < 6, 8 ≤ s.port.queue.length →
          (∀ e ∈ s.port.queue, yieldingMirror e = false ∧ e.id ≠ (answerFrame s n (demandOf s n).index b).1) →
          (demandOf s n).mask.getLsbD b = true →
          (∀ a < 6, place a < place b → (demandOf s n).mask.getLsbD a = false) →
          t.port = s.port
            ∧ demandOf t n = { demandOf s n with resume := b, wait := some (s.now + 50) })
      ∧ (∀ m, m ≠ n → demandOf t m = demandOf s m)
      ∧ OnlyIn [.bus, .port] s t)
  ∧ ∀ (s : State) (what : Reoffer) (id : FrameId) (slots : List Slot), mayQueue s = true →
    (∃ d, (what, d) ∈ s.port.owed) → (∀ n, what ≠ .answers n) → ownedFrame s what = some (id, slots) →
    (∀ e ∈ s.port.queue, e.id ≠ id) →
    (s.port.queue.length < 8 → exec (.ownerReoffer what) s = .next { s with port := { s.port with
      queue := s.port.queue ++ [newTx id slots false s.port.nextOrder],
      nextOrder := s.port.nextOrder + 1,
      owed := s.port.owed.filter (fun o => decide (o.1 ≠ what)) } })
    ∧ (8 ≤ s.port.queue.length → (∀ e ∈ s.port.queue, yieldingMirror e = false) →
        exec (.ownerReoffer what) s = .next { s with port := { s.port with
          owed := s.port.owed.filter (fun o => decide (o.1 ≠ what)) ++ [(what, s.now + 50)] } })

/-! ### Timers of the reports, gauges, fuel and trips -/

/-- The stale timer of a bound entry makes it stale, runs afresh, keeps slots, READY, binding and baselines,
and queues a DEMAND with mask bit 0 alone and no index to the bound source when the part may queue and there is
room; a LIVE roster entry becomes SILENT at its timer.
The mirror timer runs on for 500 ms and queues a mirror of the present state while the REAR CONSOLE entry
is bound to a LIVE station, dropped by a full queue; the transfer stop timer runs on for 5 s and queues a
TRANSFER STOP to the tank station while warning 7 is ACTIVE or NOTED. A mirror carries the held speed, the clock, the
open journey's elapsed minutes, the lamps lit and the range, each invalid when undefined. -/
def Obligations.StationTimersAskAndReport : Prop :=
  ((∀ (k : ReportKind) (b : Nat) (s : State), (entryIn s k).bound = some b → (entryIn s k).staleTimer ≠ none →
      ∃ t, exec (.staleTimerExpiry k) s = .next t
        ∧ entryIn t k = { entryIn s k with stale := true, staleTimer := some (s.now + staleLimit k) }
        ∧ (∀ k', k' ≠ k → entryIn t k' = entryIn s k')
        ∧ (mayQueue s = true → s.port.queue.length ≤ 6 →
            ∃ e ∈ t.port.queue, e.id = { kind := .demand, target := b, selector := none }
              ∧ carries e [some 1, none] = true)
        ∧ (k = .chassis → t.fuel.standstill = false ∧ t.fuel.standTimer = none)
        ∧ (k = .tank → t.fuel.pumpLong = false ∧ t.fuel.pumpTimer = none)
        ∧ OnlyIn (mayChange (.staleTimerExpiry k)) s t)
    ∧ ∀ (n : Nat) (s : State), banksWhole s = true → isStation n = true → (rosterOf s n).status = .live →
        (rosterOf s n).timer ≠ none →
        ∃ t, exec (.rosterTimerExpiry n) s = .next t
          ∧ rosterOf t n = { rosterOf s n with status := .silent, timer := none }
          ∧ (∀ m, m ≠ n → rosterOf t m = rosterOf s m) ∧ OnlyIn [.bus] s t)
  ∧ (∀ s : State, s.bus.mirrorTimer ≠ none →
      ∃ t, exec .mirrorTimerExpiry s = .next t ∧ t.bus = { s.bus with mirrorTimer := some (s.now + 500) }
        ∧ (mirrorDue s = false → t.port = s.port)
        ∧ (mirrorDue s = true → mayQueue s = true → s.port.queue.length < 8 →
            (∀ e ∈ s.port.queue, e.id ≠ broadcastId .clusterMirror) →
            t.port.queue = s.port.queue ++ [newTx (broadcastId .clusterMirror) (mirrorSlots s) true s.port.nextOrder])
        ∧ (8 ≤ s.port.queue.length → (∀ e ∈ s.port.queue, e.id ≠ broadcastId .clusterMirror) → t.port = s.port)
        ∧ OnlyIn [.bus, .port] s t)
    ∧ (∀ s : State, s.fuel.stopTimer ≠ none →
        ∃ t, exec .transferStopTimerExpiry s = .next t ∧ t.fuel = { s.fuel with stopTimer := some (s.now + 5000) }
          ∧ (raised (warnEntry s 7) = false → t.port = s.port)
          ∧ (∀ b, raised (warnEntry s 7) = true → s.bus.tank.bound = some b → mayQueue s = true →
              s.port.queue.length < 8 →
              ∃ e ∈ t.port.queue, e.id = { kind := .transferStop, target := b, selector := none }
                ∧ carries e [] = true)
          ∧ OnlyIn [.fuel, .port] s t)
  ∧ ∀ s : State, awake s = true →
      let units (v : Nat) : Nat := if s.straps.imperial then v * 10181 / 16384 else v
      ∃ lamps : Word,
        mirrorSlots s =
          [s.bus.heldSpeed.map (fun v => BitVec.ofNat 16 (units ((v.toNat + 5) / 10))),
           if s.clock.unset then none else some (BitVec.ofNat 16 s.clock.minutes),
           s.journey.openJourney.map (fun j => BitVec.ofNat 16 j.elapsed),
           some lamps,
           (usableFuel s).map (fun u => BitVec.ofNat 16 (units (min 1999 (u * 100 / s.trip.rangeBasis))))]
        ∧ ∀ l < 16, (lamps.getLsbD l = true ↔ l < 12 ∧ ((s.power.mode = .run ∧ s.warn.provingTimer ≠ none)
            ∨ ∃ n ∈ lampOwners.getD l [], (warnEntry s n).status = .active ∨ (warnEntry s n).status = .noted
                ∨ (warnEntry s n).status = .clearing))

/-- A damping step, in RUN or WATCH with the coils on and no dip, moves each pointer by its mode: in PARK by its
slew toward 0; in TRACK with its source by the difference over 2^s, at least one unit and at most the slew,
toward the target; without it into HOLD; a hundredth step in HOLD into REST, which falls by 4; and back to
TRACK when the source returns. Otherwise nothing moves, and the period runs on. -/
def Obligations.DampingStepMovesThePointers : Prop :=
  ∀ s : State, s.gauges.dampTimer ≠ none → gaugesWithin s.gauges = true →
    let toward (g : Gauge) (target p : Nat) : Nat :=
      if p < target then p + min (gaugeSpec g).slew (max 1 ((target - p) / 2 ^ (gaugeSpec g).shift))
      else if target < p then p - min (gaugeSpec g).slew (max 1 ((p - target) / 2 ^ (gaugeSpec g).shift))
      else p
    ∃ t, exec .dampingStep s = .next t
      ∧ t.gauges.dampTimer = some (s.now + 20) ∧ t.gauges.coilOn = s.gauges.coilOn
      ∧ (dampingTaken s = false → ∀ g, channelOf t.gauges g = channelOf s.gauges g)
      ∧ (dampingTaken s = true → ∀ g, channelOf t.gauges g =
          let c := channelOf s.gauges g
          match c.mode, targetNow s g with
          | .park, _ => { c with position := c.position - (gaugeSpec g).slew }
          | .track, some target => { c with position := toward g target c.position }
          | .track, none => { c with mode := .hold, holdCount := 0 }
          | .hold, none =>
            if c.holdCount + 1 < 100 then { c with holdCount := c.holdCount + 1 }
            else { position := c.position - 4, mode := .rest, holdCount := 0 }
          | .rest, none => { c with position := c.position - 4 }
          | .hold, some target | .rest, some target =>
            { position := toward g target c.position, mode := .track, holdCount := 0 })
      ∧ t.gauges.coilOffTimer =
          (if dampingTaken s && s.power.mode = .watch && allAtRest t.gauges && s.gauges.coilOffTimer.isNone
           then some (s.now + 1000) else s.gauges.coilOffTimer)
      ∧ OnlyIn [.gauges] s t

/-- A correction step in RUN outside a dip: a full main ring with pending, standstill or an open door snaps M
up to its average when M is undefined or more than 50 dL below it; otherwise M moves toward the average of a
usable ring by the difference over the weight, at least 1 dL; X takes its ring's average; a full ring clears
pending. -/
def Obligations.CorrectionMovesTheEstimate : Prop :=
  ∀ s : State, s.fuel.corrTimer ≠ none → fuelWithin s = true →
    let average := s.fuel.mainRing.sum / s.fuel.mainRing.length
    let test := s.fuel.mainRing.length = 16
      ∧ (s.fuel.snapPending = true ∨ s.fuel.standstill = true ∨ doorOpen s = true)
    let weight := if doorOpen s then 4 else if pumpRuns s then 16 else 64
    ∃ t, exec .correctionTimerExpiry s = .next t
      ∧ t.fuel.corrTimer = some (s.now + 1000)
      ∧ (s.power.dip = true → t.fuel = { s.fuel with corrTimer := some (s.now + 1000) })
      ∧ (s.power.dip = false → test → s.fuel.mainEst = none → t.fuel.mainEst = some average)
      ∧ (¬ test → s.fuel.mainEst = none → t.fuel.mainEst = none)
      ∧ (s.power.dip = false → ∀ m ∈ s.fuel.mainEst,
          (test → m + 50 < average → t.fuel.mainEst = some average)
          ∧ (¬ (test ∧ m + 50 < average) → 4 ≤ s.fuel.mainRing.length → t.fuel.mainEst = some
              (if m < average then m + max 1 ((average - m) / weight)
               else if average < m then m - max 1 ((m - average) / weight) else m)))
      ∧ (s.fuel.mainRing.length < 4 → t.fuel.mainEst = s.fuel.mainEst)
      ∧ (s.power.dip = false → t.fuel.snapPending = (s.fuel.snapPending && decide (s.fuel.mainRing.length ≠ 16)))
      ∧ (s.power.dip = false → s.straps.variant ≠ 0 → 4 ≤ s.fuel.auxRing.length →
          t.fuel.auxEst = some (s.fuel.auxRing.sum / s.fuel.auxRing.length))
      ∧ (s.straps.variant = 0 ∨ s.fuel.auxRing.length < 4 → t.fuel.auxEst = s.fuel.auxEst)
      ∧ OnlyIn (mayChange .correctionTimerExpiry) s t

/-- The timers whose expiry sets or clears one flag: coil-off, standstill, pump, stale grace, engine-running,
flash and re-chime. Nothing else changes.
Each second of RUN adds 1 to the seconds of both trips, saturating at 359,999; each 250 ms the sampler adds
the two totals to its ring of eight and computes the instantaneous consumption over the span, in the form of the
units strap, undefined in the cases the manual gives. -/
def Obligations.RunningTimersCount : Prop :=
  ((∀ s : State, s.gauges.coilOffTimer ≠ none → exec .coilOffTimerExpiry s = .next { s with
      gauges := { s.gauges with coilOn := false, coilOffTimer := none } })
    ∧ (∀ s : State, s.fuel.standTimer ≠ none → exec .standstillTimerExpiry s = .next { s with
        fuel := { s.fuel with standTimer := none, standstill := true } })
    ∧ (∀ s : State, s.fuel.pumpTimer ≠ none → exec .pumpTimerExpiry s = .next { s with
        fuel := { s.fuel with pumpTimer := none, pumpLong := true } })
    ∧ (∀ s : State, s.warn.graceTimer ≠ none → exec .staleGraceExpiry s = .next { s with
        warn := { s.warn with graceTimer := none, graceEnded := true } })
    ∧ (∀ s : State, s.warn.engineTimer ≠ none → exec .engineRunningTimerExpiry s = .next { s with
        warn := { s.warn with engineTimer := none, engineEst := true } })
    ∧ (∀ s : State, s.warn.flashTimer ≠ none → exec .flashTimerExpiry s = .next { s with
        warn := { s.warn with flashTimer := some (s.now + 500), flashLit := !s.warn.flashLit } })
    ∧ ∀ (s : State) (n : Nat), banksWhole s = true → isWarning n = true → (warnEntry s n).rechimeTimer ≠ none →
        ∃ t, exec (.reChimeTimerExpiry n) s = .next t
          ∧ warnEntry t n = { warnEntry s n with
              rechimeDue := decide ((warnEntry s n).status = .noted), rechimeTimer := none }
          ∧ (∀ m, m ≠ n → warnEntry t m = warnEntry s m) ∧ OnlyIn [.warn] s t)
  ∧ (∀ s : State, s.trip.tripSecondTimer ≠ none →
      ∃ t, exec .tripSecondTimerExpiry s = .next t
        ∧ SettledFrom { s with trip := { s.trip with
            tripA := { s.trip.tripA with seconds := min 359999 (s.trip.tripA.seconds + 1) },
            tripB := { s.trip.tripB with seconds := min 359999 (s.trip.tripB.seconds + 1) },
            tripSecondTimer := some (s.now + 1000) } } t)
    ∧ ∀ s : State, s.trip.samplerTimer ≠ none →
        let sample : Sample := { pulses := s.trip.pulseTotal, counts := s.trip.countTotal }
        let ring := if s.trip.ring.length < 8 then s.trip.ring ++ [sample] else s.trip.ring.tail ++ [sample]
        ∃ t, exec .instantSamplerExpiry s = .next t
          ∧ SettledFrom { s with trip := { s.trip with
              ring := ring, instant := t.trip.instant, samplerTimer := some (s.now + 250) } } t
          ∧ (ring.length < 8 → t.trip.instant = none)
          ∧ ∀ old ∈ ring.head?, 8 ≤ ring.length →
              let k := pulseConstant s.straps.pulseSel
              let dp := (sample.pulses - old.pulses).toNat
              let dc := (sample.counts - old.counts).toNat
              (dp < k / 100 → t.trip.instant = none)
              ∧ (k / 100 ≤ dp → s.straps.imperial = false →
                  t.trip.instant = some (min 999 ((dc * k + dp) / (2 * dp))))
              ∧ (k / 100 ≤ dp → s.straps.imperial = true → dc = 0 → t.trip.instant = none)
              ∧ (k / 100 ≤ dp → s.straps.imperial = true → dc ≠ 0 →
                  t.trip.instant = some (min 999 ((dp * 47040 + k * (dc / 2)) / (k * dc))))

/-! ### Keys, display and messages -/

/-- Accepted presses by TABLE 9-5, with no record SHOWING: MODE goes to the next readout and leaves set mode and
the review; SELECT changes the trip, enters set mode and goes through its steps; RESET fixes the shown trip, or
steps the value being set; NOTE opens the review at its lowest entry, or moves an open one to its next. With a record
SHOWING, NOTE acts on it, a reminder giving way to the next item's, RESET fixes the item of a reminder, and MODE and
SELECT do nothing more. The long presses fall 2 s, or 5 s for a service item, from the acceptance. A press that finds
the display dark only lights it, the press that woke the part among them, which is told by the model's choice of its
time (entry 22); how set mode blinks is entry 20's, and that a NOTE ends NO WARNINGS at once is entry 39's. -/
def Obligations.PressesActByTheTable : Prop :=
  ∀ s : State, awake s = true → banksWhole s = true → (s.warn.review = .closed ∨ s.disp.setMode = .none) →
    let onTrip := 1 ≤ s.disp.readout ∧ s.disp.readout ≤ 4
    let minutes := if s.clock.unset then 0 else s.clock.minutes
    (s.keys.mode = .released → findsDark .mode s = false →
      ∃ t, exec .modePress s = .next t ∧ t.keys.mode = .held .nothing ∧ t.disp.selB = s.disp.selB
        ∧ (showingRecord s = none → t.disp.setMode = .none ∧ t.warn.review = .closed
            ∧ t.disp.readout = if 10 ≤ s.disp.readout then 1 else s.disp.readout + 1)
        ∧ (showingRecord s ≠ none → t.disp.readout = s.disp.readout)
        ∧ OnlyIn (mayChange .modePress) s t)
    ∧ (s.keys.select = .released → findsDark .select s = false →
      ∃ t, exec .selectPress s = .next t ∧ t.disp.readout = s.disp.readout
        ∧ (showingRecord s = none → t.warn.review = .closed
            ∧ t.disp.selB = (if onTrip ∧ s.disp.setMode = .none then !s.disp.selB else s.disp.selB)
            ∧ t.disp.setMode = (match s.disp.setMode with
                | .none => if s.disp.readout = 8 then .hours else if s.disp.readout = 9 then .limit else .none
                | .hours => .minutes
                | .minutes | .limit => .none)
            ∧ (t.disp.setMode ≠ .none → t.disp.setTimer = some (s.now + 10000)
                ∧ t.disp.blinkTimer = some (s.now + 500) ∧ t.disp.blinkShown = true))
        ∧ (showingRecord s ≠ none → t.disp.selB = s.disp.selB ∧ t.disp.setMode = s.disp.setMode)
        ∧ OnlyIn (mayChange .selectPress) s t)
    ∧ (s.keys.reset = .released → findsDark .reset s = false →
      ∃ t, exec .resetPress s = .next t
        ∧ (showingRecord s = none → s.disp.setMode = .none → t.warn.review = .closed ∧ t.clock = s.clock
            ∧ t.trip = s.trip
            ∧ t.keys.reset = .held (if onTrip then .tripReset s.disp.selB (s.now + 2000) else .nothing))
        ∧ (showingRecord s = none → s.disp.setMode = .hours →
            t.clock = { s.clock with minutes := (minutes + 60) % 1440, unset := false } ∧ t.trip = s.trip)
        ∧ (showingRecord s = none → s.disp.setMode = .minutes →
            t.clock = { s.clock with minutes := minutes - minutes % 60 + (minutes % 60 + 1) % 60, unset := false }
              ∧ t.trip = s.trip)
        ∧ (showingRecord s = none → s.disp.setMode = .limit → t.clock = s.clock
            ∧ t.trip = { s.trip with speedLimit :=
                if s.trip.speedLimit = 0 then 30 else if s.trip.speedLimit < 200 then s.trip.speedLimit + 10 else 0 })
        ∧ (∀ r ∈ showingRecord s, t.clock = s.clock ∧ t.trip = s.trip
            ∧ (∀ st i, r.origin = .reminder → r.text = .service st i →
                t.keys.reset = .held (.serviceReset i (s.now + 5000)))
            ∧ (r.origin ≠ .reminder → t.keys.reset = .held .nothing))
        ∧ OnlyIn (mayChange .resetPress) s t)
    ∧ (s.keys.note = .released → findsDark .note s = false →
      ∃ t, exec .notePress s = .next t ∧ t.keys.note = .held .nothing
        ∧ (showingRecord s = none → s.warn.review = .closed → t.disp.setMode = .none
            ∧ t.warn.reviewTimer = some (s.now + 2000)
            ∧ (match t.warn.review with
                | .closed => False
                | .noWarnings => ∀ n, reviewable (warnEntry s n) = false
                | .entry n => reviewable (warnEntry s n) = true ∧ ∀ m < n, reviewable (warnEntry s m) = false))
        ∧ (∀ n, showingRecord s = none → s.warn.review = .entry n →
            match t.warn.review with
            | .entry m => n < m ∧ reviewable (warnEntry s m) = true
                ∧ (∀ x, n < x → x < m → reviewable (warnEntry s x) = false)
                ∧ t.warn.reviewTimer = some (s.now + 2000)
            | .noWarnings => False
            | .closed => (∀ x, n < x → reviewable (warnEntry s x) = false) ∧ t.warn.reviewTimer = none)
        ∧ (showingRecord s = none → s.warn.review = .noWarnings → t.warn.review = .closed)
        ∧ (∀ r c, showingRecord s = some r → r.origin = .reminder → s.service.cursor = some c →
            t.service.cursor = itemNumbers.find? (fun i => c < i && (itemOf s i).state ≠ .counting)
            ∧ ∀ x ∈ t.msg.queue, x.origin = .reminder →
                ∃ i, t.service.cursor = some i ∧ x.text = .service (itemOf s i).state i)
        ∧ (∀ r ∈ showingRecord s, r.origin ≠ .reminder → (∀ x ∈ t.msg.queue, x.origin ≠ r.origin)
            ∧ ∀ n, r.origin = .warning n → (warnEntry s n).status = .active → (warnEntry t n).status = .noted)
        ∧ OnlyIn (mayChange .notePress) s t)
    ∧ ∀ k : Key, keyOf s.keys k = .released → findsDark k s = true →
      ∃ t, exec (pressOf k) s = .next t ∧ keyOf t.keys k = .held .nothing
        ∧ (s.power.mode = .watch → t.disp.displayTimer = some (s.now + 30000))
        ∧ t.disp.readout = s.disp.readout ∧ t.disp.selB = s.disp.selB ∧ t.disp.setMode = s.disp.setMode
        ∧ t.warn.review = s.warn.review ∧ t.msg = s.msg ∧ t.clock = s.clock ∧ t.trip = s.trip

/-- An accepted press of JOURNEY only holds the key, its long press 2 s away, and leaves set mode when no record is
SHOWING (the model's reading, entry 20). Its release before 2 s, and its reaching 2 s, open a journey with the next
number and the present clock when none is open; with one open the release sets the base readout to 7 (keeping a set
mode entered since, the model's choice, entry 20) and the long press closes it into the ring, of ten records at most
(the oldest leaves where two damaged ones shared a position, entry 38). A RESET held 2 s resets the trip it fixed. The
release of another key ends its press. -/
def Obligations.JourneyKeyOpensAndCloses : Prop :=
  (∀ s : State, awake s = true → s.keys.journey = .released → findsDark .journey s = false →
    ∃ t, exec .journeyPress s = .next t ∧ t.keys.journey = .held (.journey (s.now + 2000))
      ∧ t.disp.readout = s.disp.readout
      ∧ (showingRecord s = none → s.warn.review = .closed → t.disp.setMode = .none)
      ∧ OnlyIn (mayChange .journeyPress) s t)
  ∧ (∀ (c : Instr) (s : State), awake s = true → (∃ d, s.keys.journey = .held (.journey d)) →
      (c = .journeyRelease ∨ c = .journeyLongPress) → s.journey.openJourney = none →
      let number := if s.journey.lastNumber = 65535 then 1 else s.journey.lastNumber + 1
      ∃ t, exec c s = .next t
        ∧ t.journey.openJourney = some ⟨number, if s.clock.unset then none else some s.clock.minutes, 0, 0, 0, 0⟩
        ∧ t.journey.residue = 0 ∧ t.journey.ring = s.journey.ring ∧ t.journey.lastNumber = s.journey.lastNumber
        ∧ (s.msg.queue.length < 8 → ∃ r ∈ t.msg.queue, r.origin = .journey ∧ r.text = .journeyOpen number
            ∧ r.priority = 6 ∧ r.maxShow = some 2)
        ∧ t.keys.journey = (if c = .journeyRelease then .released else .held .nothing)
        ∧ OnlyIn (mayChange c) s t)
  ∧ (∀ (j : Journey) (s : State), awake s = true → banksWhole s = true →
      (∃ d, s.keys.journey = .held (.journey d)) →
      s.journey.openJourney = some j →
      (∃ t, exec .journeyRelease s = .next t ∧ t.disp.readout = 7 ∧ t.disp.setMode = s.disp.setMode
        ∧ t.keys.journey = .released
        ∧ OnlyIn [.power, .disp, .keys] s t)
      ∧ ∃ t, exec .journeyLongPress s = .next t
        ∧ t.journey.openJourney = none ∧ t.journey.residue = 0 ∧ t.journey.lastNumber = j.number
        ∧ t.journey.ring = .good j ::
            (s.journey.ring.takeWhile (fun r => (recordNumber r - 1) % 10 ≠ (j.number - 1) % 10)).take 9
        ∧ (t.journey.positions.map (fun p => p.value))[(j.number - 1) % 10]? = some (some j)
        ∧ t.keys.journey = .held .nothing ∧ OnlyIn (mayChange .journeyLongPress) s t)
  ∧ (∀ (b : Bool) (s : State), awake s = true → (∃ d, s.keys.reset = .held (.tripReset b d)) →
      ∃ t, exec .tripReset s = .next t
        ∧ SettledFrom { s with
            keys := { s.keys with reset := .held .nothing }
            trip := { s.trip with tripA := if b then s.trip.tripA else ⟨0, 0, 0⟩,
                                  tripB := if b then ⟨0, 0, 0⟩ else s.trip.tripB } } t)
  ∧ ∀ (k : Key) (s : State), awake s = true → k ≠ .journey →
      ∃ t, exec (.keyRelease k) s = .next t ∧ keyOf t.keys k = .released
        ∧ (∀ k', k' ≠ k → keyOf t.keys k' = keyOf s.keys k') ∧ OnlyIn [.keys] s t

/-- Set mode ends after 10 s; the field being set changes phase every 500 ms; the journey readout changes form
every 2 s; the display goes dark at its timer in WATCH; and a completed transfer leaves the module with what was
sent, and sends the latest image if it changed meanwhile. -/
def Obligations.DisplayTimersChangeTheImage : Prop :=
  (∀ s : State, s.disp.setTimer ≠ none → ∃ t, exec .setModeTimeout s = .next t
    ∧ SettledFrom { s with disp := { s.disp with
        setMode := .none, setTimer := none, blinkTimer := none, blinkShown := true } } t)
  ∧ (∀ s : State, s.disp.blinkTimer ≠ none → ∃ t, exec .blinkTimerExpiry s = .next t
      ∧ SettledFrom { s with disp := { s.disp with
          blinkTimer := some (s.now + 500), blinkShown := !s.disp.blinkShown } } t)
  ∧ (∀ s : State, s.disp.altTimer ≠ none → ∃ t, exec .journeyReadoutAlternate s = .next t
      ∧ SettledFrom { s with disp := { s.disp with
          altTimer := some (s.now + 2000), journeyKm := !s.disp.journeyKm } } t)
  ∧ (∀ s : State, s.disp.displayTimer ≠ none → ∃ t, exec .displayTimerExpiry s = .next t
      ∧ SettledFrom { s with disp := { s.disp with displayTimer := none } } t
      ∧ (s.power.mode = .watch → t.disp.image.lit = false))
  ∧ ∀ (sent : Image) (s : State), s.disp.transfer = some sent →
      exec .displayTransferComplete s = .next { s with disp := { s.disp with
        loaded := sent, changed := false, transfer := if s.disp.changed then some s.disp.image else none } }

/-- At the end of the SHOWING record's minimum time the best WAITING record of better priority takes the display, and
with none nothing is shown anew; the SHOWING record then stays queued, though its maximum be shown too (the model's
choice, entry 43). At the end of its maximum the record leaves the queue, and the best of the records left takes the
display; a reminder's departure moves the cursor to the next item SOON or worse, whose reminder joins the queue, shown
at once where no record was left (that the display is given before the cursor moves is the model's reading, entry 19).
The reminder of the cursor's item refused before is posted again. -/
def Obligations.MessageTimersSelectTheNextRecord : Prop :=
  (∀ (r : MsgRecord) (s : State), s.msg.minTimer ≠ none → showingRecord s = some r →
    ∃ t, exec .minimumShowTimeExpiry s = .next t
      ∧ ((∀ w ∈ s.msg.queue, w.showing = false → r.priority ≤ w.priority) →
          t.msg = { s.msg with minTimer := none })
      ∧ ((∃ w ∈ s.msg.queue, w.showing = false ∧ w.priority < r.priority) →
          ∃ w ∈ s.msg.queue, w.showing = false ∧ w.priority < r.priority
            ∧ (∀ x ∈ s.msg.queue, x.showing = false →
                w.priority < x.priority ∨ (w.priority = x.priority ∧ w.order ≤ x.order))
            ∧ (showingRecord t).map (fun x => x.origin) = some w.origin
            ∧ t.msg.minTimer = some (s.now + minShowMs w.maxShow))
      ∧ t.msg.queue.map (fun x => (x.origin, x.text, x.priority, x.maxShow, x.order))
          = s.msg.queue.map (fun x => (x.origin, x.text, x.priority, x.maxShow, x.order))
      ∧ OnlyIn (mayChange .minimumShowTimeExpiry) s t)
  ∧ (∀ (r : MsgRecord) (s : State), s.msg.maxTimer ≠ none → showingRecord s = some r →
      ∃ t, exec .maximumShowTimeExpiry s = .next t
        ∧ (r.origin ≠ .reminder → t.service = s.service
            ∧ t.msg.queue.map (fun x => (x.origin, x.text))
              = (s.msg.queue.filter (fun x => decide (x.origin ≠ r.origin))).map (fun x => (x.origin, x.text)))
        ∧ (∀ c, r.origin = .reminder → s.service.cursor = some c →
            t.service.cursor = itemNumbers.find? (fun i => c < i && (itemOf s i).state ≠ .counting))
        ∧ (messagesWithin s.msg = true →
            let left := s.msg.queue.filter (fun x => decide (x.origin ≠ r.origin))
            let next := if r.origin = .reminder then s.service.cursor.bind (fun c =>
              itemNumbers.find? (fun i => c < i && (itemOf s i).state ≠ .counting)) else none
            t.msg.queue.map (fun x => (x.origin, x.text)) = left.map (fun x => (x.origin, x.text))
                ++ next.toList.map (fun i => (.reminder, .service (itemOf s i).state i))
            ∧ (left = [] → (showingRecord t).map (fun x => x.text)
                = next.map (fun i => .service (itemOf s i).state i))
            ∧ (left ≠ [] → ∃ w ∈ left, (showingRecord t).map (fun x => x.origin) = some w.origin
                ∧ t.msg.minTimer = some (s.now + minShowMs w.maxShow)
                ∧ ∀ x ∈ left, w.priority < x.priority ∨ (w.priority = x.priority ∧ w.order ≤ x.order)))
        ∧ OnlyIn (mayChange .maximumShowTimeExpiry) s t)
  ∧ ∀ (i : Nat) (s : State), s.service.repostTimer ≠ none → s.service.cursor = some i → s.power.mode = .run →
      ∃ t, exec .reminderRepostTimerExpiry s = .next t ∧ t.service.cursor = some i
        ∧ (s.msg.queue.length < 8 → t.service.repostTimer = none
            ∧ ∃ r ∈ t.msg.queue, r.origin = .reminder ∧ r.text = .service (itemOf s i).state i ∧ r.priority = 5
              ∧ r.maxShow = some 4)
        ∧ (8 ≤ s.msg.queue.length → (∀ r ∈ s.msg.queue, r.priority ≤ 5 ∧ r.origin ≠ .reminder) →
            t.service.repostTimer = some (s.now + 1000) ∧ t.msg = s.msg)
        ∧ OnlyIn (mayChange .reminderRepostTimerExpiry) s t

/-! ### Warnings, chimes and the store -/

/-- The evaluation timer runs on for 250 ms, and each entry of its list with a true gate and a value to judge goes
where TABLE 7-4 says for the truth of its test; the others keep state and count, as do all other entries. An accepted
report evaluates so the entries of its kind whose gate is true after it, if it carries READY set and the entry's slot
valid (an entry with a companion true only with it ARMING, ACTIVE or NOTED); otherwise they hold. An entry whose gate
the report turned false is IDLE. That a gate changes before the evaluation is the model's choice (entry 7). The tests
have the levels, release levels and masks of TABLE 7-2, and the internal quantities are those it names, a STALE test
true for a stale entry, or an unbound one once the grace has ended. -/
def Obligations.EvaluationsFollowTheTable : Prop :=
  (∀ n ∈ warnNumbers, ∀ (limit v : Nat) (e : WarnEntry),
    testTrue limit (atRelease e) (warnDef n).test v
      = table72 n limit (decide (e.status = .active ∨ e.status = .noted ∨ e.status = .clearing)) v)
  ∧ (∀ s : State,
      let stale (e : ReportEntry) : Prop := e.stale = true ∨ (e.bound = none ∧ s.warn.graceEnded = true)
      warnInput s (warnDef 6).input = usableFuel s
      ∧ warnInput s (warnDef 7).input = some (if auxEmpty s then 1 else 0)
      ∧ warnInput s (warnDef 8).input = some s.fuel.senderWatch
      ∧ (∀ v ∈ warnInput s (warnDef 18).input, (1 ≤ v ↔ stale s.bus.engine)) ∧ (warnInput s (warnDef 18).input).isSome
      ∧ (∀ v ∈ warnInput s (warnDef 19).input, (1 ≤ v ↔ stale s.bus.chassis)) ∧ (warnInput s (warnDef 19).input).isSome
      ∧ warnInput s (warnDef 20).input
          = some (s.service.items.countP (fun x => decide (x.state = .due ∨ x.state = .overdue)))
      ∧ warnInput s (warnDef 21).input = some (s.service.items.countP (fun x => decide (x.state = .overdue)))
      ∧ warnInput s (warnDef 22).input = s.warn.gateSpeed.map (fun v => v.toNat)
      ∧ warnInput s (warnDef 24).input = some (faultCount s))
  ∧ (∀ s : State, s.warn.evalTimer ≠ none → banksWhole s = true →
    ∃ t, exec .evaluationTimerExpiry s = .next t
      ∧ t.warn.evalTimer = some (s.now + 250)
      ∧ (∀ n ∈ timedEntries, ((warnEntry t n).status, (warnEntry t n).count) =
          match gateTrue s (warnDef n).gate, warnInput s (warnDef n).input with
          | true, some v =>
            table74 (warnDef n).debounce
              (testTrue s.trip.speedLimit (atRelease (warnEntry s n)) (warnDef n).test v) (warnEntry s n)
          | _, _ => ((warnEntry s n).status, (warnEntry s n).count))
      ∧ (∀ n, n ∉ timedEntries → ((warnEntry t n).status, (warnEntry t n).count)
          = ((warnEntry s n).status, (warnEntry s n).count))
      ∧ OnlyIn (mayChange .evaluationTimerExpiry) s t)
  ∧ ∀ (k : ReportKind) (h : Heard) (s : State), heardBy s (fitsKind (reportFrameKind k) h) h = true →
      acceptedBy s k h = true → banksWhole s = true → gatesHold s = true →
      ∃ t, exec (.reportArrival k h) s = .next t
        ∧ (∀ n ∈ warnNumbers, let e := warnEntry s n
            ((warnEntry t n).status, (warnEntry t n).count) =
              if gateTrue t (warnDef n).gate = true then
                (match (warnDef n).input with
                 | .slot j i =>
                   (match (if j = k ∧ h.ready = true then slotAt h.slots i else none) with
                    | some v => table74 (warnDef n).debounce
                        (testTrue s.trip.speedLimit (atRelease e) (warnDef n).test v.toNat
                          && companionAllows s (warnDef n).companion) e
                    | none => (e.status, e.count))
                 | _ => (e.status, e.count))
              else (.idle, if e.status = .idle then e.count else 0))
        ∧ OnlyIn (mayChange (.reportArrival k h)) s t

/-- The re-offer timer makes the outstanding posts again and stops when they are taken; the review moves to the
next entry it shows above its cursor, or ends; the end of lamp proving starts the window and grace timers and
the reminder cycle; at the end of the window the entries behind it are IDLE and the others untouched. -/
def Obligations.WarningTimersRunTheUnit : Prop :=
  (∀ (n : Nat) (s : State), isWarning n = true → banksWhole s = true → (warnEntry s n).reofferTimer ≠ none →
    awake s = true → s.chime.requests.length < 8 → s.msg.queue.length < 8 →
    ∃ t, exec (.reOfferTimerExpiry n) s = .next t
      ∧ (∀ pattern reps, (warnEntry s n).chimeOut = true → (warnDef n).chime = some (pattern, reps) →
          ∃ r ∈ t.chime.requests, r.source = .warning n ∧ r.pattern = pattern ∧ r.remaining = reps)
      ∧ ((warnEntry s n).msgOut = true → ∃ r ∈ t.msg.queue, r.origin = .warning n ∧ r.text = .warning n)
      ∧ (warnEntry t n).reofferTimer = none ∧ (warnEntry t n).chimeOut = false ∧ (warnEntry t n).msgOut = false
      ∧ (warnEntry t n).status = (warnEntry s n).status ∧ (∀ m, m ≠ n → warnEntry t m = warnEntry s m)
      ∧ OnlyIn (mayChange (.reOfferTimerExpiry n)) s t)
  ∧ (∀ s : State, s.warn.reviewTimer ≠ none →
      ∃ t, exec .reviewTimerExpiry s = .next t
        ∧ (∀ n, s.warn.review = .entry n →
            match t.warn.review with
            | .entry m => n < m ∧ reviewable (warnEntry s m) = true
                ∧ (∀ x, n < x → x < m → reviewable (warnEntry s x) = false)
                ∧ t.warn.reviewTimer = some (s.now + 2000)
            | .noWarnings => False
            | .closed => (∀ x, n < x → reviewable (warnEntry s x) = false) ∧ t.warn.reviewTimer = none)
        ∧ (s.warn.review = .noWarnings → t.warn.review = .closed ∧ t.warn.reviewTimer = none)
        ∧ t.warn.entries = s.warn.entries ∧ OnlyIn (mayChange .reviewTimerExpiry) s t)
  ∧ (∀ s : State, s.warn.provingTimer ≠ none →
      ∃ t, exec .lampProvingExpiry s = .next t
        ∧ t.warn.provingTimer = none ∧ t.warn.window = true ∧ t.warn.windowTimer = some (s.now + 8000)
        ∧ t.warn.graceTimer = some (s.now + 5000)
        ∧ (s.power.mode = .run → gateTrue t .run = true)
        ∧ t.service.cursor = itemNumbers.find? (fun i => (itemOf s i).state ≠ .counting)
        ∧ OnlyIn (mayChange .lampProvingExpiry) s t)
  ∧ ∀ s : State, s.warn.windowTimer ≠ none → gatesHold s = true → banksWhole s = true →
      ∃ t, exec .windowTimerExpiry s = .next t
        ∧ t.warn.windowTimer = none ∧ t.warn.window = false
        ∧ (∀ n ∈ warnNumbers, if (warnDef n).gate = .window8 then (warnEntry t n).status = .idle
            else warnEntry t n = warnEntry s n)
        ∧ OnlyIn (mayChange .windowTimerExpiry) s t

/-- The end of an element goes on to the next one, and past the last one to the trailing gap with one repetition
fewer to complete; a request on its last repetition leaves the set; after the trailing gap the pattern begins
afresh. A request that no longer ranks highest gives the output to the one that does, keeping its repetitions. -/
def Obligations.ElementEndFollowsTheCadence : Prop :=
  ∀ (r : ChimeRequest) (s : State), s.chime.elementTimer ≠ none → soundingRequest s = some r →
    chimeSetWithin s.chime = true →
    let count := (patternElements r.pattern).length
    ∃ t, exec .elementEnd s = .next t
      ∧ (bestRequest (hush s) s.chime.requests = some r →
          (s.chime.element + 1 < count → t.chime = { s.chime with
            element := s.chime.element + 1, elementTimer := elementTimerFor s r.pattern (s.chime.element + 1) })
          ∧ (s.chime.element + 1 = count → r.remaining ≠ 1 → t.chime = { s.chime with
              requests := s.chime.requests.map (fun x =>
                if x.source = r.source then { x with remaining := x.remaining - 1 } else x),
              element := count, elementTimer := elementTimerFor s r.pattern count })
          ∧ (s.chime.element = count → t.chime = { s.chime with
              element := 0, elementTimer := elementTimerFor s r.pattern 0 }))
      ∧ (s.chime.element + 1 = count → r.remaining = 1 → (∀ x ∈ t.chime.requests, x.source ≠ r.source)
          ∧ ∀ x ∈ s.chime.requests, x.source ≠ r.source → ∃ y ∈ t.chime.requests, y.source = x.source
              ∧ y.remaining = x.remaining)
      ∧ (∀ b, bestRequest (hush s) s.chime.requests = some b → b.source ≠ r.source → s.chime.element + 1 ≠ count →
          soundingSource t = some b.source ∧ t.chime.element = 0
            ∧ t.chime.requests.map (fun x => (x.source, x.remaining))
              = s.chime.requests.map (fun x => (x.source, x.remaining)))
      ∧ OnlyIn (mayChange .elementEnd) s t

/-- A write's command byte acknowledged clears NV, and the write is then under way; a try left unacknowledged at its
command byte or, acknowledged there, at a data byte is begun again 1 ms later with its tries counted on, up to the
twentieth, when it waits 10 s with the flag NV, its wait ending in a new try, or in the end of a dip. The dip holds back
a try whose command byte is not acknowledged until its end, its count given up, and lets another go on. A load's tries
are counted so too. A completed write stores its word and no other, clears NV, and leaves the queue unless newer data
wait. How the memory's answers reach the part, and what a data byte left unacknowledged in a dip does, are the model's
(entries 16 and 17). -/
def Obligations.WritesReachTheMemory : Prop :=
  (∀ (n : Nat) (retry : Timer) (s : State), s.nsp.writer = .trying n false retry →
    s.power.mode ≠ .starting .load → s.power.dip = false →
    (∃ t, exec (.busyPollRetry .commandAcked) s = .next t
      ∧ SettledFrom { s with
          faults := { s.faults with nv := false }, nsp := { s.nsp with writer := .trying n true none } } t)
    ∧ (∃ t, exec (.busyPollRetry .commandUnacked) s = .next t
      ∧ (n < 19 → SettledFrom { s with
          nsp := { s.nsp with writer := .trying (n + 1) false (some (s.now + 1)) } } t)
      ∧ (19 ≤ n → SettledFrom { s with
          faults := { s.faults with nv := true }, nsp := { s.nsp with writer := .waiting (s.now + 10000) } } t)))
  ∧ (∀ (n : Nat) (acked : Bool) (retry : Timer) (s : State), s.nsp.writer = .trying n acked retry →
      s.power.mode ≠ .starting .load → (acked = true ∨ s.power.dip = false) →
      ∃ t, exec (.busyPollRetry .dataUnacked) s = .next t
        ∧ (n < 19 → SettledFrom { s with
            faults := { s.faults with nv := false }
            nsp := { s.nsp with writer :=
              if s.power.dip then .held else .trying (n + 1) false (some (s.now + 1)) } } t)
        ∧ (19 ≤ n → SettledFrom { s with
            faults := { s.faults with nv := true }, nsp := { s.nsp with writer := .waiting (s.now + 10000) } } t))
  ∧ (∀ s : State, s.power.mode = .starting .load → s.nsp.loadTries < 19 →
      ∃ t, exec (.busyPollRetry .commandUnacked) s = .next t
        ∧ SettledFrom { s with
            nsp := { s.nsp with loadTries := s.nsp.loadTries + 1, loadRetry := some (s.now + 1) } } t)
  ∧ (∀ s : State, s.power.mode = .starting .load →
      ∃ t, exec (.busyPollRetry .commandAcked) s = .next t
        ∧ SettledFrom { s with
            faults := { s.faults with nv := false }, nsp := { s.nsp with loadRetry := none } } t)
  ∧ (∀ (d : Nat) (s : State), s.nsp.writer = .waiting d → ∃ t, exec .failedWriteWaitExpiry s = .next t
      ∧ SettledFrom { s with nsp := { s.nsp with
          writer := if s.power.dip then .held else .trying 0 false none } } t)
  ∧ (∀ (input : DipInput) (n : Nat) (acked : Bool) (retry : Timer) (s : State), s.power.mode ≠ .offline →
      s.power.dip = false → s.nsp.writer = .trying n acked retry →
      ∃ t, exec (.supplyDipBegin input) s = .next t
        ∧ t.nsp = { s.nsp with writer := if acked then .trying n true retry else .held })
  ∧ (∀ s : State, s.power.settleTimer ≠ none → s.nsp.writer = .held →
      ∃ t, exec .supplyDipEnd s = .next t ∧ t.nsp = { s.nsp with writer := .trying 0 false none })
  ∧ ∀ (n : Nat) (acked : Bool) (retry : Timer) (e : WriteEntry) (rest : List WriteEntry) (s : State),
      s.nsp.writer = .trying n acked retry → (acked = true ∨ s.power.dip = false) →
      s.nsp.queue = e :: rest → memoryWf s.nsp.memory = true →
      ∃ t, exec .writeComplete s = .next t ∧ t.faults = { s.faults with nv := false }
        ∧ (∀ a, readWord t.nsp.memory a = if a = e.addr % 128 then e.data else readWord s.nsp.memory a)
        ∧ (∃ more, t.nsp.queue.map (fun x => x.addr)
            = (if e.replacement.isSome then [e.addr] else []) ++ rest.map (fun x => x.addr) ++ more)
        ∧ (s.power.dip = true → t.nsp.writer = .idle)
        ∧ OnlyIn (mayChange .writeComplete) s t

/-! ### Figures that are computed -/

/-- The figures: the field angle of a channel; the averages of a trip and the range, and how they are shown; the
MASK test; and the header of the journey records, as the manual computes them.
The outputs: the coils' duties and polarities by the quadrant of the angle with the levels of their pins, for the
frame in progress, which no command but the loss and the return of the supply changes; the lamps; the tone and the
volume; and the bits of the store line and of the character port, taken by the receiving end in their order, the data
line of an operation changing only while its clock is low. -/
def Obligations.FiguresFollowTheirFormulas : Prop :=
  (∀ (g : Gauge) (c : Channel), fieldAngle g c = ((match g with
    | .g0 | .g1 => 880
    | .g2 | .g3 | .g4 | .g5 => 896) + c.position) % 1024)
  ∧ (∀ t : Trip, avgConsumption t =
      if t.distance < 10 then none else some (min 999 ((t.fuel * 10 + t.distance) / (2 * t.distance))))
  ∧ (∀ t : Trip, avgEconomy t =
      if t.distance < 10 ∨ t.fuel = 0 then none
      else some (min 999 ((t.distance * 4704 + t.fuel / 2) / t.fuel)))
  ∧ (∀ t : Trip, avgSpeed t = if t.seconds < 60 then none else some (min 999 (t.distance * 360 / t.seconds)))
  ∧ (∀ s : State, s.disp.readout = 2 →
      readoutChars s = tripLetter s ++ (if s.straps.imperial then
          ((avgEconomy (shownTrip s)).map tenths).getD "--.-".toList ++ " MPG".toList
        else ((avgConsumption (shownTrip s)).map tenths).getD "--.-".toList ++ " L/100KM".toList))
  ∧ (∀ s : State, s.disp.readout = 3 →
      readoutChars s = tripLetter s ++ (if s.straps.imperial then
          ((avgSpeed (shownTrip s)).map (fun v => digits (v * 10181 / 16384))).getD "---".toList ++ " MPH".toList
        else ((avgSpeed (shownTrip s)).map digits).getD "---".toList ++ " KM/H".toList))
  ∧ (∀ (limit v : Nat) (release equal : Bool) (mask pattern : Word),
      testTrue limit release (.mask mask pattern equal) v
        = if equal then decide (wordOf v &&& mask = pattern) else decide (wordOf v &&& mask ≠ pattern))
  ∧ (∀ m : List (Nat × Word), loadHeader (some m) =
      if readWord m 41 = 0xFFFF - readWord m 40 then ((readWord m 40).toNat, false)
      else (0, !decide (readWord m 40 = 0xFFFF ∧ readWord m 41 = 0xFFFF)))
  ∧ loadHeader none = (0, true)
  ∧ ∀ (ok : Bool) (s : State), s.power.mode = .starting .load →
      ∃ t, exec (.loadComplete ok) s = .next t
        ∧ t.journey.lastNumber = (loadHeader (if ok then some s.nsp.memory else none)).1
        ∧ ((loadHeader (if ok then some s.nsp.memory else none)).2 = true → t.faults.store = true)
  ∧ (∀ s : State, rangeKm s = (usableFuel s).map (fun u => min 1999 (u * 100 / s.trip.rangeBasis)))
  ∧ (∀ s : State, s.disp.readout = 5 →
      readoutChars s = "RANGE ".toList ++ (if s.straps.imperial then
          ((rangeKm s).map (fun r => digits (r * 10181 / 16384))).getD "----".toList ++ " MI".toList
        else ((rangeKm s).map digits).getD "----".toList ++ " KM".toList))
  ∧ (∀ (f : PwmFrame) (g : Gauge), f.on = true →
      let theta := angleAt g (framePosition f g)
      let even := waveAt (256 - theta % 256)
      let odd := waveAt (theta % 256)
      let q := theta / 256
      ((frameCoils f g).1.duty, (frameCoils f g).2.duty) = (if q % 2 = 0 then (even, odd) else (odd, even))
      ∧ ((frameCoils f g).1.negative = true ↔ (frameCoils f g).1.duty ≠ 0 ∧ (q = 1 ∨ q = 2))
      ∧ ((frameCoils f g).2.negative = true ↔ (frameCoils f g).2.duty ≠ 0 ∧ (q = 2 ∨ q = 3)))
  ∧ (∀ (f : PwmFrame) (g : Gauge) (step : Nat), f.on = false →
      coilPin (frameCoils f g).1 step = false ∧ coilPin (frameCoils f g).2 step = false)
  ∧ (∀ d : CoilDrive, coilPin d 0 = d.negative ∧ ∀ step, 1 ≤ step → coilPin d step = decide (step ≤ d.duty))
  ∧ (∀ k, k < 256 → waveAt k ≤ waveAt (k + 1)) ∧ waveAt 0 = 0 ∧ waveAt 256 = 63
  ∧ (∀ (c : Instr) (s : State), (∀ a b, c ≠ .standbySupplyUp a b) → (∀ cut, c ≠ .standbySupplyLoss cut) →
      ∃ t, exec c s = .next t ∧ t.gauges.frame = s.gauges.frame ∧ ∀ g, gaugeCoils t g = gaugeCoils s g)
  ∧ (∀ (s : State) (lamp : Nat), lamp < 12 →
      let owners : List Nat := lampOwners.getD lamp []
      let flashes (n : Nat) : Prop := n ∈ [5, 7, 9, 11, 12, 21] ∧ ((warnEntry s n).status = .active
        ∨ ((warnEntry s n).status = .clearing ∧ (warnEntry s n).prior = .active))
      (awake s = false → lampOutput s lamp = false)
      ∧ (s.power.mode = .run → s.warn.provingTimer ≠ none → lampOutput s lamp = true)
      ∧ (awake s = true → (s.power.mode = .run → s.warn.provingTimer = none) →
          (lampOutput s lamp = true ↔
            (∃ n ∈ owners, (warnEntry s n).status = .active ∨ (warnEntry s n).status = .noted
              ∨ (warnEntry s n).status = .clearing)
            ∧ ((∃ n ∈ owners, flashes n) → s.warn.flashLit = true))))
  ∧ (∀ s : State, (awake s = false ∨ s.power.dip = true ∨ soundingRequest s = none → chimeOutput s = none)
      ∧ (∀ r, awake s = true → s.power.dip = false → soundingRequest s = some r →
          chimeOutput s = (match r.pattern with
            | .single | .fast | .continuous | .click => [some 2048]
            | .triple => [some 2048, none, some 2048, none, some 2048]
            | .slow => [some 4096]
            | .twoTone => [some 2048, some 4096]
            | .call => [some 4096, none, some 2048]).getD s.chime.element none)
      ∧ fullVolume s = decide (s.power.mode = .run))
  ∧ (∀ bytes : List (Byte × Bool), takenBits true (storeOperation bytes)
        = bytes.flatMap (fun x => bitsOf x.1 ++ [!x.2]) ++ [false]
      ∧ dataSteady ⟨true, false⟩ (clockBits false (operationBits bytes)) = true)
  ∧ ∀ i : Image, takenBits false ((imageTransfer i).map (fun l => l.lines)) = (imageBytes i).flatMap bitsOf
      ∧ (imageTransfer i).getLast? = some portRest ∧ ((imageTransfer i).filter (fun l => l.load)).length = 1
end

