-- ==== Sys2Proof/Laws/Arith.lean ====
section
/-! SUPPORT. Laws/Arith.lean: bounds and fixed points of the manual's arithmetic (00 "Numeric
Conventions"). -/

namespace Sys2Proof.Machine

/-- No difference, no step. -/
@[simp] theorem filterStep_zero (w : Nat) : filterStep 0 w = 0 := by simp [filterStep]

/-- A step upward is at least one unit and never passes the target. -/
theorem filterStep_pos {d : Int} {w : Nat} (h : 0 < d) : 1 ≤ filterStep d w ∧ filterStep d w ≤ d := by
  unfold filterStep
  have h0 : 0 ≤ d.tdiv w := Int.tdiv_nonneg (by omega) (Int.natCast_nonneg w)
  have h1 : d.tdiv w ≤ d := Int.tdiv_le_self _ (by omega)
  split <;> omega

/-- A step downward mirrors the step upward. -/
theorem filterStep_neg (d : Int) (w : Nat) : filterStep (-d) w = -filterStep d w := by
  unfold filterStep
  rw [Int.neg_tdiv]
  by_cases h : d.tdiv w = 0
  · by_cases k : d = 0
    · simp [k]
    · have : ¬ (0 < -d ↔ 0 < d) := by omega
      by_cases p : 0 < d
      · have : ¬ 0 < -d := by omega
        simp [h, k, p]
        omega
      · have : 0 < -d := by omega
        simp [h, k, p]
        omega
  · simp [h]

theorem clampInt_range {lo hi : Int} (x : Int) (h : lo ≤ hi) : lo ≤ clampInt lo hi x ∧ clampInt lo hi x ≤ hi := by
  unfold clampInt
  omega

theorem clampNat_range {lo hi : Nat} (x : Nat) (h : lo ≤ hi) : lo ≤ clampNat lo hi x ∧ clampNat lo hi x ≤ hi := by
  unfold clampNat
  omega

/-- A move ends within the sweep, wherever it began. -/
theorem moveBy_le (sweep slew position : Nat) (step : Int) : moveBy sweep slew position step ≤ sweep := by
  have := clampInt_range (lo := 0) (hi := (sweep : Int))
    ((position : Int) + clampInt (-(slew : Int)) slew step) (by omega)
  unfold moveBy
  omega

theorem addSat_le (top x y : Nat) : addSat top x y ≤ top := by
  unfold addSat
  omega

/-- A ring never holds more than its size, once it does not. -/
theorem length_pushRing {α : Type} {n : Nat} {ring : List α} (x : α) (hn : 0 < n) (h : ring.length ≤ n) :
    (pushRing n ring x).length ≤ n := by
  unfold pushRing
  split <;> simp <;> omega

/-- What a ring holds after a sample is the sample or was there before. -/
theorem mem_pushRing {α : Type} {n : Nat} {ring : List α} {x y : α} (h : y ∈ pushRing n ring x) :
    y ∈ ring ∨ y = x := by
  unfold pushRing at h
  split at h <;> simp only [List.mem_append, List.mem_singleton] at h
  · exact h
  · exact h.imp List.mem_of_mem_drop id

end Sys2Proof.Machine
end

