-- ==== Sys2Proof/Laws/Banks.lean ====
section
/-! SUPPORT. Laws/Banks.lean: reading a bank of the state (roster, demands, warning entries, service items,
report entries, channels, keys) after one place of it was changed, and the length of the journey ring. -/

namespace Sys2Proof.Machine

/-! ### `modifyAt` -/

@[simp] theorem length_modifyAt {α : Type} (f : α → α) : ∀ (i : Nat) (l : List α), (modifyAt i f l).length = l.length
  | _, [] => by simp [modifyAt]
  | 0, _ :: _ => by simp [modifyAt]
  | i + 1, _ :: rest => by simp [modifyAt, length_modifyAt f i rest]

/-- The place changed holds the new value, if the list reaches it. -/
theorem getD_modifyAt_same {α : Type} (f : α → α) (d : α) :
    ∀ {i : Nat} {l : List α}, i < l.length → (modifyAt i f l).getD i d = f (l.getD i d)
  | _, [], h => absurd h (Nat.not_lt_zero _)
  | 0, _ :: _, _ => by simp [modifyAt]
  | i + 1, _ :: rest, h => by
    simpa [modifyAt] using getD_modifyAt_same f d (i := i) (l := rest) (by simpa using h)

/-- Every other place holds what it held. -/
theorem getD_modifyAt_other {α : Type} (f : α → α) (d : α) :
    ∀ {i j : Nat} {l : List α}, j ≠ i → (modifyAt i f l).getD j d = l.getD j d
  | _, _, [], _ => by simp [modifyAt]
  | 0, 0, _ :: _, h => absurd rfl h
  | 0, j + 1, _ :: _, _ => by simp [modifyAt]
  | i + 1, 0, _ :: _, _ => by simp [modifyAt]
  | i + 1, j + 1, _ :: rest, h => by
    simpa [modifyAt] using getD_modifyAt_other f d (i := i) (j := j) (l := rest) (fun k => h (by omega))

/-! ### The banks -/

theorem isStation_iff {n : Nat} : isStation n = true ↔ 1 ≤ n ∧ n ≤ 30 := by
  simp only [isStation, Bool.and_eq_true, decide_eq_true_eq]
  exact Iff.rfl

theorem isWarning_iff {n : Nat} : isWarning n = true ↔ 1 ≤ n ∧ n ≤ 24 := by
  simp only [isWarning, Bool.and_eq_true, decide_eq_true_eq]

theorem isItem_iff {n : Nat} : isItem n = true ↔ 1 ≤ n ∧ n ≤ 8 := by
  simp only [isItem, Bool.and_eq_true, decide_eq_true_eq]

theorem rosterOf_modifyRoster_same {n : Nat} {f : RosterEntry → RosterEntry} {s : State}
    (hb : s.bus.roster.length = 30) (hn : isStation n = true) :
    rosterOf (modifyRoster n f s) n = f (rosterOf s n) := by
  have h : n - 1 < s.bus.roster.length := by
    have := isStation_iff.mp hn
    omega
  unfold rosterOf modifyRoster
  simp only [hn, if_true]
  exact getD_modifyAt_same f _ h

theorem rosterOf_modifyRoster_other {n m : Nat} {f : RosterEntry → RosterEntry} {s : State} (h : m ≠ n) :
    rosterOf (modifyRoster n f s) m = rosterOf s m := by
  unfold rosterOf modifyRoster
  split
  · rename_i hm
    split
    · rename_i hn
      have := isStation_iff.mp hm
      have := isStation_iff.mp hn
      exact getD_modifyAt_other f _ (by omega)
    · rfl
  · rfl

theorem demandOf_modifyDemand_same {n : Nat} {f : PendingDemand → PendingDemand} {s : State}
    (hb : s.bus.demands.length = 30) (hn : isStation n = true) :
    demandOf (modifyDemand n f s) n = f (demandOf s n) := by
  have h : n - 1 < s.bus.demands.length := by
    have := isStation_iff.mp hn
    omega
  unfold demandOf modifyDemand
  simp only [hn, if_true]
  exact getD_modifyAt_same f _ h

theorem demandOf_modifyDemand_other {n m : Nat} {f : PendingDemand → PendingDemand} {s : State} (h : m ≠ n) :
    demandOf (modifyDemand n f s) m = demandOf s m := by
  unfold demandOf modifyDemand
  split
  · rename_i hm
    split
    · rename_i hn
      have := isStation_iff.mp hm
      have := isStation_iff.mp hn
      exact getD_modifyAt_other f _ (by omega)
    · rfl
  · rfl

theorem warnEntry_modifyWarn_same {n : Nat} {f : WarnEntry → WarnEntry} {s : State}
    (hb : s.warn.entries.length = 24) (hn : isWarning n = true) :
    warnEntry (modifyWarn n f s) n = f (warnEntry s n) := by
  have h : n - 1 < s.warn.entries.length := by
    have := isWarning_iff.mp hn
    omega
  unfold warnEntry modifyWarn
  simp only [hn, if_true]
  exact getD_modifyAt_same f _ h

theorem warnEntry_modifyWarn_other {n m : Nat} {f : WarnEntry → WarnEntry} {s : State} (h : m ≠ n) :
    warnEntry (modifyWarn n f s) m = warnEntry s m := by
  unfold warnEntry modifyWarn
  split
  · rename_i hm
    split
    · rename_i hn
      have := isWarning_iff.mp hm
      have := isWarning_iff.mp hn
      exact getD_modifyAt_other f _ (by omega)
    · rfl
  · rfl

theorem itemOf_modifyItem_same {i : Nat} {f : Item → Item} {s : State}
    (hb : s.service.items.length = 8) (hi : isItem i = true) :
    itemOf (modifyItem i f s) i = f (itemOf s i) := by
  have h : i - 1 < s.service.items.length := by
    have := isItem_iff.mp hi
    omega
  unfold itemOf modifyItem
  simp only [hi, if_true]
  exact getD_modifyAt_same f _ h

theorem itemOf_modifyItem_other {i j : Nat} {f : Item → Item} {s : State} (h : j ≠ i) :
    itemOf (modifyItem i f s) j = itemOf s j := by
  unfold itemOf modifyItem
  split
  · rename_i hj
    split
    · rename_i hi
      have := isItem_iff.mp hj
      have := isItem_iff.mp hi
      exact getD_modifyAt_other f _ (by omega)
    · rfl
  · rfl

/-- Banks keep their lengths through every change of a place. -/
theorem lengths_modify (s : State) (n : Nat) (f : RosterEntry → RosterEntry) (g : PendingDemand → PendingDemand)
    (h : WarnEntry → WarnEntry) (k : Item → Item) :
    (modifyRoster n f s).bus.roster.length = s.bus.roster.length
      ∧ (modifyDemand n g s).bus.demands.length = s.bus.demands.length
      ∧ (modifyWarn n h s).warn.entries.length = s.warn.entries.length
      ∧ (modifyItem n k s).service.items.length = s.service.items.length := by
  refine ⟨?_, ?_, ?_, ?_⟩
  · unfold modifyRoster; split <;> simp
  · unfold modifyDemand; split <;> simp
  · unfold modifyWarn; split <;> simp
  · unfold modifyItem; split <;> simp

@[simp] theorem entryOf_setEntry_same (k : ReportKind) (e : ReportEntry) (b : Bus) : entryOf (setEntry k e b) k = e := by
  cases k <;> rfl

theorem entryOf_setEntry_other {k j : ReportKind} (e : ReportEntry) (b : Bus) (h : j ≠ k) :
    entryOf (setEntry k e b) j = entryOf b j := by
  cases k <;> cases j <;> first | exact absurd rfl h | rfl

@[simp] theorem entryOf_mapEntries (f : ReportKind → ReportEntry → ReportEntry) (b : Bus) (k : ReportKind) :
    entryOf (mapEntries f b) k = f k (entryOf b k) := by cases k <;> rfl

@[simp] theorem channelOf_mapChannels (f : Gauge → Channel → Channel) (g : Gauges) (x : Gauge) :
    channelOf (mapChannels f g) x = f x (channelOf g x) := by cases x <;> rfl

@[simp] theorem keyOf_setKey_same (k : Key) (v : KeyState) (x : Keys) : keyOf (setKey k v x) k = v := by
  cases k <;> rfl

theorem keyOf_setKey_other {k j : Key} (v : KeyState) (x : Keys) (h : j ≠ k) : keyOf (setKey k v x) j = keyOf x j := by
  cases k <;> cases j <;> first | exact absurd rfl h | rfl

/-! ### The journey ring -/

/-- A journey that enters the ring is its newest record, and the ring has ten records at most (05 R88). -/
theorem enterRing_length_le (j : Journey) (ring : List RingRecord) :
    (enterRing j ring).length ≤ Config.ringCapacity := by
  simp only [enterRing, List.length_cons, List.length_take, Config.ringCapacity]
  omega

/-- The walk over the ring finds one record at most at each of its positions (05 R93). -/
theorem ringWalk_length_le (m : List (Nat × Word)) (last : Nat) :
    ∀ n i, (ringWalk m last i n).1.length ≤ n
  | 0, _ => by simp [ringWalk]
  | n + 1, i => by
    have ih := ringWalk_length_le m last n (i + 1)
    simp only [ringWalk]
    repeat' split
    all_goals simp <;> omega

end Sys2Proof.Machine
end

