-- ==== Sys2Proof/Laws/Frame.lean ====
section
/-! SUPPORT. Laws/Frame.lean: how `OnlyIn` composes, and which blocks each shared operation may change. -/

namespace Sys2Proof.Machine

/-! ### Composition -/

theorem OnlyIn.refl (bs : List Block) (s : State) : OnlyIn bs s s := by constructor <;> intros <;> rfl

theorem OnlyIn.trans {bs : List Block} {s t u : State} (h : OnlyIn bs s t) (k : OnlyIn bs t u) :
    OnlyIn bs s u := by
  constructor
  · exact k.pending.trans h.pending
  · exact k.now.trans h.now
  · exact fun n => (k.power n).trans (h.power n)
  · exact fun n => (k.straps n).trans (h.straps n)
  · exact fun n => (k.faults n).trans (h.faults n)
  · exact fun n => (k.bus n).trans (h.bus n)
  · exact fun n => (k.gauges n).trans (h.gauges n)
  · exact fun n => (k.fuel n).trans (h.fuel n)
  · exact fun n => (k.trip n).trans (h.trip n)
  · exact fun n => (k.clock n).trans (h.clock n)
  · exact fun n => (k.journey n).trans (h.journey n)
  · exact fun n => (k.service n).trans (h.service n)
  · exact fun n => (k.warn n).trans (h.warn n)
  · exact fun n => (k.chime n).trans (h.chime n)
  · exact fun n => (k.msg n).trans (h.msg n)
  · exact fun n => (k.disp n).trans (h.disp n)
  · exact fun n => (k.keys n).trans (h.keys n)
  · exact fun n => (k.port n).trans (h.port n)
  · exact fun n => (k.nsp n).trans (h.nsp n)

theorem OnlyIn.mono {bs cs : List Block} {s t : State} (h : OnlyIn bs s t) (sub : bs ⊆ cs) :
    OnlyIn cs s t := by
  constructor
  · exact h.pending
  · exact h.now
  · exact fun n => h.power (fun m => n (sub m))
  · exact fun n => h.straps (fun m => n (sub m))
  · exact fun n => h.faults (fun m => n (sub m))
  · exact fun n => h.bus (fun m => n (sub m))
  · exact fun n => h.gauges (fun m => n (sub m))
  · exact fun n => h.fuel (fun m => n (sub m))
  · exact fun n => h.trip (fun m => n (sub m))
  · exact fun n => h.clock (fun m => n (sub m))
  · exact fun n => h.journey (fun m => n (sub m))
  · exact fun n => h.service (fun m => n (sub m))
  · exact fun n => h.warn (fun m => n (sub m))
  · exact fun n => h.chime (fun m => n (sub m))
  · exact fun n => h.msg (fun m => n (sub m))
  · exact fun n => h.disp (fun m => n (sub m))
  · exact fun n => h.keys (fun m => n (sub m))
  · exact fun n => h.port (fun m => n (sub m))
  · exact fun n => h.nsp (fun m => n (sub m))

/-- A fold of steps that each keep to the blocks keeps to them. -/
theorem OnlyIn.foldl {α : Type} {bs : List Block} {f : State → α → State} (h : ∀ t a, OnlyIn bs t (f t a)) :
    ∀ (l : List α) (s : State), OnlyIn bs s (l.foldl f s)
  | [], s => .refl bs s
  | a :: rest, s => (h s a).trans (OnlyIn.foldl h rest (f s a))

/-- A choice between steps that keep to the blocks keeps to them. -/
theorem OnlyIn.ite {c : Prop} [Decidable c] {bs : List Block} {s t u : State} (h : OnlyIn bs s t)
    (k : OnlyIn bs s u) : OnlyIn bs s (if c then t else u) := by split <;> assumption

/-! ### One record replaced -/

section
variable (s : State)
theorem only_power (x : Power) : OnlyIn [.power] s { s with power := x } := by constructor <;> simp
theorem only_faults (x : Faults) : OnlyIn [.faults] s { s with faults := x } := by constructor <;> simp
theorem only_bus (x : Bus) : OnlyIn [.bus] s { s with bus := x } := by constructor <;> simp
theorem only_gauges (x : Gauges) : OnlyIn [.gauges] s { s with gauges := x } := by constructor <;> simp
theorem only_fuel (x : Fuel) : OnlyIn [.fuel] s { s with fuel := x } := by constructor <;> simp
theorem only_trip (x : TripComputer) : OnlyIn [.trip] s { s with trip := x } := by constructor <;> simp
theorem only_clock (x : Clock) : OnlyIn [.clock] s { s with clock := x } := by constructor <;> simp
theorem only_journey (x : JourneyUnit) : OnlyIn [.journey] s { s with journey := x } := by constructor <;> simp
theorem only_service (x : Service) : OnlyIn [.service] s { s with service := x } := by constructor <;> simp
theorem only_warn (x : Warn) : OnlyIn [.warn] s { s with warn := x } := by constructor <;> simp
theorem only_chime (x : Chime) : OnlyIn [.chime] s { s with chime := x } := by constructor <;> simp
theorem only_msg (x : Messages) : OnlyIn [.msg] s { s with msg := x } := by constructor <;> simp
theorem only_disp (x : Display) : OnlyIn [.disp] s { s with disp := x } := by constructor <;> simp
theorem only_keys (x : Keys) : OnlyIn [.keys] s { s with keys := x } := by constructor <;> simp
theorem only_port (x : Port) : OnlyIn [.port] s { s with port := x } := by constructor <;> simp
theorem only_nsp (x : Nsp) : OnlyIn [.nsp] s { s with nsp := x } := by constructor <;> simp
end

end Sys2Proof.Machine
end

