-- ==== Sys2Proof/Laws/Lines.lean ====
section
/-! SUPPORT. Laws/Lines.lean: what one character's cells are read as, and the bits that the receiving end of a
clocked line takes. -/

namespace Sys2Proof.Machine

/-- The data cells of a character are read as the character. -/
theorem charOfCells_data (c : Byte) :
    charOfCells (!c.getLsbD 7) (!c.getLsbD 6) (!c.getLsbD 5) (!c.getLsbD 4) (!c.getLsbD 3) (!c.getLsbD 2)
      (!c.getLsbD 1) (!c.getLsbD 0) = c := by
  revert c; decide

/-- A character's cells give the character and go on with the cells that follow. -/
theorem readChars_charCells (c : Byte) (rest : List Bool) :
    readChars (charCells c ++ rest) = (readChars rest).after c := by
  simp only [charCells, List.cons_append, List.nil_append, readChars, Bool.false_eq_true, if_false,
    charOfCells_data]

@[simp] theorem readChars_recessive (rest : List Bool) : readChars (false :: rest) = .chars [] := by
  simp [readChars]

@[simp] theorem Reception.after_chars (c : Byte) (cs : List Byte) :
    (Reception.chars cs).after c = .chars (c :: cs) := rfl

@[simp] theorem Reception.after_discarded (c : Byte) (cause : DiscardCause) :
    (Reception.discarded cause).after c = .discarded cause := rfl

/-- Where the clock stands after bits: high, but for no bits at all. -/
theorem takenBits_clockBits (bits : List Bool) (clock before : Bool) (rest : List Levels) :
    takenBits clock (clockBits before bits ++ rest)
      = bits ++ takenBits (if bits = [] then clock else true) rest := by
  induction bits generalizing clock before with
  | nil => rfl
  | cons b bs ih => cases clock <;> cases bs <;> simp_all [clockBits, clockBit, takenBits]

end Sys2Proof.Machine
end

