-- ==== Sys2Proof/Laws/Memory.lean ====
section
/-! SUPPORT. Laws/Memory.lean: the external memory: its canonical form and what a stored word reads as
(11 "The Word Map", entry 8). -/

namespace Sys2Proof.Machine

/-- A memory that rises from an address rises from any lower one. -/
theorem memoryRises_mono {low low' : Nat} (h : low' ≤ low) :
    ∀ {m : List (Nat × Word)}, memoryRises low m = true → memoryRises low' m = true
  | [], _ => rfl
  | (b, w) :: rest, k => by
    simp only [memoryRises, Bool.and_eq_true, decide_eq_true_eq] at k ⊢
    exact ⟨⟨⟨by omega, k.1.1.2⟩, k.1.2⟩, k.2⟩

/-- Storing a word keeps the memory rising. -/
theorem memoryRises_writeWord {a : Nat} {v : Word} (ha : a < 128) :
    ∀ {low : Nat} {m : List (Nat × Word)}, low ≤ a → memoryRises low m = true →
      memoryRises low (writeWord a v m) = true
  | low, [], hl, _ => by
    unfold writeWord
    split
    · rfl
    · simp [memoryRises, Config.memoryWords, *]
  | low, (b, w) :: rest, hl, k => by
    simp only [memoryRises, Bool.and_eq_true, decide_eq_true_eq] at k
    obtain ⟨⟨⟨k1, k2⟩, k3⟩, k4⟩ := k
    unfold writeWord
    split
    · split
      · simp [memoryRises, *]
      · rename_i h1 h2
        simp only [memoryRises, Bool.and_eq_true, decide_eq_true_eq]
        exact ⟨⟨⟨hl, ha⟩, h2⟩, ⟨⟨h1, k2⟩, k3⟩, k4⟩
    · split
      · rename_i h1 h2
        subst h2
        split
        · exact memoryRises_mono (by omega) k4
        · simp [memoryRises, *]
      · rename_i h1 h2
        simp only [memoryRises, Bool.and_eq_true, decide_eq_true_eq]
        exact ⟨⟨⟨k1, k2⟩, k3⟩, memoryRises_writeWord ha (by omega) k4⟩

/-- Storing a word keeps the canonical form. -/
theorem memoryWf_writeWord {a : Nat} {v : Word} {m : List (Nat × Word)} (ha : a < 128)
    (h : memoryWf m = true) : memoryWf (writeWord a v m) = true :=
  memoryRises_writeWord ha (Nat.zero_le _) h

/-- Below the addresses listed, a memory reads as erased. -/
theorem readWord_below {a : Nat} :
    ∀ {low : Nat} {m : List (Nat × Word)}, a < low → memoryRises low m = true → readWord m a = erasedWord
  | _, [], _, _ => rfl
  | low, (b, w) :: rest, h, k => by
    simp only [memoryRises, Bool.and_eq_true, decide_eq_true_eq] at k
    have : a ≠ b := by omega
    simp only [readWord, this, if_false]
    exact readWord_below (by omega) k.2

/-- A memory reads as the word just stored. -/
theorem readWord_writeWord_same {a : Nat} {v : Word} :
    ∀ {low : Nat} {m : List (Nat × Word)}, memoryRises low m = true → readWord (writeWord a v m) a = v
  | _, [], _ => by
    unfold writeWord
    split
    · simp [readWord, *]
    · simp [readWord]
  | low, (b, w) :: rest, k => by
    simp only [memoryRises, Bool.and_eq_true, decide_eq_true_eq] at k
    unfold writeWord
    split
    · rename_i h1
      split
      · rename_i h2
        have : a ≠ b := by omega
        simp only [readWord, this, if_false]
        exact (readWord_below (by omega) k.2).trans h2.symm
      · simp [readWord]
    · split
      · rename_i h1 h2
        subst h2
        split
        · rename_i h3
          exact (readWord_below (by omega) k.2).trans h3.symm
        · simp [readWord]
      · rename_i h1 h2
        simp only [readWord, h2, if_false]
        exact readWord_writeWord_same k.2

/-- Every other address reads as before. -/
theorem readWord_writeWord_other {a c : Nat} {v : Word} (hc : c ≠ a) :
    ∀ {m : List (Nat × Word)}, readWord (writeWord a v m) c = readWord m c
  | [] => by
    unfold writeWord
    split
    · rfl
    · simp [readWord, hc]
  | (b, w) :: rest => by
    unfold writeWord
    split
    · split
      · rfl
      · simp [readWord, hc]
    · split
      · rename_i h1 h2
        subst h2
        split <;> simp [readWord, hc]
      · simp only [readWord]
        split
        · rfl
        · exact readWord_writeWord_other hc

/-- What a memory in its form reads as after a word is stored. -/
theorem readWord_writeWord {a c : Nat} {v : Word} {m : List (Nat × Word)} (h : memoryWf m = true) :
    readWord (writeWord a v m) c = if c = a then v else readWord m c := by
  split
  · subst_vars
    exact readWord_writeWord_same h
  · exact readWord_writeWord_other ‹_›

/-- The memory after a loss of supply keeps its form. -/
theorem memoryWf_cutMemory (cut : Option Word) (n : Nsp) (h : memoryWf n.memory = true) :
    memoryWf (cutMemory cut n) = true := by
  unfold cutMemory
  split
  · exact memoryWf_writeWord (Nat.mod_lt _ (by decide)) h
  · exact h

end Sys2Proof.Machine
end

