-- ==== Sys2Proof/Laws/Select.lean ====
section
/-! SUPPORT. Laws/Select.lean: what the selections choose: the chime request that ranks highest or last
(08 R130, R133), the record that takes the display or is dropped (09 R142, R143), and the head of the transmit
queue (10 R159). -/

namespace Sys2Proof.Machine

/-! ### Chime requests -/

theorem outranks_iff (a b : ChimeRequest) :
    outranks a b = true ↔ a.priority < b.priority ∨ (a.priority = b.priority ∧ a.order < b.order) := by
  simp [outranks]

/-- No request is chosen exactly when none is eligible. -/
theorem bestRequest_none {h : Bool} :
    ∀ {l : List ChimeRequest}, bestRequest h l = none ↔ ∀ r ∈ l, eligible h r = false
  | [] => by simp [bestRequest]
  | r :: rest => by
    have ih := bestRequest_none (h := h) (l := rest)
    unfold bestRequest
    split
    · rename_i k
      rw [k] at ih
      split
      · rename_i e
        simp [e]
      · rename_i e
        simpa [e] using ih
    · rename_i b k
      rw [k] at ih
      have : ∃ r ∈ rest, eligible h r = true := by simpa using ih
      obtain ⟨x, hx, ex⟩ := this
      split <;> simp only [reduceCtorEq, false_iff] <;> intro all <;>
        exact absurd (all x (List.mem_cons_of_mem _ hx)) (by simp [ex])

/-- The request chosen is in the set, is eligible, and no eligible one outranks it. -/
theorem bestRequest_some {h : Bool} :
    ∀ {l : List ChimeRequest} {b : ChimeRequest}, bestRequest h l = some b →
      b ∈ l ∧ eligible h b = true ∧ ∀ r ∈ l, eligible h r = true → outranks r b = false
  | [], b, k => by simp [bestRequest] at k
  | r :: rest, b, k => by
    unfold bestRequest at k
    split at k
    · rename_i none_rest
      have out := bestRequest_none.mp none_rest
      split at k
      · rename_i e
        cases k
        refine ⟨List.mem_cons_self, e, fun x hx ex => ?_⟩
        rcases List.mem_cons.mp hx with rfl | hx
        · simp [outranks]
        · exact absurd ex (by simp [out x hx])
      · cases k
    · rename_i b' some_rest
      obtain ⟨m, e, top⟩ := bestRequest_some some_rest
      split at k
      · rename_i c
        cases k
        simp only [Bool.and_eq_true, Bool.not_eq_true'] at c
        refine ⟨List.mem_cons_self, c.1, fun x hx ex => ?_⟩
        rcases List.mem_cons.mp hx with rfl | hx
        · simp [outranks]
        · have h1 := top x hx ex
          have h2 := c.2
          rw [← Bool.not_eq_true, outranks_iff] at h1 h2 ⊢
          omega
      · rename_i c
        cases k
        refine ⟨List.mem_cons_of_mem _ m, e, fun x hx ex => ?_⟩
        rcases List.mem_cons.mp hx with rfl | hx
        · simp only [ex, Bool.true_and, Bool.not_eq_true', Bool.not_eq_false] at c
          rw [← Bool.not_eq_true, outranks_iff]
          rw [outranks_iff] at c
          omega
        · exact top x hx ex

/-- The request dropped for a better one is in the set, and outranks none. -/
theorem worstRequest_some :
    ∀ {l : List ChimeRequest} {w : ChimeRequest}, worstRequest l = some w →
      w ∈ l ∧ ∀ r ∈ l, outranks w r = false
  | [], w, k => by simp [worstRequest] at k
  | r :: rest, w, k => by
    unfold worstRequest at k
    split at k
    · rename_i none_rest
      cases k
      have : rest = [] := by
        cases rest with
        | nil => rfl
        | cons a l =>
          unfold worstRequest at none_rest
          split at none_rest
          · cases none_rest
          · split at none_rest <;> cases none_rest
      subst this
      exact ⟨List.mem_cons_self, fun x hx => by
        have : x = r := by simpa using hx
        subst this
        simp [outranks]⟩
    · rename_i w' some_rest
      obtain ⟨m, low⟩ := worstRequest_some some_rest
      split at k
      · rename_i c
        cases k
        refine ⟨List.mem_cons_self, fun x hx => ?_⟩
        rcases List.mem_cons.mp hx with rfl | hx
        · simp [outranks]
        · have h1 := low x hx
          rw [← Bool.not_eq_true, outranks_iff] at h1 ⊢
          rw [outranks_iff] at c
          omega
      · rename_i c
        cases k
        refine ⟨List.mem_cons_of_mem _ m, fun x hx => ?_⟩
        rcases List.mem_cons.mp hx with rfl | hx
        · simpa using c
        · exact low x hx

/-! ### Message records -/

theorem msgBefore_iff (a b : MsgRecord) :
    msgBefore a b = true ↔ a.priority < b.priority ∨ (a.priority = b.priority ∧ a.order < b.order) := by
  simp [msgBefore]

/-- No record is chosen exactly when none is WAITING. -/
theorem bestWaiting_none : ∀ {l : List MsgRecord}, bestWaiting l = none ↔ ∀ r ∈ l, r.showing = true
  | [] => by simp [bestWaiting]
  | r :: rest => by
    have ih := bestWaiting_none (l := rest)
    unfold bestWaiting
    split
    · rename_i k
      rw [k] at ih
      split
      · rename_i e
        simpa [e] using ih
      · rename_i e
        simp [e]
    · rename_i b k
      rw [k] at ih
      have : ∃ r ∈ rest, r.showing = false := by simpa using ih
      obtain ⟨x, hx, ex⟩ := this
      split <;> simp only [reduceCtorEq, false_iff] <;> intro all <;>
        exact absurd (all x (List.mem_cons_of_mem _ hx)) (by simp [ex])

/-- The record chosen is WAITING, and no WAITING one comes before it. -/
theorem bestWaiting_some :
    ∀ {l : List MsgRecord} {b : MsgRecord}, bestWaiting l = some b →
      b ∈ l ∧ b.showing = false ∧ ∀ r ∈ l, r.showing = false → msgBefore r b = false
  | [], b, k => by simp [bestWaiting] at k
  | r :: rest, b, k => by
    unfold bestWaiting at k
    split at k
    · rename_i none_rest
      have out := bestWaiting_none.mp none_rest
      split at k
      · cases k
      · rename_i e
        cases k
        refine ⟨List.mem_cons_self, by simpa using e, fun x hx ex => ?_⟩
        rcases List.mem_cons.mp hx with rfl | hx
        · simp [msgBefore]
        · exact absurd ex (by simp [out x hx])
    · rename_i b' some_rest
      obtain ⟨m, e, top⟩ := bestWaiting_some some_rest
      split at k
      · rename_i c
        cases k
        simp only [Bool.and_eq_true, Bool.not_eq_true'] at c
        refine ⟨List.mem_cons_self, c.1, fun x hx ex => ?_⟩
        rcases List.mem_cons.mp hx with rfl | hx
        · simp [msgBefore]
        · have h1 := top x hx ex
          have h2 := c.2
          rw [← Bool.not_eq_true, msgBefore_iff] at h1 h2 ⊢
          omega
      · rename_i c
        cases k
        refine ⟨List.mem_cons_of_mem _ m, e, fun x hx ex => ?_⟩
        rcases List.mem_cons.mp hx with rfl | hx
        · simp only [ex, Bool.not_false, Bool.true_and, Bool.not_eq_true', Bool.not_eq_false] at c
          rw [← Bool.not_eq_true, msgBefore_iff]
          rw [msgBefore_iff] at c
          omega
        · exact top x hx ex

/-! ### Transmit queue -/

theorem txBefore_iff (a b : TxEntry) : txBefore a b = true ↔
    kindClass a.id.kind < kindClass b.id.kind
      ∨ (kindClass a.id.kind = kindClass b.id.kind ∧ a.order < b.order) := by simp [txBefore]

/-- There is no head exactly when no entry is eligible. -/
theorem txHead_none : ∀ {l : List TxEntry}, txHead l = none ↔ ∀ e ∈ l, txEligible e = false
  | [] => by simp [txHead]
  | r :: rest => by
    have ih := txHead_none (l := rest)
    unfold txHead
    split
    · rename_i k
      rw [k] at ih
      split
      · rename_i e
        simp [e]
      · rename_i e
        simpa [e] using ih
    · rename_i b k
      rw [k] at ih
      have : ∃ r ∈ rest, txEligible r = true := by simpa using ih
      obtain ⟨x, hx, ex⟩ := this
      split <;> simp only [reduceCtorEq, false_iff] <;> intro all <;>
        exact absurd (all x (List.mem_cons_of_mem _ hx)) (by simp [ex])

/-- The head is eligible, and no eligible entry comes before it. -/
theorem txHead_some :
    ∀ {l : List TxEntry} {b : TxEntry}, txHead l = some b →
      b ∈ l ∧ txEligible b = true ∧ ∀ e ∈ l, txEligible e = true → txBefore e b = false
  | [], b, k => by simp [txHead] at k
  | r :: rest, b, k => by
    unfold txHead at k
    split at k
    · rename_i none_rest
      have out := txHead_none.mp none_rest
      split at k
      · rename_i e
        cases k
        refine ⟨List.mem_cons_self, e, fun x hx ex => ?_⟩
        rcases List.mem_cons.mp hx with rfl | hx
        · simp [txBefore]
        · exact absurd ex (by simp [out x hx])
      · cases k
    · rename_i b' some_rest
      obtain ⟨m, e, top⟩ := txHead_some some_rest
      split at k
      · rename_i c
        cases k
        simp only [Bool.and_eq_true, Bool.not_eq_true'] at c
        refine ⟨List.mem_cons_self, c.1, fun x hx ex => ?_⟩
        rcases List.mem_cons.mp hx with rfl | hx
        · simp [txBefore]
        · have h1 := top x hx ex
          have h2 := c.2
          rw [← Bool.not_eq_true, txBefore_iff] at h1 h2 ⊢
          omega
      · rename_i c
        cases k
        refine ⟨List.mem_cons_of_mem _ m, e, fun x hx ex => ?_⟩
        rcases List.mem_cons.mp hx with rfl | hx
        · simp only [ex, Bool.true_and, Bool.not_eq_true', Bool.not_eq_false] at c
          rw [← Bool.not_eq_true, txBefore_iff]
          rw [txBefore_iff] at c
          omega
        · exact top x hx ex

end Sys2Proof.Machine
end

