-- ==== Sys2Proof/Laws/Posts.lean ====
section
/-! SUPPORT. Laws/Posts.lean: everything that a post to the chime set (08 R129, R130), a post to the message
queue (09 R142), an offer to the transmit queue (10 R159) and an offer of a record to the store (11 R168) can
do, one lemma each. -/

namespace Sys2Proof.Machine

/-- A chime post is refused outside RUN and WATCH, replaces the source's request, joins, displaces the last, or
is refused by a full set. -/
theorem chimePost_cases (src : ChimeSource) (pat : ChimePattern) (prio reps : Nat) (s : State) :
    (awake s = false ∧ chimePost src pat prio reps s = (.refused, s))
    ∨ (awake s = true ∧ sourcePresent src s.chime.requests = true
        ∧ chimePost src pat prio reps s = (.taken, withArbiter (replaceRequest src pat prio reps) s))
    ∨ (awake s = true ∧ sourcePresent src s.chime.requests = false ∧ s.chime.requests.length < 8
        ∧ chimePost src pat prio reps s = (.taken, withArbiter (joinRequest src pat prio reps) s))
    ∨ (∃ w, awake s = true ∧ sourcePresent src s.chime.requests = false ∧ 8 ≤ s.chime.requests.length
        ∧ worstRequest s.chime.requests = some w ∧ prio < w.priority
        ∧ chimePost src pat prio reps s = (.displaced w.source,
            withArbiter (fun t => joinRequest src pat prio reps (removeRequest w.source t)) s))
    ∨ (awake s = true ∧ sourcePresent src s.chime.requests = false ∧ 8 ≤ s.chime.requests.length
        ∧ chimePost src pat prio reps s = (.refused, s)) := by
  unfold chimePost
  split
  · exact .inl ⟨by simpa using ‹(!awake s) = true›, rfl⟩
  · have ha : awake s = true := by simpa using ‹¬(!awake s) = true›
    split
    · exact .inr (.inl ⟨ha, ‹_›, rfl⟩)
    · have hp : sourcePresent src s.chime.requests = false := by simpa using ‹¬sourcePresent src _ = true›
      split
      · exact .inr (.inr (.inl ⟨ha, hp, ‹_›, rfl⟩))
      · have hl : 8 ≤ s.chime.requests.length := Nat.le_of_not_lt ‹_›
        split
        · split
          · exact .inr (.inr (.inr (.inl ⟨_, ha, hp, hl, ‹_›, ‹_›, rfl⟩)))
          · exact .inr (.inr (.inr (.inr ⟨ha, hp, hl, rfl⟩)))
        · exact .inr (.inr (.inr (.inr ⟨ha, hp, hl, rfl⟩)))

/-- A message post replaces the origin's record, joins, displaces the worst, or is refused by a full queue. -/
theorem msgPost_cases (o : MsgOrigin) (x : Text) (prio : Nat) (mx : Option Nat) (s : State) :
    (originPresent o s.msg.queue = true
        ∧ msgPost o x prio mx s = (.taken, select (replaceRecord o x prio mx s)))
    ∨ (originPresent o s.msg.queue = false ∧ s.msg.queue.length < 8
        ∧ msgPost o x prio mx s = (.taken, select (joinRecord o x prio mx s)))
    ∨ (∃ w, originPresent o s.msg.queue = false ∧ 8 ≤ s.msg.queue.length
        ∧ worstRecord s.msg.queue = some w ∧ prio < w.priority
        ∧ msgPost o x prio mx s
            = (.displaced w.origin, select (joinRecord o x prio mx (dropRecord w.origin s))))
    ∨ (originPresent o s.msg.queue = false ∧ 8 ≤ s.msg.queue.length
        ∧ msgPost o x prio mx s = (.refused, s)) := by
  unfold msgPost
  split
  · exact .inl ⟨‹_›, rfl⟩
  · have hp : originPresent o s.msg.queue = false := by simpa using ‹¬originPresent o _ = true›
    split
    · exact .inr (.inl ⟨hp, ‹_›, rfl⟩)
    · have hl : 8 ≤ s.msg.queue.length := Nat.le_of_not_lt ‹_›
      split
      · split
        · exact .inr (.inr (.inl ⟨_, hp, hl, ‹_›, ‹_›, rfl⟩))
        · exact .inr (.inr (.inr ⟨hp, hl, rfl⟩))
      · exact .inr (.inr (.inr ⟨hp, hl, rfl⟩))

/-- An offer to the transmit queue replaces the entry of its identity, joins, is dropped as a mirror of the
schedule, takes the place of a waiting mirror, or is not taken. -/
theorem txOffer_cases (id : FrameId) (slots : List Slot) (periodic : Bool) (p : Port) :
    (txPresent id p.queue = true
        ∧ txOffer id slots periodic p = (true, { p with queue := p.queue.map (replaceTx id slots periodic) }))
    ∨ (txPresent id p.queue = false ∧ p.queue.length < 8
        ∧ txOffer id slots periodic p = (true, { p with
            queue := p.queue ++ [newTx id slots periodic p.nextOrder], nextOrder := p.nextOrder + 1 }))
    ∨ (txPresent id p.queue = false ∧ 8 ≤ p.queue.length ∧ periodic = true
        ∧ txOffer id slots periodic p = (true, p))
    ∨ (txPresent id p.queue = false ∧ 8 ≤ p.queue.length ∧ periodic = false
        ∧ p.queue.any yieldingMirror = true
        ∧ txOffer id slots periodic p = (true, { p with
            queue := p.queue.filter (fun e => !yieldingMirror e) ++ [newTx id slots periodic p.nextOrder],
            nextOrder := p.nextOrder + 1 }))
    ∨ (txPresent id p.queue = false ∧ 8 ≤ p.queue.length ∧ periodic = false
        ∧ p.queue.any yieldingMirror = false ∧ txOffer id slots periodic p = (false, p)) := by
  unfold txOffer
  split
  · exact .inl ⟨‹_›, rfl⟩
  · have hp : txPresent id p.queue = false := by simpa using ‹¬txPresent id _ = true›
    split
    · exact .inr (.inl ⟨hp, ‹_›, rfl⟩)
    · have hl : 8 ≤ p.queue.length := Nat.le_of_not_lt ‹_›
      split
      · exact .inr (.inr (.inl ⟨hp, hl, ‹_›, rfl⟩))
      · have hd : periodic = false := by simpa using ‹¬periodic = true›
        split
        · exact .inr (.inr (.inr (.inl ⟨hp, hl, hd, ‹_›, rfl⟩)))
        · have hm : p.queue.any yieldingMirror = false := by simpa using ‹¬(p.queue.any yieldingMirror) = true›
          exact .inr (.inr (.inr (.inr ⟨hp, hl, hd, hm, rfl⟩)))

/-- An owner's offer changes nothing, forgets the frame, puts it in the queue, or keeps it for 50 ms. -/
theorem offerOwned_cases (what : Reoffer) (s : State) :
    (mayQueue s = false ∧ offerOwned what s = s)
    ∨ (mayQueue s = true ∧ ownedFrame s what = none
        ∧ offerOwned what s = { s with port := forgetOwed what s.port })
    ∨ (∃ id slots, mayQueue s = true ∧ ownedFrame s what = some (id, slots)
        ∧ (txOffer id slots false s.port).1 = true
        ∧ offerOwned what s = { s with port := forgetOwed what (txOffer id slots false s.port).2 })
    ∨ (∃ id slots, mayQueue s = true ∧ ownedFrame s what = some (id, slots)
        ∧ (txOffer id slots false s.port).1 = false
        ∧ offerOwned what s = { s with port := rememberOwed what (s.now + 50) (txOffer id slots false s.port).2 }) := by
  unfold offerOwned
  split
  · split
    · exact .inr (.inl ⟨‹_›, ‹_›, rfl⟩)
    · rename_i id slots h
      split
      · rename_i p k
        exact .inr (.inr (.inl ⟨id, slots, ‹_›, h, by rw [k], by rw [k]⟩))
      · rename_i p k
        exact .inr (.inr (.inr ⟨id, slots, ‹_›, h, by rw [k], by rw [k]⟩))
  · exact .inl ⟨by simpa using ‹¬mayQueue s = true›, rfl⟩

/-- A record offered to the store is taken whole or left as it was. -/
theorem takeRecord_cases (s : State) (r : StoreRecord) :
    (storeOpen s = true ∧ isDirty s r = true ∧ heldBack s r = false ∧ recordFits s r = true
        ∧ takeRecord s r = markTaken r { s with nsp := (recordWords s r).foldl queueWord s.nsp })
    ∨ takeRecord s r = s := by
  unfold takeRecord
  split
  · rename_i h
    simp only [Bool.and_eq_true, Bool.not_eq_true'] at h
    exact .inl ⟨h.1.1.1, h.1.1.2, h.1.2, h.2, rfl⟩
  · exact .inr rfl

/-- A word offered to the write queue replaces the data of its address there, or joins at the end. -/
theorem queueWord_addresses (n : Nsp) (a : Nat) (d : Word) :
    (queueWord n (a, d)).queue.map (fun e => e.addr)
      = n.queue.map (fun e => e.addr) ++ (if wordQueued a n.queue then [] else [a]) := by
  have same : ∀ (e : WriteEntry) (b : Bool), (replaceWord a d e b).addr = e.addr := by
    intro e b
    unfold replaceWord
    repeat' split
    all_goals rfl
  unfold queueWord
  split
  · cases n.queue <;> simp [same]
  · simp

end Sys2Proof.Machine
end

