-- ==== Sys2Proof/Laws/Touches.lean ====
section
/-! SUPPORT. Laws/Touches.lean: the blocks that each shared operation may change, one lemma an operation. -/

namespace Sys2Proof.Machine

/-! ### Lists and banks (Ops) -/

theorem modifyRoster_only (n f s) : OnlyIn [.bus] s (modifyRoster n f s) := by
  unfold modifyRoster; split
  · exact only_bus s _
  · exact .refl _ s

theorem modifyDemand_only (n f s) : OnlyIn [.bus] s (modifyDemand n f s) := by
  unfold modifyDemand; split
  · exact only_bus s _
  · exact .refl _ s

theorem modifyWarn_only (n f s) : OnlyIn [.warn] s (modifyWarn n f s) := by
  unfold modifyWarn; split
  · exact only_warn s _
  · exact .refl _ s

theorem modifyItem_only (i f s) : OnlyIn [.service] s (modifyItem i f s) := by
  unfold modifyItem; split
  · exact only_service s _
  · exact .refl _ s

/-! ### The end of a command -/

theorem settleSleep_only (s) : OnlyIn [.power] s (settleSleep s) := by
  unfold settleSleep; split
  · split
    · exact .refl _ s
    · exact only_power s _
  · exact only_power s _

theorem refreshDisplay_only (s) : OnlyIn [.disp] s (refreshDisplay s) := by
  unfold refreshDisplay; split
  · exact .refl _ s
  · split
    · exact only_disp s _
    · exact only_disp s _

theorem settled_only (s) : OnlyIn [.power, .disp] s (settled s) :=
  ((settleSleep_only s).mono (by decide)).trans ((refreshDisplay_only _).mono (by decide))

/-- A command whose effect keeps to some blocks, and is then settled. -/
theorem OnlyIn.settled {bs : List Block} {s t : State} (h : OnlyIn bs s t) (p : Block.power ∈ bs)
    (d : Block.disp ∈ bs) : OnlyIn bs s (settled t) :=
  h.trans ((settled_only t).mono (by simp [p, d]))

/-! ### Transmit queue (10) -/

theorem offerOwned_only (what s) : OnlyIn [.port] s (offerOwned what s) := by
  unfold offerOwned
  repeat' split
  all_goals first | exact .refl _ s | exact only_port s _

theorem offerPeriodicMirror_only (s) : OnlyIn [.port] s (offerPeriodicMirror s) := by
  unfold offerPeriodicMirror; split
  · exact only_port s _
  · exact .refl _ s

theorem answerBits_only (n) : ∀ (bits : List Nat) (s : State), OnlyIn [.bus, .port] s (answerBits n bits s)
  | [], s => (modifyDemand_only n _ s).mono (by decide)
  | b :: rest, s => by
    unfold answerBits
    repeat' split
    · exact (((only_port s _).mono (by decide)).trans ((modifyDemand_only n _ _).mono (by decide))).trans
        (answerBits_only n rest _)
    · exact (modifyDemand_only n _ s).mono (by decide)
    · exact answerBits_only n rest s

theorem takeDemand_only (n m i s) : OnlyIn [.bus, .port] s (takeDemand n m i s) := by
  unfold takeDemand
  split
  · exact (modifyDemand_only _ _ _).mono (by decide)
  · exact ((modifyDemand_only _ _ _).mono (by decide)).trans (answerBits_only _ _ _)

theorem beginAttempt_only (s) : OnlyIn [.port] s (beginAttempt s) := by
  unfold beginAttempt
  repeat' split
  all_goals first | exact .refl _ s | exact only_port s _

theorem endAttempt_only (act s) : OnlyIn [.port] s (endAttempt act s) := only_port s _

theorem markSentWhole_only (k s) : OnlyIn [.port, .faults] s (markSentWhole k s) := by
  constructor <;> simp [markSentWhole]

theorem countFault_only (s) : OnlyIn [.port, .faults] s (countFault s) := by
  unfold countFault
  split <;> constructor <;> simp

/-! ### Chime set (08) -/

theorem releaseOutput_only (s) : OnlyIn [.chime] s (releaseOutput s) := only_chime s _

theorem startSounding_only (r s) : OnlyIn [.chime] s (startSounding r s) := only_chime s _

theorem startBest_only (s) : OnlyIn [.chime] s (startBest s) := by
  unfold startBest; split
  · exact startSounding_only _ s
  · exact .refl _ s

theorem arbiterDecide_only (s) : OnlyIn [.chime] s (arbiterDecide s) := by
  unfold arbiterDecide
  repeat' split
  all_goals first
    | exact .refl _ s
    | exact startBest_only s
    | exact (releaseOutput_only s).trans (startBest_only _)

theorem reportSource_only (s t) : OnlyIn [.port] t (reportSource s t) := by
  unfold reportSource; split
  · exact .refl _ t
  · exact offerOwned_only _ t

theorem withArbiter_only {f : State → State} (h : ∀ s, OnlyIn [.chime] s (f s)) (s) :
    OnlyIn [.chime, .port] s (withArbiter f s) :=
  (((h s).trans (arbiterDecide_only _)).mono (by decide)).trans ((reportSource_only s _).mono (by decide))

theorem replaceRequest_only (a b c d s) : OnlyIn [.chime] s (replaceRequest a b c d s) := by
  unfold replaceRequest
  exact (OnlyIn.ite (releaseOutput_only s) (.refl _ s)).trans (only_chime _ _)

theorem joinRequest_only (a b c d s) : OnlyIn [.chime] s (joinRequest a b c d s) := only_chime s _

theorem removeRequest_only (a s) : OnlyIn [.chime] s (removeRequest a s) := by
  unfold removeRequest
  exact (OnlyIn.ite (releaseOutput_only s) (.refl _ s)).trans (only_chime _ _)

theorem chimePost_only (a b c d s) : OnlyIn [.chime, .port] s (chimePost a b c d s).2 := by
  unfold chimePost
  split
  · exact .refl _ s
  · split
    · exact withArbiter_only (replaceRequest_only a b c d) s
    · split
      · exact withArbiter_only (joinRequest_only a b c d) s
      · split
        · rename_i w _
          split
          · exact withArbiter_only (fun t => (removeRequest_only w.source t).trans (joinRequest_only a b c d _)) s
          · exact .refl _ s
        · exact .refl _ s

theorem withdrawChime_only (a s) : OnlyIn [.chime, .port] s (withdrawChime a s) := by
  unfold withdrawChime; split
  · exact withArbiter_only (removeRequest_only a) s
  · exact .refl _ s

theorem hushChanged_only (s) : OnlyIn [.chime, .port] s (hushChanged s) :=
  withArbiter_only (fun t => .refl _ t) s

theorem countRepetition_only (a s) : OnlyIn [.chime] s (countRepetition a s) := only_chime s _

theorem goOnInto_only (r i s) : OnlyIn [.chime] s (goOnInto r i s) := by
  unfold goOnInto; split
  · exact only_chime s _
  · exact (releaseOutput_only s).trans (startBest_only _)

theorem endElement_only (r s) : OnlyIn [.chime] s (endElement r s) := by
  unfold endElement
  dsimp only
  repeat' split
  · exact goOnInto_only _ _ s
  · exact (removeRequest_only _ s).trans (startBest_only _)
  · exact (countRepetition_only _ s).trans (goOnInto_only _ _ _)
  · exact goOnInto_only _ _ s

theorem silenceForDip_only (s) : OnlyIn [.chime, .port] s (silenceForDip s) :=
  ((releaseOutput_only s).mono (by decide)).trans ((reportSource_only s _).mono (by decide))

theorem emptyChimes_only (s) : OnlyIn [.chime, .port] s (emptyChimes s) :=
  ((only_chime s _).mono (by decide)).trans ((reportSource_only s _).mono (by decide))

/-! ### Message queue (09) -/

theorem closeReview_only (s) : OnlyIn [.warn] s (closeReview s) := only_warn s _

theorem leaveSetMode_only (s) : OnlyIn [.disp] s (leaveSetMode s) := only_disp s _

theorem wakeDisplay_only (s) : OnlyIn [.disp] s (wakeDisplay s) := by
  unfold wakeDisplay; split
  · exact only_disp s _
  · exact .refl _ s

theorem becomeShowing_only (r s) : OnlyIn [.warn, .msg, .disp] s (becomeShowing r s) := by
  unfold becomeShowing
  exact (((only_msg s _).mono (by decide)).trans ((closeReview_only _).mono (by decide))).trans
    (((leaveSetMode_only _).trans (wakeDisplay_only _)).mono (by decide))

theorem backToWaiting_only (s) : OnlyIn [.msg] s (backToWaiting s) := only_msg s _

theorem select_only (s) : OnlyIn [.warn, .msg, .disp] s (select s) := by
  unfold select
  repeat' split
  all_goals first
    | exact becomeShowing_only _ s
    | exact ((backToWaiting_only s).mono (by decide)).trans (becomeShowing_only _ _)
    | exact .refl _ s

theorem replaceRecord_only (a b c d s) : OnlyIn [.msg] s (replaceRecord a b c d s) := only_msg s _

theorem joinRecord_only (a b c d s) : OnlyIn [.msg] s (joinRecord a b c d s) := only_msg s _

theorem dropRecord_only (a s) : OnlyIn [.msg] s (dropRecord a s) := only_msg s _

theorem msgPost_only (a b c d s) : OnlyIn [.warn, .msg, .disp] s (msgPost a b c d s).2 := by
  unfold msgPost
  repeat' split
  all_goals first
    | exact .refl _ s
    | exact ((replaceRecord_only _ _ _ _ s).mono (by decide)).trans (select_only _)
    | exact ((joinRecord_only _ _ _ _ s).mono (by decide)).trans (select_only _)
    | exact (((dropRecord_only _ s).trans (joinRecord_only _ _ _ _ _)).mono (by decide)).trans (select_only _)

theorem removeRecord_only (a s) : OnlyIn [.warn, .msg, .disp] s (removeRecord a s) := by
  unfold removeRecord; split
  · exact ((dropRecord_only _ s).mono (by decide)).trans (select_only _)
  · exact .refl _ s

theorem emptyMessages_only (s) : OnlyIn [.msg] s (emptyMessages s) := only_msg s _

/-! ### Store (11) -/

theorem markTaken_only (r s) : OnlyIn storeBlocks s (markTaken r s) := by
  cases r
  · constructor <;> simp [markTaken, storeBlocks]
  · exact (only_journey s _).mono (by decide)
  · exact (only_journey s _).mono (by decide)
  · exact (only_journey s _).mono (by decide)
  · exact (modifyItem_only _ _ s).mono (by decide)

theorem takeRecord_only (s r) : OnlyIn storeBlocks s (takeRecord s r) := by
  unfold takeRecord; split
  · exact ((only_nsp s _).mono (by decide)).trans (markTaken_only r _)
  · exact .refl _ s

theorem kickWriter_only (s) : OnlyIn [.nsp] s (kickWriter s) := by
  unfold kickWriter; split
  · exact only_nsp s _
  · exact .refl _ s

theorem offerRecord_only (r s) : OnlyIn storeBlocks s (offerRecord r s) :=
  (takeRecord_only s r).trans ((kickWriter_only _).mono (by decide))

theorem reofferAll_only (s) : OnlyIn storeBlocks s (reofferAll s) := OnlyIn.foldl takeRecord_only _ s

theorem markOdometer_only (s) : OnlyIn storeBlocks s (markOdometer s) :=
  ((only_trip s _).mono (by decide)).trans (offerRecord_only _ _)

theorem markOpenSlot_only (s) : OnlyIn storeBlocks s (markOpenSlot s) :=
  ((only_journey s _).mono (by decide)).trans (offerRecord_only _ _)

theorem storeHead_only (e rest s) : OnlyIn (.faults :: storeBlocks) s (storeHead e rest s) := by
  unfold storeHead
  refine OnlyIn.trans ?_ ((kickWriter_only _).mono (by decide))
  refine OnlyIn.trans (t := { s with nsp := _, faults := _ }) ?_
    (OnlyIn.ite ((reofferAll_only _).mono (by decide)) (.refl _ _))
  constructor <;> simp [storeBlocks]

theorem completeWrite_only (s) : OnlyIn (.faults :: storeBlocks) s (completeWrite s) := by
  unfold completeWrite
  split
  · exact OnlyIn.ite (.refl _ s) (storeHead_only _ _ s)
  · exact .refl _ s

theorem answerWrite_only (a s) : OnlyIn [.faults, .nsp] s (answerWrite a s) := by
  unfold answerWrite tryAcked tryUnacked
  repeat' split
  all_goals constructor <;> simp

theorem endWriteWait_only (s) : OnlyIn [.nsp] s (endWriteWait s) := by
  unfold endWriteWait; split
  · exact only_nsp s _
  · exact .refl _ s

theorem dipFreesWriter_only (s) : OnlyIn [.nsp] s (dipFreesWriter s) := by
  unfold dipFreesWriter; split
  · exact only_nsp s _
  · exact kickWriter_only s

/-! ### Reminders and posts (06, 07, 08, 09) -/

theorem postReminder_only (i s) : OnlyIn [.warn, .msg, .disp, .service] s (postReminder i s) := by
  have h := (msgPost_only .reminder (.service (itemOf s i).state i) 5 (some 4) s).mono
    (cs := [.warn, .msg, .disp, .service]) (by decide)
  unfold postReminder
  split <;> rename_i e <;> rw [e] at h <;> exact h.trans ((only_service _ _).mono (by decide))

theorem setCursor_only (n s) : OnlyIn [.warn, .msg, .disp, .service] s (setCursor n s) := by
  unfold setCursor; split
  · exact ((only_service s _).mono (by decide)).trans (postReminder_only _ _)
  · exact (only_service s _).mono (by decide)

theorem advanceReminder_only (s) : OnlyIn [.warn, .msg, .disp, .service] s (advanceReminder s) := by
  unfold advanceReminder; split
  · exact setCursor_only _ s
  · exact .refl _ s

theorem endReminders_only (s) : OnlyIn [.warn, .msg, .disp, .service] s (endReminders s) :=
  ((only_service s _).mono (by decide)).trans ((removeRecord_only _ _).mono (by decide))

theorem chimeDropped_only (a s) : OnlyIn [.warn] s (chimeDropped a s) := by
  unfold chimeDropped; split
  · exact modifyWarn_only _ _ s
  · exact .refl _ s

theorem messageDropped_only (a s) : OnlyIn [.warn, .msg, .disp, .service] s (messageDropped a s) := by
  unfold messageDropped; split
  · exact (modifyWarn_only _ _ s).mono (by decide)
  · exact advanceReminder_only s
  · exact .refl _ s

theorem postChime_only (a b c d s) : OnlyIn [.warn, .chime, .port] s (postChime a b c d s).2 := by
  have h := (chimePost_only a b c d s).mono (cs := [.warn, .chime, .port]) (by decide)
  unfold postChime
  split <;> rename_i e <;> rw [e] at h
  · exact h
  · exact h
  · exact h.trans ((chimeDropped_only _ _).mono (by decide))

theorem postMessage_only (a b c d s) : OnlyIn [.warn, .msg, .disp, .service] s (postMessage a b c d s).2 := by
  have h := (msgPost_only a b c d s).mono (cs := [.warn, .msg, .disp, .service]) (by decide)
  unfold postMessage
  split <;> rename_i e <;> rw [e] at h
  · exact h
  · exact h
  · exact h.trans ((messageDropped_only _ _).mono (by decide))

theorem postNote_only (a b c d s) : OnlyIn [.warn, .msg, .disp, .service] s (postNote a b c d s) :=
  postMessage_only a b c d s

theorem keyClick_only (s) : OnlyIn [.warn, .chime, .port] s (keyClick s) := postChime_only _ _ _ _ s

/-! ### Service items (06) -/

/-- The blocks that an item's change and its offer to the store reach. -/
theorem markItem_only (i s) : OnlyIn storeBlocks s (markItem i s) := by
  unfold markItem; split
  · exact (modifyItem_only _ _ s).mono (by decide)
  · exact ((modifyItem_only _ _ s).mono (by decide)).trans (offerRecord_only _ _)

theorem itemMoved_only (i k h m s) : OnlyIn storeBlocks s (itemMoved i k h m s) := by
  unfold itemMoved
  dsimp only
  exact ((modifyItem_only i _ s).mono (by decide)).trans (OnlyIn.ite (markItem_only i _) (.refl _ _))

theorem countKm_only (s i) : OnlyIn storeBlocks s (countKm s i) := by
  unfold countKm; exact OnlyIn.ite (itemMoved_only _ _ _ _ s) (.refl _ s)

theorem wholeKmMark_only (s) : OnlyIn storeBlocks s (wholeKmMark s) := OnlyIn.foldl countKm_only _ s

theorem countHours_only (s i) : OnlyIn storeBlocks s (countHours s i) := by
  unfold countHours
  split
  · exact OnlyIn.ite (itemMoved_only _ _ _ _ s) (.refl _ s)
  · exact .refl _ s

theorem countTenths_only : ∀ (n : Nat) (s : State), OnlyIn storeBlocks s (countTenths n s)
  | 0, s => .refl _ s
  | n + 1, s => (OnlyIn.foldl countHours_only itemNumbers s).trans (countTenths_only n _)

theorem runSeconds_only (d s) : OnlyIn storeBlocks s (runSeconds d s) :=
  ((only_service s _).mono (by decide)).trans (countTenths_only _ _)

theorem cursorAfterReset_only (i s) : OnlyIn [.warn, .msg, .disp, .service] s (cursorAfterReset i s) := by
  unfold cursorAfterReset
  repeat' split
  · exact setCursor_only _ s
  · exact endReminders_only s
  · exact .refl _ s

theorem resetItem_only (s i) : OnlyIn ([.warn, .msg, .disp] ++ storeBlocks) s (resetItem s i) :=
  (((modifyItem_only i _ s).mono (by decide)).trans ((markItem_only i _).mono (by decide))).trans
    ((cursorAfterReset_only i _).mono (by decide))

theorem serviceResetOp_only (i s) : OnlyIn ([.warn, .msg, .disp] ++ storeBlocks) s (serviceResetOp i s) := by
  unfold serviceResetOp; split
  · exact (OnlyIn.foldl resetItem_only _ s).trans ((postNote_only _ _ _ _ _).mono (by decide))
  · exact (resetItem_only s i).trans ((postNote_only _ _ _ _ _).mono (by decide))

/-! ### Warnings (07) -/

theorem afterEntry7_only (b a s) : OnlyIn [.fuel, .port] s (afterEntry7 b a s) := by
  unfold afterEntry7
  repeat' split
  · exact ((only_fuel s _).mono (by decide)).trans ((offerOwned_only _ _).mono (by decide))
  · exact (only_fuel s _).mono (by decide)
  · exact .refl _ s

theorem changeWarn_only (n f s) : OnlyIn [.fuel, .warn, .port] s (changeWarn n f s) := by
  unfold changeWarn; split
  · exact ((modifyWarn_only n f s).mono (by decide)).trans ((afterEntry7_only _ _ _).mono (by decide))
  · exact (modifyWarn_only n f s).mono (by decide)

theorem postWarnChime_only (n s) : OnlyIn [.warn, .chime, .port] s (postWarnChime n s) := by
  unfold postWarnChime
  split
  · rename_i pat reps _
    have h := postChime_only (.warning n) pat (warnPriority n) reps s
    split <;> rename_i e <;> rw [e] at h
    · exact h.trans ((modifyWarn_only _ _ _).mono (by decide))
    · exact h
  · exact (modifyWarn_only _ _ s).mono (by decide)

theorem postWarnMessage_only (n s) : OnlyIn [.warn, .msg, .disp, .service] s (postWarnMessage n s) := by
  have h := postMessage_only (.warning n) (.warning n) (warnPriority n) none s
  unfold postWarnMessage
  split <;> rename_i e <;> rw [e] at h
  · exact h.trans ((modifyWarn_only _ _ _).mono (by decide))
  · exact h

theorem postOutstanding_only (n s) : OnlyIn postBlocks s (postOutstanding n s) := by
  unfold postOutstanding
  dsimp only
  refine OnlyIn.trans ?_ ((modifyWarn_only _ _ _).mono (by decide))
  refine OnlyIn.trans (t := if (warnEntry s n).chimeOut then postWarnChime n s else s) ?_ ?_
  · exact OnlyIn.ite ((postWarnChime_only n s).mono (by decide)) (.refl _ s)
  · exact OnlyIn.ite ((postWarnMessage_only n _).mono (by decide)) (.refl _ _)

theorem enterActive_only (n c s) : OnlyIn warnBlocks s (enterActive n c s) := by
  unfold enterActive; split
  · exact ((changeWarn_only _ _ s).mono (by decide)).trans ((postOutstanding_only n _).mono (by decide))
  · exact (changeWarn_only _ _ s).mono (by decide)

theorem enterIdle_only (n s) : OnlyIn warnBlocks s (enterIdle n s) :=
  (((changeWarn_only _ _ s).mono (by decide)).trans ((withdrawChime_only _ _).mono (by decide))).trans
    ((removeRecord_only _ _).mono (by decide))

theorem acknowledge_only (n s) : OnlyIn warnBlocks s (acknowledge n s) := by
  unfold acknowledge
  dsimp only
  refine OnlyIn.ite ?_ (.refl _ s)
  exact (((changeWarn_only _ _ s).mono (by decide)).trans ((withdrawChime_only _ _).mono (by decide))).trans
    ((removeRecord_only _ _).mono (by decide))

theorem evaluatedTrue_only (n s) : OnlyIn warnBlocks s (evaluatedTrue n s) := by
  have change : ∀ f, OnlyIn warnBlocks s (changeWarn n f s) := fun f => (changeWarn_only n f s).mono (by decide)
  unfold evaluatedTrue returnToPrior
  dsimp only
  repeat' split
  all_goals first
    | exact .refl _ s
    | exact enterActive_only _ _ s
    | exact change _

theorem evaluatedFalse_only (n s) : OnlyIn warnBlocks s (evaluatedFalse n s) := by
  have change : ∀ f, OnlyIn warnBlocks s (changeWarn n f s) := fun f => (changeWarn_only n f s).mono (by decide)
  unfold evaluatedFalse enterClearing
  dsimp only
  repeat' split
  all_goals first
    | exact .refl _ s
    | exact enterIdle_only _ s
    | exact change _

theorem evaluate_only (s n) : OnlyIn warnBlocks s (evaluate s n) := by
  unfold evaluate
  dsimp only
  repeat' split
  all_goals first
    | exact .refl _ s
    | exact evaluatedTrue_only n s
    | exact evaluatedFalse_only n s

theorem gateEntry_only (s n) : OnlyIn warnBlocks s (gateEntry s n) := by
  unfold gateEntry; exact OnlyIn.ite (enterIdle_only n s) (.refl _ s)

theorem applyGates_only (s) : OnlyIn warnBlocks s (applyGates s) := OnlyIn.foldl gateEntry_only _ s

theorem evaluateReport_only (k s) : OnlyIn warnBlocks s (evaluateReport k s) := OnlyIn.foldl evaluate_only _ s

theorem showReview_only (n s) : OnlyIn [.warn] s (showReview n s) := by
  unfold showReview; split <;> exact only_warn s _

theorem openReview_only (s) : OnlyIn [.warn] s (openReview s) := by
  unfold openReview; split
  · exact showReview_only _ s
  · exact only_warn s _

theorem moveReview_only (s) : OnlyIn [.warn] s (moveReview s) := by
  unfold moveReview; split
  · exact showReview_only _ s
  · exact closeReview_only s
  · exact .refl _ s

end Sys2Proof.Machine
end

