-- ==== Sys2Proof/Laws/Settle.lean ====
section
/-! SUPPORT. Laws/Settle.lean: what the end of a command leaves (12 R173, 09 R140). -/

namespace Sys2Proof.Machine

variable (s : State)

/-- The image does not depend on the sleep timer. -/
theorem composeImage_sleepTimer (x : Timer) :
    composeImage { s with power := { s.power with sleepTimer := x } } = composeImage s := rfl

/-- The image does not depend on what was sent before. -/
theorem composeImage_transfer (i l : Image) (x : Option Image) (c : Bool) :
    composeImage { s with disp := { s.disp with image := i, transfer := x, changed := c, loaded := l } }
      = composeImage s := rfl

/-- Outside RUN and WATCH the image is sixteen blanks, dark, at the brightness by BODY LAMPS (09 R141). -/
theorem composeImage_quiet (h : awake s = false) :
    composeImage s = { chars := blankChars, brightness := brightness s, lit := false } := by
  have hl : displayLit s = false := by
    revert h
    unfold awake displayLit
    cases s.power.mode <;> simp
  simp only [composeImage, h, hl, Bool.false_eq_true, if_false]

/-- The sleep timer runs exactly while its conditions hold in WATCH. -/
theorem runs_settleSleep :
    runs (settleSleep s).power.sleepTimer = (decide (s.power.mode = .watch) && sleepConditions s) := by
  unfold settleSleep
  split
  · rename_i h
    split
    · rename_i k
      rw [h, k]
    · rw [h]
      rfl
  · rename_i h
    rw [Bool.not_eq_true] at h
    rw [h]
    rfl

/-- After a refresh the image is the one the state shows. -/
theorem refreshDisplay_image : (refreshDisplay s).disp.image = composeImage (refreshDisplay s) := by
  unfold refreshDisplay
  split
  · exact Eq.symm ‹_›
  · split <;> rfl

/-- A refresh changes the image, the transfer and the mark of a change alone. -/
theorem refreshDisplay_eq : refreshDisplay s = { s with disp := { s.disp with
    image := (refreshDisplay s).disp.image, transfer := (refreshDisplay s).disp.transfer,
    changed := (refreshDisplay s).disp.changed } } := by
  unfold refreshDisplay
  split
  · rfl
  · split <;> rfl

/-- Settling the sleep timer changes it alone. -/
theorem settleSleep_eq :
    settleSleep s = { s with power := { s.power with sleepTimer := (settleSleep s).power.sleepTimer } } := by
  unfold settleSleep
  split
  · split <;> rfl
  · rfl

theorem refreshDisplay_power : (refreshDisplay s).power = s.power := (refreshDisplay_only s).power (by decide)

theorem settleSleep_disp : (settleSleep s).disp = s.disp := (settleSleep_only s).disp (by decide)

/-- Every settled state is settled from the one before. -/
theorem settled_from : SettledFrom s (settled s) := by
  constructor
  · obtain ⟨x, h⟩ : ∃ x, settleSleep s = { s with power := { s.power with sleepTimer := x } } :=
      ⟨_, settleSleep_eq s⟩
    unfold settled
    rw [refreshDisplay_power, h]
    exact refreshDisplay_eq _
  · unfold settled
    rw [refreshDisplay_power]
    exact runs_settleSleep s
  · exact refreshDisplay_image _

@[simp] theorem settled_pending : (settled s).pending = s.pending := (settled_only s).pending
@[simp] theorem settled_now : (settled s).now = s.now := (settled_only s).now
@[simp] theorem settled_straps : (settled s).straps = s.straps := (settled_only s).straps (by decide)
@[simp] theorem settled_faults : (settled s).faults = s.faults := (settled_only s).faults (by decide)
@[simp] theorem settled_bus : (settled s).bus = s.bus := (settled_only s).bus (by decide)
@[simp] theorem settled_gauges : (settled s).gauges = s.gauges := (settled_only s).gauges (by decide)
@[simp] theorem settled_fuel : (settled s).fuel = s.fuel := (settled_only s).fuel (by decide)
@[simp] theorem settled_trip : (settled s).trip = s.trip := (settled_only s).trip (by decide)
@[simp] theorem settled_clock : (settled s).clock = s.clock := (settled_only s).clock (by decide)
@[simp] theorem settled_journey : (settled s).journey = s.journey := (settled_only s).journey (by decide)
@[simp] theorem settled_service : (settled s).service = s.service := (settled_only s).service (by decide)
@[simp] theorem settled_warn : (settled s).warn = s.warn := (settled_only s).warn (by decide)
@[simp] theorem settled_chime : (settled s).chime = s.chime := (settled_only s).chime (by decide)
@[simp] theorem settled_msg : (settled s).msg = s.msg := (settled_only s).msg (by decide)
@[simp] theorem settled_keys : (settled s).keys = s.keys := (settled_only s).keys (by decide)
@[simp] theorem settled_port : (settled s).port = s.port := (settled_only s).port (by decide)
@[simp] theorem settled_nsp : (settled s).nsp = s.nsp := (settled_only s).nsp (by decide)

@[simp] theorem settled_mode : (settled s).power.mode = s.power.mode :=
  congrArg (fun t => t.power.mode) (settled_from s).rest

@[simp] theorem settled_dip : (settled s).power.dip = s.power.dip :=
  congrArg (fun t => t.power.dip) (settled_from s).rest

@[simp] theorem settled_readout : (settled s).disp.readout = s.disp.readout :=
  congrArg (fun t => t.disp.readout) (settled_from s).rest

@[simp] theorem settled_setMode : (settled s).disp.setMode = s.disp.setMode :=
  congrArg (fun t => t.disp.setMode) (settled_from s).rest

end Sys2Proof.Machine
end

