-- ==== Sys2Proof/Laws/State.lean ====
section
/-! SUPPORT. Laws/State.lean: which records of the state each plain update leaves as they were, one lemma per
field, true by unfolding. The updates that choose have theirs in Laws/Touches.lean. -/

namespace Sys2Proof.Machine

variable (s : State)

/-! ### `tick` -/

@[simp] theorem tick_pending : (tick s).pending = s.pending := rfl
@[simp] theorem tick_now : (tick s).now = s.now + 1 := rfl
@[simp] theorem tick_power : (tick s).power = s.power := rfl
@[simp] theorem tick_straps : (tick s).straps = s.straps := rfl
@[simp] theorem tick_faults : (tick s).faults = s.faults := rfl
@[simp] theorem tick_bus : (tick s).bus = s.bus := rfl
@[simp] theorem tick_gauges : (tick s).gauges = { s.gauges with frame := beginFrame s.gauges } := rfl
@[simp] theorem tick_fuel : (tick s).fuel = s.fuel := rfl
@[simp] theorem tick_trip : (tick s).trip = s.trip := rfl
@[simp] theorem tick_clock : (tick s).clock = s.clock := rfl
@[simp] theorem tick_journey : (tick s).journey = s.journey := rfl
@[simp] theorem tick_service : (tick s).service = s.service := rfl
@[simp] theorem tick_warn : (tick s).warn = s.warn := rfl
@[simp] theorem tick_chime : (tick s).chime = s.chime := rfl
@[simp] theorem tick_msg : (tick s).msg = s.msg := rfl
@[simp] theorem tick_disp : (tick s).disp = s.disp := rfl
@[simp] theorem tick_keys : (tick s).keys = s.keys := rfl
@[simp] theorem tick_port : (tick s).port = s.port := rfl
@[simp] theorem tick_nsp : (tick s).nsp = s.nsp := rfl

/-! ### `dropHead` -/

@[simp] theorem dropHead_pending : (dropHead s).pending = s.pending := rfl
@[simp] theorem dropHead_now : (dropHead s).now = s.now := rfl
@[simp] theorem dropHead_power : (dropHead s).power = s.power := rfl
@[simp] theorem dropHead_straps : (dropHead s).straps = s.straps := rfl
@[simp] theorem dropHead_faults : (dropHead s).faults = s.faults := rfl
@[simp] theorem dropHead_bus : (dropHead s).bus = s.bus := rfl
@[simp] theorem dropHead_gauges : (dropHead s).gauges = s.gauges := rfl
@[simp] theorem dropHead_fuel : (dropHead s).fuel = s.fuel := rfl
@[simp] theorem dropHead_trip : (dropHead s).trip = s.trip := rfl
@[simp] theorem dropHead_clock : (dropHead s).clock = s.clock := rfl
@[simp] theorem dropHead_journey : (dropHead s).journey = s.journey := rfl
@[simp] theorem dropHead_service : (dropHead s).service = s.service := rfl
@[simp] theorem dropHead_warn : (dropHead s).warn = s.warn := rfl
@[simp] theorem dropHead_chime : (dropHead s).chime = s.chime := rfl
@[simp] theorem dropHead_msg : (dropHead s).msg = s.msg := rfl
@[simp] theorem dropHead_disp : (dropHead s).disp = s.disp := rfl
@[simp] theorem dropHead_keys : (dropHead s).keys = s.keys := rfl
@[simp] theorem dropHead_nsp : (dropHead s).nsp = s.nsp := rfl

/-! ### `noteClash` -/

@[simp] theorem noteClash_pending : (noteClash s).pending = s.pending := rfl
@[simp] theorem noteClash_now : (noteClash s).now = s.now := rfl
@[simp] theorem noteClash_power : (noteClash s).power = s.power := rfl
@[simp] theorem noteClash_straps : (noteClash s).straps = s.straps := rfl
@[simp] theorem noteClash_bus : (noteClash s).bus = s.bus := rfl
@[simp] theorem noteClash_gauges : (noteClash s).gauges = s.gauges := rfl
@[simp] theorem noteClash_fuel : (noteClash s).fuel = s.fuel := rfl
@[simp] theorem noteClash_trip : (noteClash s).trip = s.trip := rfl
@[simp] theorem noteClash_clock : (noteClash s).clock = s.clock := rfl
@[simp] theorem noteClash_journey : (noteClash s).journey = s.journey := rfl
@[simp] theorem noteClash_service : (noteClash s).service = s.service := rfl
@[simp] theorem noteClash_warn : (noteClash s).warn = s.warn := rfl
@[simp] theorem noteClash_chime : (noteClash s).chime = s.chime := rfl
@[simp] theorem noteClash_msg : (noteClash s).msg = s.msg := rfl
@[simp] theorem noteClash_disp : (noteClash s).disp = s.disp := rfl
@[simp] theorem noteClash_keys : (noteClash s).keys = s.keys := rfl
@[simp] theorem noteClash_port : (noteClash s).port = s.port := rfl
@[simp] theorem noteClash_nsp : (noteClash s).nsp = s.nsp := rfl

/-! ### `closeReview` -/

@[simp] theorem closeReview_pending : (closeReview s).pending = s.pending := rfl
@[simp] theorem closeReview_now : (closeReview s).now = s.now := rfl
@[simp] theorem closeReview_power : (closeReview s).power = s.power := rfl
@[simp] theorem closeReview_straps : (closeReview s).straps = s.straps := rfl
@[simp] theorem closeReview_faults : (closeReview s).faults = s.faults := rfl
@[simp] theorem closeReview_bus : (closeReview s).bus = s.bus := rfl
@[simp] theorem closeReview_gauges : (closeReview s).gauges = s.gauges := rfl
@[simp] theorem closeReview_fuel : (closeReview s).fuel = s.fuel := rfl
@[simp] theorem closeReview_trip : (closeReview s).trip = s.trip := rfl
@[simp] theorem closeReview_clock : (closeReview s).clock = s.clock := rfl
@[simp] theorem closeReview_journey : (closeReview s).journey = s.journey := rfl
@[simp] theorem closeReview_service : (closeReview s).service = s.service := rfl
@[simp] theorem closeReview_chime : (closeReview s).chime = s.chime := rfl
@[simp] theorem closeReview_msg : (closeReview s).msg = s.msg := rfl
@[simp] theorem closeReview_disp : (closeReview s).disp = s.disp := rfl
@[simp] theorem closeReview_keys : (closeReview s).keys = s.keys := rfl
@[simp] theorem closeReview_port : (closeReview s).port = s.port := rfl
@[simp] theorem closeReview_nsp : (closeReview s).nsp = s.nsp := rfl

/-! ### `leaveSetMode` -/

@[simp] theorem leaveSetMode_pending : (leaveSetMode s).pending = s.pending := rfl
@[simp] theorem leaveSetMode_now : (leaveSetMode s).now = s.now := rfl
@[simp] theorem leaveSetMode_power : (leaveSetMode s).power = s.power := rfl
@[simp] theorem leaveSetMode_straps : (leaveSetMode s).straps = s.straps := rfl
@[simp] theorem leaveSetMode_faults : (leaveSetMode s).faults = s.faults := rfl
@[simp] theorem leaveSetMode_bus : (leaveSetMode s).bus = s.bus := rfl
@[simp] theorem leaveSetMode_gauges : (leaveSetMode s).gauges = s.gauges := rfl
@[simp] theorem leaveSetMode_fuel : (leaveSetMode s).fuel = s.fuel := rfl
@[simp] theorem leaveSetMode_trip : (leaveSetMode s).trip = s.trip := rfl
@[simp] theorem leaveSetMode_clock : (leaveSetMode s).clock = s.clock := rfl
@[simp] theorem leaveSetMode_journey : (leaveSetMode s).journey = s.journey := rfl
@[simp] theorem leaveSetMode_service : (leaveSetMode s).service = s.service := rfl
@[simp] theorem leaveSetMode_warn : (leaveSetMode s).warn = s.warn := rfl
@[simp] theorem leaveSetMode_chime : (leaveSetMode s).chime = s.chime := rfl
@[simp] theorem leaveSetMode_msg : (leaveSetMode s).msg = s.msg := rfl
@[simp] theorem leaveSetMode_keys : (leaveSetMode s).keys = s.keys := rfl
@[simp] theorem leaveSetMode_port : (leaveSetMode s).port = s.port := rfl
@[simp] theorem leaveSetMode_nsp : (leaveSetMode s).nsp = s.nsp := rfl

/-! ### `backToWaiting` -/

@[simp] theorem backToWaiting_pending : (backToWaiting s).pending = s.pending := rfl
@[simp] theorem backToWaiting_now : (backToWaiting s).now = s.now := rfl
@[simp] theorem backToWaiting_power : (backToWaiting s).power = s.power := rfl
@[simp] theorem backToWaiting_straps : (backToWaiting s).straps = s.straps := rfl
@[simp] theorem backToWaiting_faults : (backToWaiting s).faults = s.faults := rfl
@[simp] theorem backToWaiting_bus : (backToWaiting s).bus = s.bus := rfl
@[simp] theorem backToWaiting_gauges : (backToWaiting s).gauges = s.gauges := rfl
@[simp] theorem backToWaiting_fuel : (backToWaiting s).fuel = s.fuel := rfl
@[simp] theorem backToWaiting_trip : (backToWaiting s).trip = s.trip := rfl
@[simp] theorem backToWaiting_clock : (backToWaiting s).clock = s.clock := rfl
@[simp] theorem backToWaiting_journey : (backToWaiting s).journey = s.journey := rfl
@[simp] theorem backToWaiting_service : (backToWaiting s).service = s.service := rfl
@[simp] theorem backToWaiting_warn : (backToWaiting s).warn = s.warn := rfl
@[simp] theorem backToWaiting_chime : (backToWaiting s).chime = s.chime := rfl
@[simp] theorem backToWaiting_disp : (backToWaiting s).disp = s.disp := rfl
@[simp] theorem backToWaiting_keys : (backToWaiting s).keys = s.keys := rfl
@[simp] theorem backToWaiting_port : (backToWaiting s).port = s.port := rfl
@[simp] theorem backToWaiting_nsp : (backToWaiting s).nsp = s.nsp := rfl

/-! ### `joinRecord` -/

@[simp] theorem joinRecord_pending (o : MsgOrigin) (x : Text) (p : Nat) (m : Option Nat) : (joinRecord o x p m s).pending = s.pending := rfl
@[simp] theorem joinRecord_now (o : MsgOrigin) (x : Text) (p : Nat) (m : Option Nat) : (joinRecord o x p m s).now = s.now := rfl
@[simp] theorem joinRecord_power (o : MsgOrigin) (x : Text) (p : Nat) (m : Option Nat) : (joinRecord o x p m s).power = s.power := rfl
@[simp] theorem joinRecord_straps (o : MsgOrigin) (x : Text) (p : Nat) (m : Option Nat) : (joinRecord o x p m s).straps = s.straps := rfl
@[simp] theorem joinRecord_faults (o : MsgOrigin) (x : Text) (p : Nat) (m : Option Nat) : (joinRecord o x p m s).faults = s.faults := rfl
@[simp] theorem joinRecord_bus (o : MsgOrigin) (x : Text) (p : Nat) (m : Option Nat) : (joinRecord o x p m s).bus = s.bus := rfl
@[simp] theorem joinRecord_gauges (o : MsgOrigin) (x : Text) (p : Nat) (m : Option Nat) : (joinRecord o x p m s).gauges = s.gauges := rfl
@[simp] theorem joinRecord_fuel (o : MsgOrigin) (x : Text) (p : Nat) (m : Option Nat) : (joinRecord o x p m s).fuel = s.fuel := rfl
@[simp] theorem joinRecord_trip (o : MsgOrigin) (x : Text) (p : Nat) (m : Option Nat) : (joinRecord o x p m s).trip = s.trip := rfl
@[simp] theorem joinRecord_clock (o : MsgOrigin) (x : Text) (p : Nat) (m : Option Nat) : (joinRecord o x p m s).clock = s.clock := rfl
@[simp] theorem joinRecord_journey (o : MsgOrigin) (x : Text) (p : Nat) (m : Option Nat) : (joinRecord o x p m s).journey = s.journey := rfl
@[simp] theorem joinRecord_service (o : MsgOrigin) (x : Text) (p : Nat) (m : Option Nat) : (joinRecord o x p m s).service = s.service := rfl
@[simp] theorem joinRecord_warn (o : MsgOrigin) (x : Text) (p : Nat) (m : Option Nat) : (joinRecord o x p m s).warn = s.warn := rfl
@[simp] theorem joinRecord_chime (o : MsgOrigin) (x : Text) (p : Nat) (m : Option Nat) : (joinRecord o x p m s).chime = s.chime := rfl
@[simp] theorem joinRecord_disp (o : MsgOrigin) (x : Text) (p : Nat) (m : Option Nat) : (joinRecord o x p m s).disp = s.disp := rfl
@[simp] theorem joinRecord_keys (o : MsgOrigin) (x : Text) (p : Nat) (m : Option Nat) : (joinRecord o x p m s).keys = s.keys := rfl
@[simp] theorem joinRecord_port (o : MsgOrigin) (x : Text) (p : Nat) (m : Option Nat) : (joinRecord o x p m s).port = s.port := rfl
@[simp] theorem joinRecord_nsp (o : MsgOrigin) (x : Text) (p : Nat) (m : Option Nat) : (joinRecord o x p m s).nsp = s.nsp := rfl

/-! ### `replaceRecord` -/

@[simp] theorem replaceRecord_pending (o : MsgOrigin) (x : Text) (p : Nat) (m : Option Nat) : (replaceRecord o x p m s).pending = s.pending := rfl
@[simp] theorem replaceRecord_now (o : MsgOrigin) (x : Text) (p : Nat) (m : Option Nat) : (replaceRecord o x p m s).now = s.now := rfl
@[simp] theorem replaceRecord_power (o : MsgOrigin) (x : Text) (p : Nat) (m : Option Nat) : (replaceRecord o x p m s).power = s.power := rfl
@[simp] theorem replaceRecord_straps (o : MsgOrigin) (x : Text) (p : Nat) (m : Option Nat) : (replaceRecord o x p m s).straps = s.straps := rfl
@[simp] theorem replaceRecord_faults (o : MsgOrigin) (x : Text) (p : Nat) (m : Option Nat) : (replaceRecord o x p m s).faults = s.faults := rfl
@[simp] theorem replaceRecord_bus (o : MsgOrigin) (x : Text) (p : Nat) (m : Option Nat) : (replaceRecord o x p m s).bus = s.bus := rfl
@[simp] theorem replaceRecord_gauges (o : MsgOrigin) (x : Text) (p : Nat) (m : Option Nat) : (replaceRecord o x p m s).gauges = s.gauges := rfl
@[simp] theorem replaceRecord_fuel (o : MsgOrigin) (x : Text) (p : Nat) (m : Option Nat) : (replaceRecord o x p m s).fuel = s.fuel := rfl
@[simp] theorem replaceRecord_trip (o : MsgOrigin) (x : Text) (p : Nat) (m : Option Nat) : (replaceRecord o x p m s).trip = s.trip := rfl
@[simp] theorem replaceRecord_clock (o : MsgOrigin) (x : Text) (p : Nat) (m : Option Nat) : (replaceRecord o x p m s).clock = s.clock := rfl
@[simp] theorem replaceRecord_journey (o : MsgOrigin) (x : Text) (p : Nat) (m : Option Nat) : (replaceRecord o x p m s).journey = s.journey := rfl
@[simp] theorem replaceRecord_service (o : MsgOrigin) (x : Text) (p : Nat) (m : Option Nat) : (replaceRecord o x p m s).service = s.service := rfl
@[simp] theorem replaceRecord_warn (o : MsgOrigin) (x : Text) (p : Nat) (m : Option Nat) : (replaceRecord o x p m s).warn = s.warn := rfl
@[simp] theorem replaceRecord_chime (o : MsgOrigin) (x : Text) (p : Nat) (m : Option Nat) : (replaceRecord o x p m s).chime = s.chime := rfl
@[simp] theorem replaceRecord_disp (o : MsgOrigin) (x : Text) (p : Nat) (m : Option Nat) : (replaceRecord o x p m s).disp = s.disp := rfl
@[simp] theorem replaceRecord_keys (o : MsgOrigin) (x : Text) (p : Nat) (m : Option Nat) : (replaceRecord o x p m s).keys = s.keys := rfl
@[simp] theorem replaceRecord_port (o : MsgOrigin) (x : Text) (p : Nat) (m : Option Nat) : (replaceRecord o x p m s).port = s.port := rfl
@[simp] theorem replaceRecord_nsp (o : MsgOrigin) (x : Text) (p : Nat) (m : Option Nat) : (replaceRecord o x p m s).nsp = s.nsp := rfl

/-! ### `dropRecord` -/

@[simp] theorem dropRecord_pending (o : MsgOrigin) : (dropRecord o s).pending = s.pending := rfl
@[simp] theorem dropRecord_now (o : MsgOrigin) : (dropRecord o s).now = s.now := rfl
@[simp] theorem dropRecord_power (o : MsgOrigin) : (dropRecord o s).power = s.power := rfl
@[simp] theorem dropRecord_straps (o : MsgOrigin) : (dropRecord o s).straps = s.straps := rfl
@[simp] theorem dropRecord_faults (o : MsgOrigin) : (dropRecord o s).faults = s.faults := rfl
@[simp] theorem dropRecord_bus (o : MsgOrigin) : (dropRecord o s).bus = s.bus := rfl
@[simp] theorem dropRecord_gauges (o : MsgOrigin) : (dropRecord o s).gauges = s.gauges := rfl
@[simp] theorem dropRecord_fuel (o : MsgOrigin) : (dropRecord o s).fuel = s.fuel := rfl
@[simp] theorem dropRecord_trip (o : MsgOrigin) : (dropRecord o s).trip = s.trip := rfl
@[simp] theorem dropRecord_clock (o : MsgOrigin) : (dropRecord o s).clock = s.clock := rfl
@[simp] theorem dropRecord_journey (o : MsgOrigin) : (dropRecord o s).journey = s.journey := rfl
@[simp] theorem dropRecord_service (o : MsgOrigin) : (dropRecord o s).service = s.service := rfl
@[simp] theorem dropRecord_warn (o : MsgOrigin) : (dropRecord o s).warn = s.warn := rfl
@[simp] theorem dropRecord_chime (o : MsgOrigin) : (dropRecord o s).chime = s.chime := rfl
@[simp] theorem dropRecord_disp (o : MsgOrigin) : (dropRecord o s).disp = s.disp := rfl
@[simp] theorem dropRecord_keys (o : MsgOrigin) : (dropRecord o s).keys = s.keys := rfl
@[simp] theorem dropRecord_port (o : MsgOrigin) : (dropRecord o s).port = s.port := rfl
@[simp] theorem dropRecord_nsp (o : MsgOrigin) : (dropRecord o s).nsp = s.nsp := rfl

/-! ### `emptyMessages` -/

@[simp] theorem emptyMessages_pending : (emptyMessages s).pending = s.pending := rfl
@[simp] theorem emptyMessages_now : (emptyMessages s).now = s.now := rfl
@[simp] theorem emptyMessages_power : (emptyMessages s).power = s.power := rfl
@[simp] theorem emptyMessages_straps : (emptyMessages s).straps = s.straps := rfl
@[simp] theorem emptyMessages_faults : (emptyMessages s).faults = s.faults := rfl
@[simp] theorem emptyMessages_bus : (emptyMessages s).bus = s.bus := rfl
@[simp] theorem emptyMessages_gauges : (emptyMessages s).gauges = s.gauges := rfl
@[simp] theorem emptyMessages_fuel : (emptyMessages s).fuel = s.fuel := rfl
@[simp] theorem emptyMessages_trip : (emptyMessages s).trip = s.trip := rfl
@[simp] theorem emptyMessages_clock : (emptyMessages s).clock = s.clock := rfl
@[simp] theorem emptyMessages_journey : (emptyMessages s).journey = s.journey := rfl
@[simp] theorem emptyMessages_service : (emptyMessages s).service = s.service := rfl
@[simp] theorem emptyMessages_warn : (emptyMessages s).warn = s.warn := rfl
@[simp] theorem emptyMessages_chime : (emptyMessages s).chime = s.chime := rfl
@[simp] theorem emptyMessages_disp : (emptyMessages s).disp = s.disp := rfl
@[simp] theorem emptyMessages_keys : (emptyMessages s).keys = s.keys := rfl
@[simp] theorem emptyMessages_port : (emptyMessages s).port = s.port := rfl
@[simp] theorem emptyMessages_nsp : (emptyMessages s).nsp = s.nsp := rfl

/-! ### `releaseOutput` -/

@[simp] theorem releaseOutput_pending : (releaseOutput s).pending = s.pending := rfl
@[simp] theorem releaseOutput_now : (releaseOutput s).now = s.now := rfl
@[simp] theorem releaseOutput_power : (releaseOutput s).power = s.power := rfl
@[simp] theorem releaseOutput_straps : (releaseOutput s).straps = s.straps := rfl
@[simp] theorem releaseOutput_faults : (releaseOutput s).faults = s.faults := rfl
@[simp] theorem releaseOutput_bus : (releaseOutput s).bus = s.bus := rfl
@[simp] theorem releaseOutput_gauges : (releaseOutput s).gauges = s.gauges := rfl
@[simp] theorem releaseOutput_fuel : (releaseOutput s).fuel = s.fuel := rfl
@[simp] theorem releaseOutput_trip : (releaseOutput s).trip = s.trip := rfl
@[simp] theorem releaseOutput_clock : (releaseOutput s).clock = s.clock := rfl
@[simp] theorem releaseOutput_journey : (releaseOutput s).journey = s.journey := rfl
@[simp] theorem releaseOutput_service : (releaseOutput s).service = s.service := rfl
@[simp] theorem releaseOutput_warn : (releaseOutput s).warn = s.warn := rfl
@[simp] theorem releaseOutput_msg : (releaseOutput s).msg = s.msg := rfl
@[simp] theorem releaseOutput_disp : (releaseOutput s).disp = s.disp := rfl
@[simp] theorem releaseOutput_keys : (releaseOutput s).keys = s.keys := rfl
@[simp] theorem releaseOutput_port : (releaseOutput s).port = s.port := rfl
@[simp] theorem releaseOutput_nsp : (releaseOutput s).nsp = s.nsp := rfl

/-! ### `startSounding` -/

@[simp] theorem startSounding_pending (r : ChimeRequest) : (startSounding r s).pending = s.pending := rfl
@[simp] theorem startSounding_now (r : ChimeRequest) : (startSounding r s).now = s.now := rfl
@[simp] theorem startSounding_power (r : ChimeRequest) : (startSounding r s).power = s.power := rfl
@[simp] theorem startSounding_straps (r : ChimeRequest) : (startSounding r s).straps = s.straps := rfl
@[simp] theorem startSounding_faults (r : ChimeRequest) : (startSounding r s).faults = s.faults := rfl
@[simp] theorem startSounding_bus (r : ChimeRequest) : (startSounding r s).bus = s.bus := rfl
@[simp] theorem startSounding_gauges (r : ChimeRequest) : (startSounding r s).gauges = s.gauges := rfl
@[simp] theorem startSounding_fuel (r : ChimeRequest) : (startSounding r s).fuel = s.fuel := rfl
@[simp] theorem startSounding_trip (r : ChimeRequest) : (startSounding r s).trip = s.trip := rfl
@[simp] theorem startSounding_clock (r : ChimeRequest) : (startSounding r s).clock = s.clock := rfl
@[simp] theorem startSounding_journey (r : ChimeRequest) : (startSounding r s).journey = s.journey := rfl
@[simp] theorem startSounding_service (r : ChimeRequest) : (startSounding r s).service = s.service := rfl
@[simp] theorem startSounding_warn (r : ChimeRequest) : (startSounding r s).warn = s.warn := rfl
@[simp] theorem startSounding_msg (r : ChimeRequest) : (startSounding r s).msg = s.msg := rfl
@[simp] theorem startSounding_disp (r : ChimeRequest) : (startSounding r s).disp = s.disp := rfl
@[simp] theorem startSounding_keys (r : ChimeRequest) : (startSounding r s).keys = s.keys := rfl
@[simp] theorem startSounding_port (r : ChimeRequest) : (startSounding r s).port = s.port := rfl
@[simp] theorem startSounding_nsp (r : ChimeRequest) : (startSounding r s).nsp = s.nsp := rfl

/-! ### `joinRequest` -/

@[simp] theorem joinRequest_pending (c : ChimeSource) (x : ChimePattern) (p n : Nat) : (joinRequest c x p n s).pending = s.pending := rfl
@[simp] theorem joinRequest_now (c : ChimeSource) (x : ChimePattern) (p n : Nat) : (joinRequest c x p n s).now = s.now := rfl
@[simp] theorem joinRequest_power (c : ChimeSource) (x : ChimePattern) (p n : Nat) : (joinRequest c x p n s).power = s.power := rfl
@[simp] theorem joinRequest_straps (c : ChimeSource) (x : ChimePattern) (p n : Nat) : (joinRequest c x p n s).straps = s.straps := rfl
@[simp] theorem joinRequest_faults (c : ChimeSource) (x : ChimePattern) (p n : Nat) : (joinRequest c x p n s).faults = s.faults := rfl
@[simp] theorem joinRequest_bus (c : ChimeSource) (x : ChimePattern) (p n : Nat) : (joinRequest c x p n s).bus = s.bus := rfl
@[simp] theorem joinRequest_gauges (c : ChimeSource) (x : ChimePattern) (p n : Nat) : (joinRequest c x p n s).gauges = s.gauges := rfl
@[simp] theorem joinRequest_fuel (c : ChimeSource) (x : ChimePattern) (p n : Nat) : (joinRequest c x p n s).fuel = s.fuel := rfl
@[simp] theorem joinRequest_trip (c : ChimeSource) (x : ChimePattern) (p n : Nat) : (joinRequest c x p n s).trip = s.trip := rfl
@[simp] theorem joinRequest_clock (c : ChimeSource) (x : ChimePattern) (p n : Nat) : (joinRequest c x p n s).clock = s.clock := rfl
@[simp] theorem joinRequest_journey (c : ChimeSource) (x : ChimePattern) (p n : Nat) : (joinRequest c x p n s).journey = s.journey := rfl
@[simp] theorem joinRequest_service (c : ChimeSource) (x : ChimePattern) (p n : Nat) : (joinRequest c x p n s).service = s.service := rfl
@[simp] theorem joinRequest_warn (c : ChimeSource) (x : ChimePattern) (p n : Nat) : (joinRequest c x p n s).warn = s.warn := rfl
@[simp] theorem joinRequest_msg (c : ChimeSource) (x : ChimePattern) (p n : Nat) : (joinRequest c x p n s).msg = s.msg := rfl
@[simp] theorem joinRequest_disp (c : ChimeSource) (x : ChimePattern) (p n : Nat) : (joinRequest c x p n s).disp = s.disp := rfl
@[simp] theorem joinRequest_keys (c : ChimeSource) (x : ChimePattern) (p n : Nat) : (joinRequest c x p n s).keys = s.keys := rfl
@[simp] theorem joinRequest_port (c : ChimeSource) (x : ChimePattern) (p n : Nat) : (joinRequest c x p n s).port = s.port := rfl
@[simp] theorem joinRequest_nsp (c : ChimeSource) (x : ChimePattern) (p n : Nat) : (joinRequest c x p n s).nsp = s.nsp := rfl

/-! ### `countRepetition` -/

@[simp] theorem countRepetition_pending (c : ChimeSource) : (countRepetition c s).pending = s.pending := rfl
@[simp] theorem countRepetition_now (c : ChimeSource) : (countRepetition c s).now = s.now := rfl
@[simp] theorem countRepetition_power (c : ChimeSource) : (countRepetition c s).power = s.power := rfl
@[simp] theorem countRepetition_straps (c : ChimeSource) : (countRepetition c s).straps = s.straps := rfl
@[simp] theorem countRepetition_faults (c : ChimeSource) : (countRepetition c s).faults = s.faults := rfl
@[simp] theorem countRepetition_bus (c : ChimeSource) : (countRepetition c s).bus = s.bus := rfl
@[simp] theorem countRepetition_gauges (c : ChimeSource) : (countRepetition c s).gauges = s.gauges := rfl
@[simp] theorem countRepetition_fuel (c : ChimeSource) : (countRepetition c s).fuel = s.fuel := rfl
@[simp] theorem countRepetition_trip (c : ChimeSource) : (countRepetition c s).trip = s.trip := rfl
@[simp] theorem countRepetition_clock (c : ChimeSource) : (countRepetition c s).clock = s.clock := rfl
@[simp] theorem countRepetition_journey (c : ChimeSource) : (countRepetition c s).journey = s.journey := rfl
@[simp] theorem countRepetition_service (c : ChimeSource) : (countRepetition c s).service = s.service := rfl
@[simp] theorem countRepetition_warn (c : ChimeSource) : (countRepetition c s).warn = s.warn := rfl
@[simp] theorem countRepetition_msg (c : ChimeSource) : (countRepetition c s).msg = s.msg := rfl
@[simp] theorem countRepetition_disp (c : ChimeSource) : (countRepetition c s).disp = s.disp := rfl
@[simp] theorem countRepetition_keys (c : ChimeSource) : (countRepetition c s).keys = s.keys := rfl
@[simp] theorem countRepetition_port (c : ChimeSource) : (countRepetition c s).port = s.port := rfl
@[simp] theorem countRepetition_nsp (c : ChimeSource) : (countRepetition c s).nsp = s.nsp := rfl

/-! ### `restartBlink` -/

@[simp] theorem restartBlink_pending : (restartBlink s).pending = s.pending := rfl
@[simp] theorem restartBlink_now : (restartBlink s).now = s.now := rfl
@[simp] theorem restartBlink_power : (restartBlink s).power = s.power := rfl
@[simp] theorem restartBlink_straps : (restartBlink s).straps = s.straps := rfl
@[simp] theorem restartBlink_faults : (restartBlink s).faults = s.faults := rfl
@[simp] theorem restartBlink_bus : (restartBlink s).bus = s.bus := rfl
@[simp] theorem restartBlink_gauges : (restartBlink s).gauges = s.gauges := rfl
@[simp] theorem restartBlink_fuel : (restartBlink s).fuel = s.fuel := rfl
@[simp] theorem restartBlink_trip : (restartBlink s).trip = s.trip := rfl
@[simp] theorem restartBlink_clock : (restartBlink s).clock = s.clock := rfl
@[simp] theorem restartBlink_journey : (restartBlink s).journey = s.journey := rfl
@[simp] theorem restartBlink_service : (restartBlink s).service = s.service := rfl
@[simp] theorem restartBlink_warn : (restartBlink s).warn = s.warn := rfl
@[simp] theorem restartBlink_chime : (restartBlink s).chime = s.chime := rfl
@[simp] theorem restartBlink_msg : (restartBlink s).msg = s.msg := rfl
@[simp] theorem restartBlink_keys : (restartBlink s).keys = s.keys := rfl
@[simp] theorem restartBlink_port : (restartBlink s).port = s.port := rfl
@[simp] theorem restartBlink_nsp : (restartBlink s).nsp = s.nsp := rfl

/-! ### `setModeTo` -/

@[simp] theorem setModeTo_pending (m : SetMode) : (setModeTo m s).pending = s.pending := rfl
@[simp] theorem setModeTo_now (m : SetMode) : (setModeTo m s).now = s.now := rfl
@[simp] theorem setModeTo_power (m : SetMode) : (setModeTo m s).power = s.power := rfl
@[simp] theorem setModeTo_straps (m : SetMode) : (setModeTo m s).straps = s.straps := rfl
@[simp] theorem setModeTo_faults (m : SetMode) : (setModeTo m s).faults = s.faults := rfl
@[simp] theorem setModeTo_bus (m : SetMode) : (setModeTo m s).bus = s.bus := rfl
@[simp] theorem setModeTo_gauges (m : SetMode) : (setModeTo m s).gauges = s.gauges := rfl
@[simp] theorem setModeTo_fuel (m : SetMode) : (setModeTo m s).fuel = s.fuel := rfl
@[simp] theorem setModeTo_trip (m : SetMode) : (setModeTo m s).trip = s.trip := rfl
@[simp] theorem setModeTo_clock (m : SetMode) : (setModeTo m s).clock = s.clock := rfl
@[simp] theorem setModeTo_journey (m : SetMode) : (setModeTo m s).journey = s.journey := rfl
@[simp] theorem setModeTo_service (m : SetMode) : (setModeTo m s).service = s.service := rfl
@[simp] theorem setModeTo_warn (m : SetMode) : (setModeTo m s).warn = s.warn := rfl
@[simp] theorem setModeTo_chime (m : SetMode) : (setModeTo m s).chime = s.chime := rfl
@[simp] theorem setModeTo_msg (m : SetMode) : (setModeTo m s).msg = s.msg := rfl
@[simp] theorem setModeTo_keys (m : SetMode) : (setModeTo m s).keys = s.keys := rfl
@[simp] theorem setModeTo_port (m : SetMode) : (setModeTo m s).port = s.port := rfl
@[simp] theorem setModeTo_nsp (m : SetMode) : (setModeTo m s).nsp = s.nsp := rfl

/-! ### `blink` -/

@[simp] theorem blink_pending : (blink s).pending = s.pending := rfl
@[simp] theorem blink_now : (blink s).now = s.now := rfl
@[simp] theorem blink_power : (blink s).power = s.power := rfl
@[simp] theorem blink_straps : (blink s).straps = s.straps := rfl
@[simp] theorem blink_faults : (blink s).faults = s.faults := rfl
@[simp] theorem blink_bus : (blink s).bus = s.bus := rfl
@[simp] theorem blink_gauges : (blink s).gauges = s.gauges := rfl
@[simp] theorem blink_fuel : (blink s).fuel = s.fuel := rfl
@[simp] theorem blink_trip : (blink s).trip = s.trip := rfl
@[simp] theorem blink_clock : (blink s).clock = s.clock := rfl
@[simp] theorem blink_journey : (blink s).journey = s.journey := rfl
@[simp] theorem blink_service : (blink s).service = s.service := rfl
@[simp] theorem blink_warn : (blink s).warn = s.warn := rfl
@[simp] theorem blink_chime : (blink s).chime = s.chime := rfl
@[simp] theorem blink_msg : (blink s).msg = s.msg := rfl
@[simp] theorem blink_keys : (blink s).keys = s.keys := rfl
@[simp] theorem blink_port : (blink s).port = s.port := rfl
@[simp] theorem blink_nsp : (blink s).nsp = s.nsp := rfl

/-! ### `alternate` -/

@[simp] theorem alternate_pending : (alternate s).pending = s.pending := rfl
@[simp] theorem alternate_now : (alternate s).now = s.now := rfl
@[simp] theorem alternate_power : (alternate s).power = s.power := rfl
@[simp] theorem alternate_straps : (alternate s).straps = s.straps := rfl
@[simp] theorem alternate_faults : (alternate s).faults = s.faults := rfl
@[simp] theorem alternate_bus : (alternate s).bus = s.bus := rfl
@[simp] theorem alternate_gauges : (alternate s).gauges = s.gauges := rfl
@[simp] theorem alternate_fuel : (alternate s).fuel = s.fuel := rfl
@[simp] theorem alternate_trip : (alternate s).trip = s.trip := rfl
@[simp] theorem alternate_clock : (alternate s).clock = s.clock := rfl
@[simp] theorem alternate_journey : (alternate s).journey = s.journey := rfl
@[simp] theorem alternate_service : (alternate s).service = s.service := rfl
@[simp] theorem alternate_warn : (alternate s).warn = s.warn := rfl
@[simp] theorem alternate_chime : (alternate s).chime = s.chime := rfl
@[simp] theorem alternate_msg : (alternate s).msg = s.msg := rfl
@[simp] theorem alternate_keys : (alternate s).keys = s.keys := rfl
@[simp] theorem alternate_port : (alternate s).port = s.port := rfl
@[simp] theorem alternate_nsp : (alternate s).nsp = s.nsp := rfl

/-! ### `holdKey` -/

@[simp] theorem holdKey_pending (k : Key) (v : KeyState) : (holdKey k v s).pending = s.pending := rfl
@[simp] theorem holdKey_now (k : Key) (v : KeyState) : (holdKey k v s).now = s.now := rfl
@[simp] theorem holdKey_power (k : Key) (v : KeyState) : (holdKey k v s).power = s.power := rfl
@[simp] theorem holdKey_straps (k : Key) (v : KeyState) : (holdKey k v s).straps = s.straps := rfl
@[simp] theorem holdKey_faults (k : Key) (v : KeyState) : (holdKey k v s).faults = s.faults := rfl
@[simp] theorem holdKey_bus (k : Key) (v : KeyState) : (holdKey k v s).bus = s.bus := rfl
@[simp] theorem holdKey_gauges (k : Key) (v : KeyState) : (holdKey k v s).gauges = s.gauges := rfl
@[simp] theorem holdKey_fuel (k : Key) (v : KeyState) : (holdKey k v s).fuel = s.fuel := rfl
@[simp] theorem holdKey_trip (k : Key) (v : KeyState) : (holdKey k v s).trip = s.trip := rfl
@[simp] theorem holdKey_clock (k : Key) (v : KeyState) : (holdKey k v s).clock = s.clock := rfl
@[simp] theorem holdKey_journey (k : Key) (v : KeyState) : (holdKey k v s).journey = s.journey := rfl
@[simp] theorem holdKey_service (k : Key) (v : KeyState) : (holdKey k v s).service = s.service := rfl
@[simp] theorem holdKey_warn (k : Key) (v : KeyState) : (holdKey k v s).warn = s.warn := rfl
@[simp] theorem holdKey_chime (k : Key) (v : KeyState) : (holdKey k v s).chime = s.chime := rfl
@[simp] theorem holdKey_msg (k : Key) (v : KeyState) : (holdKey k v s).msg = s.msg := rfl
@[simp] theorem holdKey_disp (k : Key) (v : KeyState) : (holdKey k v s).disp = s.disp := rfl
@[simp] theorem holdKey_port (k : Key) (v : KeyState) : (holdKey k v s).port = s.port := rfl
@[simp] theorem holdKey_nsp (k : Key) (v : KeyState) : (holdKey k v s).nsp = s.nsp := rfl

/-! ### `setClock` -/

@[simp] theorem setClock_pending (m : Nat) : (setClock m s).pending = s.pending := rfl
@[simp] theorem setClock_now (m : Nat) : (setClock m s).now = s.now := rfl
@[simp] theorem setClock_power (m : Nat) : (setClock m s).power = s.power := rfl
@[simp] theorem setClock_straps (m : Nat) : (setClock m s).straps = s.straps := rfl
@[simp] theorem setClock_faults (m : Nat) : (setClock m s).faults = s.faults := rfl
@[simp] theorem setClock_bus (m : Nat) : (setClock m s).bus = s.bus := rfl
@[simp] theorem setClock_gauges (m : Nat) : (setClock m s).gauges = s.gauges := rfl
@[simp] theorem setClock_fuel (m : Nat) : (setClock m s).fuel = s.fuel := rfl
@[simp] theorem setClock_trip (m : Nat) : (setClock m s).trip = s.trip := rfl
@[simp] theorem setClock_journey (m : Nat) : (setClock m s).journey = s.journey := rfl
@[simp] theorem setClock_service (m : Nat) : (setClock m s).service = s.service := rfl
@[simp] theorem setClock_warn (m : Nat) : (setClock m s).warn = s.warn := rfl
@[simp] theorem setClock_chime (m : Nat) : (setClock m s).chime = s.chime := rfl
@[simp] theorem setClock_msg (m : Nat) : (setClock m s).msg = s.msg := rfl
@[simp] theorem setClock_disp (m : Nat) : (setClock m s).disp = s.disp := rfl
@[simp] theorem setClock_keys (m : Nat) : (setClock m s).keys = s.keys := rfl
@[simp] theorem setClock_port (m : Nat) : (setClock m s).port = s.port := rfl
@[simp] theorem setClock_nsp (m : Nat) : (setClock m s).nsp = s.nsp := rfl

/-! ### `secondPeriod` -/

@[simp] theorem secondPeriod_pending : (secondPeriod s).pending = s.pending := rfl
@[simp] theorem secondPeriod_now : (secondPeriod s).now = s.now := rfl
@[simp] theorem secondPeriod_power : (secondPeriod s).power = s.power := rfl
@[simp] theorem secondPeriod_straps : (secondPeriod s).straps = s.straps := rfl
@[simp] theorem secondPeriod_faults : (secondPeriod s).faults = s.faults := rfl
@[simp] theorem secondPeriod_bus : (secondPeriod s).bus = s.bus := rfl
@[simp] theorem secondPeriod_gauges : (secondPeriod s).gauges = s.gauges := rfl
@[simp] theorem secondPeriod_fuel : (secondPeriod s).fuel = s.fuel := rfl
@[simp] theorem secondPeriod_clock : (secondPeriod s).clock = s.clock := rfl
@[simp] theorem secondPeriod_journey : (secondPeriod s).journey = s.journey := rfl
@[simp] theorem secondPeriod_service : (secondPeriod s).service = s.service := rfl
@[simp] theorem secondPeriod_warn : (secondPeriod s).warn = s.warn := rfl
@[simp] theorem secondPeriod_chime : (secondPeriod s).chime = s.chime := rfl
@[simp] theorem secondPeriod_msg : (secondPeriod s).msg = s.msg := rfl
@[simp] theorem secondPeriod_disp : (secondPeriod s).disp = s.disp := rfl
@[simp] theorem secondPeriod_keys : (secondPeriod s).keys = s.keys := rfl
@[simp] theorem secondPeriod_port : (secondPeriod s).port = s.port := rfl
@[simp] theorem secondPeriod_nsp : (secondPeriod s).nsp = s.nsp := rfl

/-! ### `takeSample` -/

@[simp] theorem takeSample_pending : (takeSample s).pending = s.pending := rfl
@[simp] theorem takeSample_now : (takeSample s).now = s.now := rfl
@[simp] theorem takeSample_power : (takeSample s).power = s.power := rfl
@[simp] theorem takeSample_straps : (takeSample s).straps = s.straps := rfl
@[simp] theorem takeSample_faults : (takeSample s).faults = s.faults := rfl
@[simp] theorem takeSample_bus : (takeSample s).bus = s.bus := rfl
@[simp] theorem takeSample_gauges : (takeSample s).gauges = s.gauges := rfl
@[simp] theorem takeSample_fuel : (takeSample s).fuel = s.fuel := rfl
@[simp] theorem takeSample_clock : (takeSample s).clock = s.clock := rfl
@[simp] theorem takeSample_journey : (takeSample s).journey = s.journey := rfl
@[simp] theorem takeSample_service : (takeSample s).service = s.service := rfl
@[simp] theorem takeSample_warn : (takeSample s).warn = s.warn := rfl
@[simp] theorem takeSample_chime : (takeSample s).chime = s.chime := rfl
@[simp] theorem takeSample_msg : (takeSample s).msg = s.msg := rfl
@[simp] theorem takeSample_disp : (takeSample s).disp = s.disp := rfl
@[simp] theorem takeSample_keys : (takeSample s).keys = s.keys := rfl
@[simp] theorem takeSample_port : (takeSample s).port = s.port := rfl
@[simp] theorem takeSample_nsp : (takeSample s).nsp = s.nsp := rfl

/-! ### `tripsStep` -/

@[simp] theorem tripsStep_pending : (tripsStep s).pending = s.pending := rfl
@[simp] theorem tripsStep_now : (tripsStep s).now = s.now := rfl
@[simp] theorem tripsStep_power : (tripsStep s).power = s.power := rfl
@[simp] theorem tripsStep_straps : (tripsStep s).straps = s.straps := rfl
@[simp] theorem tripsStep_faults : (tripsStep s).faults = s.faults := rfl
@[simp] theorem tripsStep_bus : (tripsStep s).bus = s.bus := rfl
@[simp] theorem tripsStep_gauges : (tripsStep s).gauges = s.gauges := rfl
@[simp] theorem tripsStep_fuel : (tripsStep s).fuel = s.fuel := rfl
@[simp] theorem tripsStep_clock : (tripsStep s).clock = s.clock := rfl
@[simp] theorem tripsStep_journey : (tripsStep s).journey = s.journey := rfl
@[simp] theorem tripsStep_service : (tripsStep s).service = s.service := rfl
@[simp] theorem tripsStep_warn : (tripsStep s).warn = s.warn := rfl
@[simp] theorem tripsStep_chime : (tripsStep s).chime = s.chime := rfl
@[simp] theorem tripsStep_msg : (tripsStep s).msg = s.msg := rfl
@[simp] theorem tripsStep_disp : (tripsStep s).disp = s.disp := rfl
@[simp] theorem tripsStep_keys : (tripsStep s).keys = s.keys := rfl
@[simp] theorem tripsStep_port : (tripsStep s).port = s.port := rfl
@[simp] theorem tripsStep_nsp : (tripsStep s).nsp = s.nsp := rfl

/-! ### `modifyJourney` -/

@[simp] theorem modifyJourney_pending (f : Journey → Journey) : (modifyJourney f s).pending = s.pending := rfl
@[simp] theorem modifyJourney_now (f : Journey → Journey) : (modifyJourney f s).now = s.now := rfl
@[simp] theorem modifyJourney_power (f : Journey → Journey) : (modifyJourney f s).power = s.power := rfl
@[simp] theorem modifyJourney_straps (f : Journey → Journey) : (modifyJourney f s).straps = s.straps := rfl
@[simp] theorem modifyJourney_faults (f : Journey → Journey) : (modifyJourney f s).faults = s.faults := rfl
@[simp] theorem modifyJourney_bus (f : Journey → Journey) : (modifyJourney f s).bus = s.bus := rfl
@[simp] theorem modifyJourney_gauges (f : Journey → Journey) : (modifyJourney f s).gauges = s.gauges := rfl
@[simp] theorem modifyJourney_fuel (f : Journey → Journey) : (modifyJourney f s).fuel = s.fuel := rfl
@[simp] theorem modifyJourney_trip (f : Journey → Journey) : (modifyJourney f s).trip = s.trip := rfl
@[simp] theorem modifyJourney_clock (f : Journey → Journey) : (modifyJourney f s).clock = s.clock := rfl
@[simp] theorem modifyJourney_service (f : Journey → Journey) : (modifyJourney f s).service = s.service := rfl
@[simp] theorem modifyJourney_warn (f : Journey → Journey) : (modifyJourney f s).warn = s.warn := rfl
@[simp] theorem modifyJourney_chime (f : Journey → Journey) : (modifyJourney f s).chime = s.chime := rfl
@[simp] theorem modifyJourney_msg (f : Journey → Journey) : (modifyJourney f s).msg = s.msg := rfl
@[simp] theorem modifyJourney_disp (f : Journey → Journey) : (modifyJourney f s).disp = s.disp := rfl
@[simp] theorem modifyJourney_keys (f : Journey → Journey) : (modifyJourney f s).keys = s.keys := rfl
@[simp] theorem modifyJourney_port (f : Journey → Journey) : (modifyJourney f s).port = s.port := rfl
@[simp] theorem modifyJourney_nsp (f : Journey → Journey) : (modifyJourney f s).nsp = s.nsp := rfl

/-! ### `clearPump` -/

@[simp] theorem clearPump_pending : (clearPump s).pending = s.pending := rfl
@[simp] theorem clearPump_now : (clearPump s).now = s.now := rfl
@[simp] theorem clearPump_power : (clearPump s).power = s.power := rfl
@[simp] theorem clearPump_straps : (clearPump s).straps = s.straps := rfl
@[simp] theorem clearPump_faults : (clearPump s).faults = s.faults := rfl
@[simp] theorem clearPump_bus : (clearPump s).bus = s.bus := rfl
@[simp] theorem clearPump_gauges : (clearPump s).gauges = s.gauges := rfl
@[simp] theorem clearPump_trip : (clearPump s).trip = s.trip := rfl
@[simp] theorem clearPump_clock : (clearPump s).clock = s.clock := rfl
@[simp] theorem clearPump_journey : (clearPump s).journey = s.journey := rfl
@[simp] theorem clearPump_service : (clearPump s).service = s.service := rfl
@[simp] theorem clearPump_warn : (clearPump s).warn = s.warn := rfl
@[simp] theorem clearPump_chime : (clearPump s).chime = s.chime := rfl
@[simp] theorem clearPump_msg : (clearPump s).msg = s.msg := rfl
@[simp] theorem clearPump_disp : (clearPump s).disp = s.disp := rfl
@[simp] theorem clearPump_keys : (clearPump s).keys = s.keys := rfl
@[simp] theorem clearPump_port : (clearPump s).port = s.port := rfl
@[simp] theorem clearPump_nsp : (clearPump s).nsp = s.nsp := rfl

/-! ### `clearStandstill` -/

@[simp] theorem clearStandstill_pending : (clearStandstill s).pending = s.pending := rfl
@[simp] theorem clearStandstill_now : (clearStandstill s).now = s.now := rfl
@[simp] theorem clearStandstill_power : (clearStandstill s).power = s.power := rfl
@[simp] theorem clearStandstill_straps : (clearStandstill s).straps = s.straps := rfl
@[simp] theorem clearStandstill_faults : (clearStandstill s).faults = s.faults := rfl
@[simp] theorem clearStandstill_bus : (clearStandstill s).bus = s.bus := rfl
@[simp] theorem clearStandstill_gauges : (clearStandstill s).gauges = s.gauges := rfl
@[simp] theorem clearStandstill_trip : (clearStandstill s).trip = s.trip := rfl
@[simp] theorem clearStandstill_clock : (clearStandstill s).clock = s.clock := rfl
@[simp] theorem clearStandstill_journey : (clearStandstill s).journey = s.journey := rfl
@[simp] theorem clearStandstill_service : (clearStandstill s).service = s.service := rfl
@[simp] theorem clearStandstill_warn : (clearStandstill s).warn = s.warn := rfl
@[simp] theorem clearStandstill_chime : (clearStandstill s).chime = s.chime := rfl
@[simp] theorem clearStandstill_msg : (clearStandstill s).msg = s.msg := rfl
@[simp] theorem clearStandstill_disp : (clearStandstill s).disp = s.disp := rfl
@[simp] theorem clearStandstill_keys : (clearStandstill s).keys = s.keys := rfl
@[simp] theorem clearStandstill_port : (clearStandstill s).port = s.port := rfl
@[simp] theorem clearStandstill_nsp : (clearStandstill s).nsp = s.nsp := rfl

/-! ### `stepChannels` -/

@[simp] theorem stepChannels_pending : (stepChannels s).pending = s.pending := rfl
@[simp] theorem stepChannels_now : (stepChannels s).now = s.now := rfl
@[simp] theorem stepChannels_power : (stepChannels s).power = s.power := rfl
@[simp] theorem stepChannels_straps : (stepChannels s).straps = s.straps := rfl
@[simp] theorem stepChannels_faults : (stepChannels s).faults = s.faults := rfl
@[simp] theorem stepChannels_bus : (stepChannels s).bus = s.bus := rfl
@[simp] theorem stepChannels_fuel : (stepChannels s).fuel = s.fuel := rfl
@[simp] theorem stepChannels_trip : (stepChannels s).trip = s.trip := rfl
@[simp] theorem stepChannels_clock : (stepChannels s).clock = s.clock := rfl
@[simp] theorem stepChannels_journey : (stepChannels s).journey = s.journey := rfl
@[simp] theorem stepChannels_service : (stepChannels s).service = s.service := rfl
@[simp] theorem stepChannels_warn : (stepChannels s).warn = s.warn := rfl
@[simp] theorem stepChannels_chime : (stepChannels s).chime = s.chime := rfl
@[simp] theorem stepChannels_msg : (stepChannels s).msg = s.msg := rfl
@[simp] theorem stepChannels_disp : (stepChannels s).disp = s.disp := rfl
@[simp] theorem stepChannels_keys : (stepChannels s).keys = s.keys := rfl
@[simp] theorem stepChannels_port : (stepChannels s).port = s.port := rfl
@[simp] theorem stepChannels_nsp : (stepChannels s).nsp = s.nsp := rfl

/-! ### `endAttempt` -/

@[simp] theorem endAttempt_pending (f : TxEntry → Option TxEntry) : (endAttempt f s).pending = s.pending := rfl
@[simp] theorem endAttempt_now (f : TxEntry → Option TxEntry) : (endAttempt f s).now = s.now := rfl
@[simp] theorem endAttempt_power (f : TxEntry → Option TxEntry) : (endAttempt f s).power = s.power := rfl
@[simp] theorem endAttempt_straps (f : TxEntry → Option TxEntry) : (endAttempt f s).straps = s.straps := rfl
@[simp] theorem endAttempt_faults (f : TxEntry → Option TxEntry) : (endAttempt f s).faults = s.faults := rfl
@[simp] theorem endAttempt_bus (f : TxEntry → Option TxEntry) : (endAttempt f s).bus = s.bus := rfl
@[simp] theorem endAttempt_gauges (f : TxEntry → Option TxEntry) : (endAttempt f s).gauges = s.gauges := rfl
@[simp] theorem endAttempt_fuel (f : TxEntry → Option TxEntry) : (endAttempt f s).fuel = s.fuel := rfl
@[simp] theorem endAttempt_trip (f : TxEntry → Option TxEntry) : (endAttempt f s).trip = s.trip := rfl
@[simp] theorem endAttempt_clock (f : TxEntry → Option TxEntry) : (endAttempt f s).clock = s.clock := rfl
@[simp] theorem endAttempt_journey (f : TxEntry → Option TxEntry) : (endAttempt f s).journey = s.journey := rfl
@[simp] theorem endAttempt_service (f : TxEntry → Option TxEntry) : (endAttempt f s).service = s.service := rfl
@[simp] theorem endAttempt_warn (f : TxEntry → Option TxEntry) : (endAttempt f s).warn = s.warn := rfl
@[simp] theorem endAttempt_chime (f : TxEntry → Option TxEntry) : (endAttempt f s).chime = s.chime := rfl
@[simp] theorem endAttempt_msg (f : TxEntry → Option TxEntry) : (endAttempt f s).msg = s.msg := rfl
@[simp] theorem endAttempt_disp (f : TxEntry → Option TxEntry) : (endAttempt f s).disp = s.disp := rfl
@[simp] theorem endAttempt_keys (f : TxEntry → Option TxEntry) : (endAttempt f s).keys = s.keys := rfl
@[simp] theorem endAttempt_nsp (f : TxEntry → Option TxEntry) : (endAttempt f s).nsp = s.nsp := rfl

/-! ### `markSentWhole` -/

@[simp] theorem markSentWhole_pending (k : FrameKind) : (markSentWhole k s).pending = s.pending := rfl
@[simp] theorem markSentWhole_now (k : FrameKind) : (markSentWhole k s).now = s.now := rfl
@[simp] theorem markSentWhole_power (k : FrameKind) : (markSentWhole k s).power = s.power := rfl
@[simp] theorem markSentWhole_straps (k : FrameKind) : (markSentWhole k s).straps = s.straps := rfl
@[simp] theorem markSentWhole_bus (k : FrameKind) : (markSentWhole k s).bus = s.bus := rfl
@[simp] theorem markSentWhole_gauges (k : FrameKind) : (markSentWhole k s).gauges = s.gauges := rfl
@[simp] theorem markSentWhole_fuel (k : FrameKind) : (markSentWhole k s).fuel = s.fuel := rfl
@[simp] theorem markSentWhole_trip (k : FrameKind) : (markSentWhole k s).trip = s.trip := rfl
@[simp] theorem markSentWhole_clock (k : FrameKind) : (markSentWhole k s).clock = s.clock := rfl
@[simp] theorem markSentWhole_journey (k : FrameKind) : (markSentWhole k s).journey = s.journey := rfl
@[simp] theorem markSentWhole_service (k : FrameKind) : (markSentWhole k s).service = s.service := rfl
@[simp] theorem markSentWhole_warn (k : FrameKind) : (markSentWhole k s).warn = s.warn := rfl
@[simp] theorem markSentWhole_chime (k : FrameKind) : (markSentWhole k s).chime = s.chime := rfl
@[simp] theorem markSentWhole_msg (k : FrameKind) : (markSentWhole k s).msg = s.msg := rfl
@[simp] theorem markSentWhole_disp (k : FrameKind) : (markSentWhole k s).disp = s.disp := rfl
@[simp] theorem markSentWhole_keys (k : FrameKind) : (markSentWhole k s).keys = s.keys := rfl
@[simp] theorem markSentWhole_nsp (k : FrameKind) : (markSentWhole k s).nsp = s.nsp := rfl

/-! ### `sampleStraps` -/

@[simp] theorem sampleStraps_pending (p : StrapPins) : (sampleStraps p s).pending = s.pending := rfl
@[simp] theorem sampleStraps_now (p : StrapPins) : (sampleStraps p s).now = s.now := rfl
@[simp] theorem sampleStraps_bus (p : StrapPins) : (sampleStraps p s).bus = s.bus := rfl
@[simp] theorem sampleStraps_gauges (p : StrapPins) : (sampleStraps p s).gauges = s.gauges := rfl
@[simp] theorem sampleStraps_fuel (p : StrapPins) : (sampleStraps p s).fuel = s.fuel := rfl
@[simp] theorem sampleStraps_trip (p : StrapPins) : (sampleStraps p s).trip = s.trip := rfl
@[simp] theorem sampleStraps_clock (p : StrapPins) : (sampleStraps p s).clock = s.clock := rfl
@[simp] theorem sampleStraps_journey (p : StrapPins) : (sampleStraps p s).journey = s.journey := rfl
@[simp] theorem sampleStraps_service (p : StrapPins) : (sampleStraps p s).service = s.service := rfl
@[simp] theorem sampleStraps_warn (p : StrapPins) : (sampleStraps p s).warn = s.warn := rfl
@[simp] theorem sampleStraps_chime (p : StrapPins) : (sampleStraps p s).chime = s.chime := rfl
@[simp] theorem sampleStraps_msg (p : StrapPins) : (sampleStraps p s).msg = s.msg := rfl
@[simp] theorem sampleStraps_disp (p : StrapPins) : (sampleStraps p s).disp = s.disp := rfl
@[simp] theorem sampleStraps_keys (p : StrapPins) : (sampleStraps p s).keys = s.keys := rfl
@[simp] theorem sampleStraps_port (p : StrapPins) : (sampleStraps p s).port = s.port := rfl

/-! ### `runBegun` -/

@[simp] theorem runBegun_pending : (runBegun s).pending = s.pending := rfl
@[simp] theorem runBegun_now : (runBegun s).now = s.now := rfl
@[simp] theorem runBegun_straps : (runBegun s).straps = s.straps := rfl
@[simp] theorem runBegun_faults : (runBegun s).faults = s.faults := rfl
@[simp] theorem runBegun_clock : (runBegun s).clock = s.clock := rfl
@[simp] theorem runBegun_journey : (runBegun s).journey = s.journey := rfl
@[simp] theorem runBegun_service : (runBegun s).service = s.service := rfl
@[simp] theorem runBegun_chime : (runBegun s).chime = s.chime := rfl
@[simp] theorem runBegun_msg : (runBegun s).msg = s.msg := rfl
@[simp] theorem runBegun_port : (runBegun s).port = s.port := rfl
@[simp] theorem runBegun_nsp : (runBegun s).nsp = s.nsp := rfl

/-! ### `watchBegun` -/

@[simp] theorem watchBegun_pending (g : Gauges) : (watchBegun g s).pending = s.pending := rfl
@[simp] theorem watchBegun_now (g : Gauges) : (watchBegun g s).now = s.now := rfl
@[simp] theorem watchBegun_straps (g : Gauges) : (watchBegun g s).straps = s.straps := rfl
@[simp] theorem watchBegun_faults (g : Gauges) : (watchBegun g s).faults = s.faults := rfl
@[simp] theorem watchBegun_clock (g : Gauges) : (watchBegun g s).clock = s.clock := rfl
@[simp] theorem watchBegun_journey (g : Gauges) : (watchBegun g s).journey = s.journey := rfl
@[simp] theorem watchBegun_service (g : Gauges) : (watchBegun g s).service = s.service := rfl
@[simp] theorem watchBegun_chime (g : Gauges) : (watchBegun g s).chime = s.chime := rfl
@[simp] theorem watchBegun_msg (g : Gauges) : (watchBegun g s).msg = s.msg := rfl
@[simp] theorem watchBegun_port (g : Gauges) : (watchBegun g s).port = s.port := rfl
@[simp] theorem watchBegun_nsp (g : Gauges) : (watchBegun g s).nsp = s.nsp := rfl

/-! ### `beginPulse` -/

@[simp] theorem beginPulse_pending : (beginPulse s).pending = s.pending := rfl
@[simp] theorem beginPulse_now : (beginPulse s).now = s.now := rfl
@[simp] theorem beginPulse_power : (beginPulse s).power = s.power := rfl
@[simp] theorem beginPulse_straps : (beginPulse s).straps = s.straps := rfl
@[simp] theorem beginPulse_faults : (beginPulse s).faults = s.faults := rfl
@[simp] theorem beginPulse_bus : (beginPulse s).bus = s.bus := rfl
@[simp] theorem beginPulse_gauges : (beginPulse s).gauges = s.gauges := rfl
@[simp] theorem beginPulse_fuel : (beginPulse s).fuel = s.fuel := rfl
@[simp] theorem beginPulse_trip : (beginPulse s).trip = s.trip := rfl
@[simp] theorem beginPulse_clock : (beginPulse s).clock = s.clock := rfl
@[simp] theorem beginPulse_journey : (beginPulse s).journey = s.journey := rfl
@[simp] theorem beginPulse_service : (beginPulse s).service = s.service := rfl
@[simp] theorem beginPulse_warn : (beginPulse s).warn = s.warn := rfl
@[simp] theorem beginPulse_chime : (beginPulse s).chime = s.chime := rfl
@[simp] theorem beginPulse_msg : (beginPulse s).msg = s.msg := rfl
@[simp] theorem beginPulse_disp : (beginPulse s).disp = s.disp := rfl
@[simp] theorem beginPulse_keys : (beginPulse s).keys = s.keys := rfl
@[simp] theorem beginPulse_nsp : (beginPulse s).nsp = s.nsp := rfl
@[simp] theorem beginPulse_queue : (beginPulse s).port.queue = s.port.queue := rfl
@[simp] theorem beginPulse_intake : (beginPulse s).port.intake = s.port.intake := rfl
@[simp] theorem beginPulse_sending : (beginPulse s).port.sending = s.port.sending := rfl
@[simp] theorem beginPulse_wakeWanted : (beginPulse s).port.wakeWanted = false := rfl
@[simp] theorem beginPulse_pulseUntil : (beginPulse s).port.pulseUntil = some (s.now + 3) := rfl
@[simp] theorem beginPulse_holdOff : (beginPulse s).port.holdOff = some (s.now + 23) := rfl

end Sys2Proof.Machine
end

