-- ==== Sys2Proof/Laws/TouchesUnits.lean ====
section
/-! SUPPORT. Laws/TouchesUnits.lean: the blocks that the operations of the reports, the fuel and trip units,
the journey, the power states and the keys may change. -/

namespace Sys2Proof.Machine

/-! ### Fuel Estimator (03) -/

theorem sampleMain_only (r v s) : OnlyIn [.fuel] s (sampleMain r v s) := by
  unfold sampleMain; split
  · exact only_fuel s _
  · exact .refl _ s

theorem sampleAux_only (r v s) : OnlyIn [.fuel] s (sampleAux r v s) := by
  unfold sampleAux
  repeat' split
  all_goals first | exact .refl _ s | exact only_fuel s _

theorem followPump_only (s) : OnlyIn [.fuel] s (followPump s) := by
  unfold followPump
  repeat' split
  all_goals first | exact .refl _ s | exact only_fuel s _

theorem clearPump_only (s) : OnlyIn [.fuel] s (clearPump s) := only_fuel s _

theorem clearStandstill_only (s) : OnlyIn [.fuel] s (clearStandstill s) := only_fuel s _

theorem followStandstill_only (v s) : OnlyIn [.fuel] s (followStandstill v s) := by
  unfold followStandstill
  repeat' split
  all_goals first | exact .refl _ s | exact only_fuel s _

theorem deadReckon_only (d s) : OnlyIn [.fuel] s (deadReckon d s) := by
  unfold deadReckon; split
  · exact .refl _ s
  · exact only_fuel s _

theorem watchStep_only (s) : OnlyIn [.fuel] s (watchStep s) := only_fuel s _

theorem filterMainStep_only (s) : OnlyIn [.fuel] s (filterMainStep s) := by
  unfold filterMainStep
  repeat' split
  all_goals first | exact .refl _ s | exact only_fuel s _

theorem correctMain_only (s) : OnlyIn [.fuel] s (correctMain s) := by
  unfold correctMain
  dsimp only
  refine OnlyIn.ite (OnlyIn.trans ?_ (only_fuel _ _)) ?_
  all_goals exact OnlyIn.ite (only_fuel s _) (filterMainStep_only s)

theorem correctAux_only (s) : OnlyIn [.fuel] s (correctAux s) := by
  unfold correctAux; exact OnlyIn.ite (only_fuel s _) (.refl _ s)

theorem correctionStep_only (s) : OnlyIn [.fuel] s (correctionStep s) :=
  (correctMain_only s).trans (correctAux_only _)

/-! ### Journey Unit (05) -/

theorem journeyMinute_only (s) : OnlyIn storeBlocks s (journeyMinute s) := by
  unfold journeyMinute
  split
  · exact .refl _ s
  · dsimp only
    split
    · exact ((only_journey s _).mono (by decide)).trans (markOpenSlot_only _)
    · exact (only_journey s _).mono (by decide)

theorem journeyStep_only (s) : OnlyIn [.journey] s (journeyStep s) := only_journey s _

theorem journeyFuel_only (d s) : OnlyIn [.journey] s (journeyFuel d s) := by
  unfold journeyFuel; split
  · exact .refl _ s
  · exact only_journey s _

theorem openJourneyOp_only (s) :
    OnlyIn ([.warn, .msg, .disp] ++ storeBlocks) s (openJourneyOp s) :=
  (((only_journey s _).mono (by decide)).trans ((markOpenSlot_only _).mono (by decide))).trans
    ((postNote_only _ _ _ _ _).mono (by decide))

theorem closeJourneyOp_only (j s) :
    OnlyIn ([.warn, .msg, .disp] ++ storeBlocks) s (closeJourneyOp j s) :=
  ((((only_journey s _).mono (by decide)).trans ((offerRecord_only _ _).mono (by decide))).trans
    (((offerRecord_only _ _).trans (offerRecord_only _ _)).mono (by decide))).trans
    ((postNote_only _ _ _ _ _).mono (by decide))

theorem clearJourneys_only (s) : OnlyIn ([.warn, .msg, .disp] ++ storeBlocks) s (clearJourneys s) :=
  (((only_journey s _).mono (by decide)).trans
    ((OnlyIn.foldl (fun t p => offerRecord_only (.position p) t) _ _).mono (by decide))).trans
    ((postNote_only _ _ _ _ _).mono (by decide))

/-! ### Trip Computer and clock (04) -/

theorem odometerStep_only (s) : OnlyIn storeBlocks s (odometerStep s) := by
  unfold odometerStep
  split
  · dsimp only
    refine OnlyIn.trans (t := { s with trip := { s.trip with odometer := s.trip.odometer + 1 } })
      ((only_trip s _).mono (by decide)) ?_
    have h : ∀ t, OnlyIn storeBlocks t
        (if (s.trip.odometer + 1) % 10 = 0 then wholeKmMark t else t) := fun t => by
      split
      · exact wholeKmMark_only t
      · exact .refl _ t
    split
    · exact (h _).trans (markOdometer_only _)
    · exact h _
  · exact .refl _ s

theorem tripsStep_only (s) : OnlyIn [.trip] s (tripsStep s) := only_trip s _

theorem distanceStep_only (s) : OnlyIn (.fuel :: storeBlocks) s (distanceStep s) :=
  ((((odometerStep_only s).mono (by decide)).trans ((tripsStep_only _).mono (by decide))).trans
    ((journeyStep_only _).mono (by decide))).trans ((watchStep_only _).mono (by decide))

theorem distanceSteps_only : ∀ (n : Nat) (s : State), OnlyIn (.fuel :: storeBlocks) s (distanceSteps n s)
  | 0, s => .refl _ s
  | n + 1, s => (distanceStep_only s).trans (distanceSteps_only n _)

theorem pulseDelta_only (d s) : OnlyIn (.fuel :: storeBlocks) s (pulseDelta d s) :=
  ((only_trip s _).mono (by decide)).trans (distanceSteps_only _ _)

theorem fuelDelta_only (d s) : OnlyIn [.trip, .journey, .fuel] s (fuelDelta d s) :=
  (((only_trip s _).mono (by decide)).trans ((journeyFuel_only d _).mono (by decide))).trans
    ((deadReckon_only d _).mono (by decide))

theorem takeSample_only (s) : OnlyIn [.trip] s (takeSample s) := only_trip s _

theorem minuteTick_only (s) : OnlyIn (.clock :: storeBlocks) s (minuteTick s) := by
  unfold minuteTick
  exact (OnlyIn.ite (.refl _ s) ((only_clock s _).mono (by decide))).trans ((journeyMinute_only _).mono (by decide))

theorem clockSecondOp_only (s) : OnlyIn (.clock :: storeBlocks) s (clockSecondOp s) := by
  unfold clockSecondOp; split
  · exact ((only_clock s _).mono (by decide)).trans (minuteTick_only _)
  · exact (only_clock s _).mono (by decide)

theorem setClock_only (m s) : OnlyIn [.clock] s (setClock m s) := only_clock s _

theorem tripResetOp_only (b s) : OnlyIn [.trip] s (tripResetOp b s) := by
  unfold tripResetOp; split <;> exact only_trip s _

/-! ### Load (11, 05, 06) -/

theorem loadOdometer_only (m s) : OnlyIn (.faults :: storeBlocks) s (loadOdometer m s) := by
  unfold loadOdometer
  split <;> constructor <;> simp [storeBlocks]

theorem loadItem_only (m s i) : OnlyIn (.faults :: storeBlocks) s (loadItem m s i) := by
  have put : ∀ f t, OnlyIn (.faults :: storeBlocks) t (modifyItem i f t) := fun f t =>
    (modifyItem_only i f t).mono (by decide)
  have flag : OnlyIn (.faults :: storeBlocks) s { s with faults := { s.faults with store := true } } :=
    (only_faults s _).mono (by decide)
  unfold loadItem
  split
  · exact put _ s
  · exact flag.trans (put _ _)

theorem loadJourney_only (m s) : OnlyIn (.faults :: storeBlocks) s (loadJourney m s) := by
  constructor <;> simp [loadJourney, storeBlocks]

theorem finishLoad_only (m s) : OnlyIn ([.power, .faults] ++ storeBlocks) s (finishLoad m s) := by
  have odo := (loadOdometer_only m s).mono (cs := [.power, .faults] ++ storeBlocks) (by decide)
  have items : ∀ t, OnlyIn ([.power, .faults] ++ storeBlocks) t (itemNumbers.foldl (loadItem m) t) := fun t =>
    OnlyIn.foldl (fun t i => (loadItem_only m t i).mono (by decide)) itemNumbers t
  have journey : ∀ t, OnlyIn ([.power, .faults] ++ storeBlocks) t (loadJourney m t) := fun t =>
    (loadJourney_only m t).mono (by decide)
  have offers : ∀ t, OnlyIn ([.power, .faults] ++ storeBlocks) t
      (itemNumbers.foldl (fun t i => offerRecord (.item i) t) t) := fun t =>
    OnlyIn.foldl (fun t i => (offerRecord_only (.item i) t).mono (by decide)) itemNumbers t
  have power : ∀ t x, OnlyIn ([.power, .faults] ++ storeBlocks) t { t with power := x } := fun t x =>
    (only_power t x).mono (by decide)
  unfold finishLoad
  dsimp only
  exact (((odo.trans (items _)).trans (journey _)).trans (power _ _)).trans (offers _)

theorem failLoad_only (s) : OnlyIn ([.power, .faults] ++ storeBlocks) s (failLoad s) := by
  refine OnlyIn.trans ?_ (finishLoad_only _ _)
  constructor <;> simp [storeBlocks]

theorem completeLoad_only (s) : OnlyIn ([.power, .faults] ++ storeBlocks) s (completeLoad s) := by
  refine OnlyIn.trans ?_ (finishLoad_only _ _)
  constructor <;> simp [storeBlocks]

/-! ### Frames heard and reports (01, 10) -/

theorem noteHeard_only (h s) : OnlyIn [.bus, .power] s (noteHeard h s) :=
  ((modifyRoster_only _ _ s).mono (by decide)).trans ((only_power _ _).mono (by decide))

theorem noteClash_only (s) : OnlyIn [.faults] s (noteClash s) := only_faults s _

theorem hearFrame_only {bs : List Block} {handle : State → State} (k : ∀ t, OnlyIn bs t (handle t)) (fits h s) :
    OnlyIn ([.faults, .bus, .power] ++ bs) s (hearFrame fits h handle s) := by
  unfold hearFrame
  split
  · exact .refl _ s
  · exact .refl _ s
  · exact (noteClash_only s).mono (by simp)
  · exact ((noteHeard_only h s).mono (by simp)).trans ((k _).mono (List.subset_append_right _ _))

theorem markRival_only (k n s) : OnlyIn [.bus] s (markRival k n s) :=
  (only_bus s _).trans (modifyRoster_only n _ _)

theorem issue_only {bs : List Block} {f : Nat → State → State} (k : ∀ d t, OnlyIn bs t (f d t)) (d s) :
    OnlyIn bs s (issue f d s) := by
  unfold issue; exact OnlyIn.ite (.refl _ s) (k d s)

theorem holdSpeed_only (v s) : OnlyIn [.bus] s (holdSpeed v s) := by
  unfold holdSpeed; split
  · exact only_bus s _
  · exact .refl _ s

theorem takeGateSpeed_only (r v s) : OnlyIn [.warn] s (takeGateSpeed r v s) := by
  unfold takeGateSpeed
  repeat' split
  all_goals first | exact .refl _ s | exact only_warn s _

theorem followEngine_only (r v s) : OnlyIn [.warn] s (followEngine r v s) := by
  unfold followEngine
  repeat' split
  all_goals first | exact .refl _ s | exact only_warn s _

theorem rearCall_only (s) : OnlyIn postBlocks s (rearCall s) :=
  ((postChime_only _ _ _ _ s).mono (by decide)).trans ((postNote_only _ _ _ _ _).mono (by decide))

/-- The blocks that the consumers of a report kind reach. -/
def consumerBlocks : ReportKind → List Block
  | .engine => warnBlocks
  | .fuelFlow => .fuel :: storeBlocks
  | .chassis => .bus :: warnBlocks ++ storeBlocks
  | .tank => [.fuel]
  | .bodyDoors | .bodyLamps => warnBlocks
  | .rearConsole => postBlocks

theorem consumers_only (k h d e c s) : OnlyIn (consumerBlocks k) s (consumers k h d e c s) := by
  cases k
  · exact (((followEngine_only _ _ s).mono (by decide)).trans (applyGates_only _)).trans (evaluateReport_only _ _)
  · exact ((issue_only fuelDelta_only d s).mono (by decide)).trans
      ((issue_only runSeconds_only e _).mono (by decide))
  · exact ((((((issue_only pulseDelta_only d s).mono (by decide)).trans
      ((followStandstill_only _ _).mono (by decide))).trans ((holdSpeed_only _ _).mono (by decide))).trans
      ((takeGateSpeed_only _ _ _).mono (by decide))).trans ((applyGates_only _).mono (by decide))).trans
      ((evaluateReport_only _ _).mono (by decide))
  · exact ((sampleMain_only _ _ s).trans (sampleAux_only _ _ _)).trans (followPump_only _)
  · exact evaluateReport_only _ s
  · exact evaluateReport_only _ s
  · exact (OnlyIn.ite (rearCall_only s) (.refl _ s)).trans ((hushChanged_only _).mono (by decide))

theorem acceptArrival_only (k h s) : OnlyIn (.bus :: consumerBlocks k) s (acceptArrival k h s) :=
  ((only_bus s _).mono (by simp)).trans ((consumers_only k h _ _ _ _).mono (by simp))

theorem offerReport_only (k h s) : OnlyIn (.bus :: consumerBlocks k) s (offerReport k h s) := by
  unfold offerReport; split
  · exact acceptArrival_only k h s
  · exact (markRival_only k _ s).mono (by simp)
  · exact .refl _ s

theorem dropBaselines_only (n s) : OnlyIn [.bus] s (dropBaselines n s) := only_bus s _

theorem heardPresence_only (h s) : OnlyIn [.bus] s (heardPresence h s) := by
  unfold heardPresence; exact OnlyIn.ite (dropBaselines_only _ s) (.refl _ s)

theorem staleEffects_only (k s) : OnlyIn [.fuel, .chime, .port] s (staleEffects k s) := by
  unfold staleEffects
  split
  · exact (clearStandstill_only s).mono (by decide)
  · exact (clearPump_only s).mono (by decide)
  · exact (hushChanged_only s).mono (by decide)
  · exact .refl _ s

theorem expireStale_only (k s) : OnlyIn [.bus, .fuel, .chime, .port] s (expireStale k s) := by
  unfold expireStale
  repeat' split
  · exact (((only_bus s _).mono (by decide)).trans ((staleEffects_only k _).mono (by decide))).trans
      ((offerOwned_only _ _).mono (by decide))
  · exact .refl _ s
  · exact .refl _ s

theorem answerHeard_only (k h s) : OnlyIn [.port] s (answerHeard k h s) := by
  unfold answerHeard; split <;> exact only_port s _

theorem dropHead_only (s) : OnlyIn [.port] s (dropHead s) := only_port s _

/-! ### Gauges (02) -/

theorem stepChannels_only (s) : OnlyIn [.gauges] s (stepChannels s) := only_gauges s _

theorem startCoilOff_only (s) : OnlyIn [.gauges] s (startCoilOff s) := by
  unfold startCoilOff; exact OnlyIn.ite (only_gauges s _) (.refl _ s)

theorem dampingPeriod_only (s) : OnlyIn [.gauges] s (dampingPeriod s) := by
  unfold dampingPeriod
  exact (OnlyIn.ite ((stepChannels_only s).trans (startCoilOff_only _)) (.refl _ s)).trans (only_gauges _ _)

/-! ### Power states (12) -/

/-- The blocks that entering RUN or WATCH at a start reaches. -/
def enterBlocks : List Block := [.power, .bus, .gauges, .fuel, .trip, .service, .warn, .chime, .msg, .disp, .keys, .port]

theorem enterRun_only (s) : OnlyIn enterBlocks s (enterRun s) := by
  refine OnlyIn.trans (t := runBegun s) ?_ ((applyGates_only _).mono (by decide))
  constructor <;> simp [runBegun, enterBlocks]

theorem watchBegun_only (g s) : OnlyIn enterBlocks s (watchBegun g s) := by
  constructor <;> simp [watchBegun, enterBlocks]

theorem startIntoWatch_only (s) : OnlyIn enterBlocks s (startIntoWatch s) :=
  (watchBegun_only _ s).trans ((applyGates_only _).mono (by decide))

theorem startInto_only (r s) : OnlyIn enterBlocks s (startInto r s) := by
  unfold startInto; exact OnlyIn.ite (enterRun_only s) (startIntoWatch_only s)

theorem markMoved_only (s i) : OnlyIn storeBlocks s (markMoved s i) := by
  unfold markMoved; exact OnlyIn.ite (markItem_only i s) (.refl _ s)

theorem offerStores_only (s) : OnlyIn storeBlocks s (offerStores s) := by
  unfold offerStores
  dsimp only
  exact ((markOdometer_only s).trans (OnlyIn.ite (markOpenSlot_only _) (.refl _ _))).trans
    (OnlyIn.foldl markMoved_only _ _)

theorem enterWatch_only (s) : OnlyIn (enterBlocks ++ storeBlocks) s (enterWatch s) :=
  ((((watchBegun_only _ s).mono (by decide)).trans ((endReminders_only _).mono (by decide))).trans
    ((applyGates_only _).mono (by decide))).trans ((offerStores_only _).mono (by decide))

theorem enterSleep_only (s) : OnlyIn enterBlocks s (enterSleep s) := by
  constructor <;> simp [enterSleep, enterBlocks]

theorem wakeBlocks_only (w k s) : OnlyIn enterBlocks s (wakeBlocks w k s) := by
  unfold wakeBlocks
  dsimp only
  refine OnlyIn.trans (t := emptyMessages (emptyChimes { s with port := wakePort w s.port })) ?_ ?_
  · refine OnlyIn.trans (t := emptyChimes { s with port := wakePort w s.port }) ?_
      ((emptyMessages_only _).mono (by decide))
    have port : OnlyIn enterBlocks s { s with port := wakePort w s.port } := (only_port s _).mono (by decide)
    exact port.trans ((emptyChimes_only _).mono (by decide))
  · constructor <;> simp [enterBlocks]

theorem wakeStart_only (r s) : OnlyIn (enterBlocks ++ storeBlocks) s (wakeStart r s) :=
  (((((wakeBlocks_only false 1 s).trans (startInto_only r _)).mono (by decide)).trans
    ((reofferAll_only _).mono (by decide))).trans ((kickWriter_only _).mono (by decide))).trans
    ((offerOwned_only _ _).mono (by decide))

theorem warmRestart_only (s) : OnlyIn enterBlocks s (warmRestart s) :=
  ((wakeBlocks_only true 2 s).trans (startInto_only _ _)).trans ((offerOwned_only _ _).mono (by decide))

theorem rosterRefresh_only (s) : OnlyIn [.bus, .fuel, .chime, .port] s (rosterRefresh s) := by
  unfold rosterRefresh
  dsimp only
  have offer : ∀ t, OnlyIn [.bus, .fuel, .chime, .port] t (offerOwned .rollCall t) := fun t =>
    (offerOwned_only _ t).mono (by decide)
  have hushed : ∀ t, OnlyIn [.bus, .fuel, .chime, .port] t (hushChanged t) := fun t =>
    (hushChanged_only t).mono (by decide)
  have pump : ∀ t, OnlyIn [.bus, .fuel, .chime, .port] t (clearPump (clearStandstill t)) := fun t =>
    ((clearStandstill_only t).trans (clearPump_only _)).mono (by decide)
  refine OnlyIn.trans ?_ (offer _)
  refine OnlyIn.trans ?_ (hushed _)
  refine OnlyIn.trans ?_ (pump _)
  constructor <;> simp

theorem beginDip_only (s) : OnlyIn ([.power, .nsp] ++ warnBlocks) s (beginDip s) := by
  unfold beginDip
  dsimp only
  refine OnlyIn.trans ?_ ((applyGates_only _).mono (by decide))
  exact (((only_power s _).mono (by decide)).trans ((silenceForDip_only _).mono (by decide))).trans
    ((only_nsp _ _).mono (by decide))

theorem endDip_only (s) : OnlyIn [.power, .chime, .port, .nsp] s (endDip s) :=
  (((only_power s _).mono (by decide)).trans
    ((withArbiter_only (fun t => .refl _ t) _).mono (by decide))).trans ((dipFreesWriter_only _).mono (by decide))

/-! ### Keys and display (09) -/

theorem setReadout_only (n s) : OnlyIn [.disp] s (setReadout n s) := by
  unfold setReadout; exact OnlyIn.ite (.refl _ s) (only_disp s _)

theorem setModeTo_only (m s) : OnlyIn [.disp] s (setModeTo m s) := (only_disp s _).trans (only_disp _ _)

theorem keepSetMode_only (s) : OnlyIn [.disp] s (keepSetMode s) := by
  unfold keepSetMode; exact OnlyIn.ite (.refl _ s) (only_disp s _)

theorem stepValue_only (s) : OnlyIn [.disp, .clock, .trip] s (stepValue s) := by
  unfold stepValue
  split
  · exact .refl _ s
  · exact ((only_clock s _).mono (by decide)).trans ((only_disp _ _).mono (by decide))
  · exact ((only_clock s _).mono (by decide)).trans ((only_disp _ _).mono (by decide))
  · exact ((only_trip s _).mono (by decide)).trans ((only_disp _ _).mono (by decide))

theorem nextReadout_only (s) : OnlyIn [.disp] s (nextReadout s) := setReadout_only _ s

theorem modeAction_only (s) : OnlyIn [.warn, .disp] s (modeAction s) := by
  unfold modeAction
  split
  · exact .refl _ s
  · exact ((closeReview_only s).mono (by decide)).trans ((nextReadout_only _).mono (by decide))
  · exact (nextReadout_only s).mono (by decide)
  · exact ((leaveSetMode_only s).trans (nextReadout_only _)).mono (by decide)

theorem selectOnReadout_only (s) : OnlyIn [.disp] s (selectOnReadout s) := by
  unfold selectOnReadout
  repeat' split
  · exact only_disp s _
  · exact setModeTo_only _ s
  · exact setModeTo_only _ s
  · exact .refl _ s

theorem selectAction_only (s) : OnlyIn [.warn, .disp] s (selectAction s) := by
  unfold selectAction
  split
  · exact .refl _ s
  · exact ((closeReview_only s).mono (by decide)).trans ((selectOnReadout_only _).mono (by decide))
  · exact (selectOnReadout_only s).mono (by decide)
  · exact OnlyIn.ite ((setModeTo_only _ s).mono (by decide)) ((leaveSetMode_only s).mono (by decide))

theorem resetAction_only (s) : OnlyIn [.warn, .disp, .clock, .trip] s (resetAction s) := by
  unfold resetAction
  split
  · exact .refl _ s
  · exact .refl _ s
  · exact (closeReview_only s).mono (by decide)
  · exact (stepValue_only s).mono (by decide)

theorem departRecord_only (o s) : OnlyIn [.warn, .msg, .disp, .service] s (departRecord o s) := by
  unfold departRecord
  split
  · exact ((removeRecord_only _ s).mono (by decide)).trans (advanceReminder_only _)
  · exact (removeRecord_only _ s).mono (by decide)

theorem noteRecord_only (o s) : OnlyIn warnBlocks s (noteRecord o s) := by
  unfold noteRecord
  split
  · exact (acknowledge_only _ s).trans ((departRecord_only _ _).mono (by decide))
  · exact (departRecord_only _ s).mono (by decide)

theorem noteAction_only (s) : OnlyIn warnBlocks s (noteAction s) := by
  unfold noteAction
  split
  · exact noteRecord_only _ s
  · exact (moveReview_only s).mono (by decide)
  · exact (openReview_only s).mono (by decide)
  · exact ((leaveSetMode_only s).mono (by decide)).trans ((openReview_only _).mono (by decide))

theorem journeyAction_only (s) : OnlyIn [.disp] s (journeyAction s) := by
  unfold journeyAction
  split
  · exact leaveSetMode_only s
  · exact .refl _ s

theorem holdKey_only (k v s) : OnlyIn [.keys] s (holdKey k v s) := only_keys s _

theorem pressNoted_only (s) : OnlyIn [.disp, .warn, .chime, .port] s (pressNoted s) :=
  ((wakeDisplay_only s).mono (by decide)).trans ((keyClick_only _).mono (by decide))

theorem acceptPress_only {bs : List Block} {act : State → State} (h : ∀ t, OnlyIn bs t (act t)) (k holds s) :
    OnlyIn ([.disp, .warn, .chime, .port, .keys] ++ bs) s (acceptPress k holds act s) := by
  unfold acceptPress
  split
  · split
    · exact (((only_keys s _).mono (by simp)).trans ((pressNoted_only _).mono (by simp))).trans
        ((holdKey_only _ _ _).mono (by simp))
    · exact ((((pressNoted_only s).mono (by simp)).trans ((keepSetMode_only _).mono (by simp))).trans
        ((h _).mono (List.subset_append_right _ _))).trans ((holdKey_only _ _ _).mono (by simp))
  · exact .refl _ s

theorem acceptRelease_only {bs : List Block} {act : KeyAction → State → State} (h : ∀ a t, OnlyIn bs t (act a t))
    (k s) : OnlyIn (.keys :: bs) s (acceptRelease k act s) := by
  unfold acceptRelease
  split
  · split
    · exact ((holdKey_only _ _ s).mono (by simp)).trans ((h _ _).mono (by simp))
    · exact .refl _ s
  · exact .refl _ s

theorem takeLong_only (k s) : OnlyIn [.keys] s (takeLong k s) := holdKey_only k _ s

theorem journeyShort_only (a s) : OnlyIn ([.warn, .msg, .disp] ++ storeBlocks) s (journeyShort a s) := by
  unfold journeyShort
  repeat' split
  · exact (setReadout_only _ s).mono (by decide)
  · exact openJourneyOp_only s
  · exact .refl _ s

theorem journeyLong_only (s) : OnlyIn ([.warn, .msg, .disp] ++ storeBlocks) s (journeyLong s) := by
  unfold journeyLong; split
  · exact closeJourneyOp_only _ s
  · exact openJourneyOp_only s

end Sys2Proof.Machine
end

