-- ==== Sys2Proof/Tests/Slice0.lean ====
section
/-! SUPPORT. Tests/Slice0.lean: the well-formedness smoke tests, the manual's worked figures, single steps, and
for every statement with hypotheses a concrete state and operands that meet them. -/

namespace Sys2Proof.Tests

open Sys2Proof Sys2Proof.Machine

/-! ### Well-formedness: an ill-formed command for each check -/

def frameFrom (source : Nat) (slots : List Slot) : Heard :=
  { source := source, ready := true, first := false, slots := slots }

theorem test_wf_report_of_station_0 : Instr.wf (.reportArrival .fuelFlow (frameFrom 0 [some 1, some 2])) = false := by
  decide
theorem test_wf_report_of_station_31 : Instr.wf (.reportArrival .fuelFlow (frameFrom 31 [some 1, some 2])) = false := by
  decide
theorem test_wf_report_too_short : Instr.wf (.reportArrival .fuelFlow (frameFrom 2 [some 1])) = false := by decide
theorem test_wf_report_whole : Instr.wf (.reportArrival .fuelFlow (frameFrom 2 [some 1, none])) = true := by decide
theorem test_wf_rollCall_with_slot : Instr.wf (.rollCall (frameFrom 2 [some 1])) = false := by decide
theorem test_wf_presence_without_slot : Instr.wf (.presence (frameFrom 2 [])) = false := by decide
theorem test_wf_other_to_31 : Instr.wf (.otherFrameHeard 0x60 31 (frameFrom 2 [some 1, none])) = false := by decide
theorem test_wf_addressed_of_wrong_length : Instr.wf (.addressedFrameAnswer 0x60 (frameFrom 2 [some 1])) = false := by
  decide
theorem test_wf_run_of_no_cell : Instr.wf (.answerSlotClose (some 0)) = false := by decide
theorem test_wf_trip_2 : Instr.wf (.retryDelayExpiry { kind := .tripSummary, target := 2, selector := some 2 }) = false := by
  decide
theorem test_wf_journey_index_10 :
    Instr.wf (.retryDelayExpiry { kind := .journeyRecord, target := 2, selector := some 10 }) = false := by decide
theorem test_wf_selector_of_presence :
    Instr.wf (.retryDelayExpiry { kind := .presence, target := 0, selector := some 0 }) = false := by decide
theorem test_wf_reoffer_to_0 : Instr.wf (.ownerReoffer (.staleDemand 0)) = false := by decide
theorem test_wf_answers_of_31 : Instr.wf (.ownerReoffer (.answers 31)) = false := by decide
theorem test_wf_roster_31 : Instr.wf (.rosterTimerExpiry 31) = false := by decide
theorem test_wf_entry_25 : Instr.wf (.reOfferTimerExpiry 25) = false := by decide
theorem test_wf_entry_0 : Instr.wf (.reChimeTimerExpiry 0) = false := by decide
theorem test_wf_journey_by_keyRelease : Instr.wf (.keyRelease .journey) = false := by decide

/-! ### Worked figures of the manual -/

def strapsOf (variant pulseSel : BitVec 2) (imperial : Bool) : Straps :=
  { address := some 1, variant := variant, pulseSel := pulseSel, imperial := imperial }

/-- 02 TABLE 2-3. -/
theorem test_transfer_curves :
    gaugeTarget (strapsOf 0 0 false) .g0 1200 = 360 ∧ gaugeTarget (strapsOf 0 0 true) .g0 1200 = 357
    ∧ gaugeTarget (strapsOf 0 0 false) .g0 2550 = 720 ∧ gaugeTarget (strapsOf 1 0 false) .g1 3500 = 360
    ∧ gaugeTarget (strapsOf 2 0 false) .g1 3500 = 420 ∧ gaugeTarget (strapsOf 1 0 false) .g3 100 = 0
    ∧ gaugeTarget (strapsOf 1 0 false) .g3 200 = 102 ∧ gaugeTarget (strapsOf 1 0 false) .g3 250 = 128
    ∧ gaugeTarget (strapsOf 1 0 false) .g3 300 = 150 ∧ gaugeTarget (strapsOf 1 0 false) .g4 250 = 136
    ∧ gaugeTarget (strapsOf 3 0 false) .g4 250 = 121 := by decide

/-- 02 "The Coolant Plateau": a minimum step, and a step clamped to the slew. -/
theorem test_coolant_steps : trackStep .g3 128 102 = 103 ∧ trackStep .g3 240 150 = 152 := by decide

/-- 02 "Coil Drive of the Speedometer": 120.0 km/h. -/
theorem test_coil_drive :
    fieldAngle .g0 { position := 360, mode := .track, holdCount := 0 } = 216
    ∧ coilA 216 = ⟨15, false⟩ ∧ coilB 216 = ⟨61, false⟩ ∧ coilA 256 = ⟨0, false⟩ ∧ coilB 256 = ⟨63, false⟩ := by
  decide

set_option maxRecDepth 8000 in
/-- 02 TABLE 2-6, and the extent of the table. -/
theorem test_quarter_wave :
    [0, 32, 40, 64, 96, 112, 128, 144, 160, 192, 216, 224, 256].map waveAt
      = [0, 12, 15, 24, 35, 40, 45, 49, 52, 58, 61, 62, 63]
    ∧ quarterWave.length = 257 := by decide

/-- 03 TABLE 3-4. -/
theorem test_calibration :
    calibrate (mainCurve 0) 17 = 31 ∧ calibrate (mainCurve 2) 100 = 350 ∧ calibrate (mainCurve 1) 248 = 915
    ∧ calibrate (mainCurve 1) 252 = 932 ∧ (auxCurve 1).map (fun p => calibrate p 40) = some 57
    ∧ (auxCurve 3).map (fun p => calibrate p 255) = some 896 := by decide

/-- 03 section 3.1: the usable capacity of variant 1. -/
theorem test_usable_capacity : usableCapacity 1 = 1480 := by decide

/-- 04 TABLE 4-4: trip A at 1,234, 45,000 and 5,400. -/
theorem test_trip_averages :
    avgConsumption ⟨1234, 45000, 5400⟩ = some 182 ∧ avgEconomy ⟨1234, 45000, 5400⟩ = some 129
    ∧ avgSpeed ⟨1234, 45000, 5400⟩ = some 82 := by decide

/-- 04 "An Instantaneous Reading". -/
theorem test_instantaneous :
    instantValue (strapsOf 1 2 false) (List.replicate 7 ⟨0, 0⟩ ++ [⟨194, 17⟩]) = some 175
    ∧ instantValue (strapsOf 1 2 true) (List.replicate 7 ⟨0, 0⟩ ++ [⟨194, 17⟩]) = some 134 := by decide

/-- 04 TABLE 4-5: two closes of the range segment. -/
theorem test_range_basis :
    segmentConsumption 400 = 200 ∧ blendBasis 182 200 = 184 ∧ blendBasis 184 179 = 183 ∧ toMiles 226 = 140 := by
  decide

/-- 10 "A Check Character": a DEMAND of station 1 to station 12. -/
theorem test_check_character :
    encodeFrame { cls := 1, source := 1, kind := 0x60, target := 12, ready := true, first := false,
                  slots := [some 1, none] }
      = [0x21, 0x60, 12, 0x41, 0, 1, 0, 0, 0x31] := by decide

/-- 10 "Two Leads Meet". -/
theorem test_leads :
    (encodeFrame { cls := 3, source := 1, kind := 0x20, target := 0, ready := true, first := false,
                   slots := [] }).head? = some 0x61
    ∧ kindClass .clusterMirror = 3 ∧ kindClass .engine = 2 := by decide

/-- 10 TABLE 10-4, at the ends of each range. -/
theorem test_answers_judged :
    [some 1, some 3, some 4, some 5, some 6, some 8, some 9, none].map judgeAnswer
      = [some .take, some .take, some .refuse, some .refuse, some .hold, some .hold, none, none] := by decide

/-- 10 R163: address 5 with APR high, and with APR low. -/
theorem test_strap_parity :
    strapAddress { adr := 5, apr := true, var := 0, pk := 0, unt := false } = some 5
    ∧ strapAddress { adr := 5, apr := false, var := 0, pk := 0, unt := false } = none
    ∧ strapAddress { adr := 31, apr := false, var := 0, pk := 0, unt := false } = none := by decide

/-- 11 "Choosing the Odometer Slot": slot 3, and the cut slot 4. -/
theorem test_odometer_words :
    odometerWords 1234600 = [0x12D6, 0xA86F] ∧ odometerWords 1233900 = [0x12D3, 0xEC2E]
    ∧ slotValue [(6, 0x12D6), (7, 0xA86F), (8, 0x12D6), (9, 0xEC2E)] 3 = some 1234600
    ∧ slotValue [(6, 0x12D6), (7, 0xA86F), (8, 0x12D6), (9, 0xEC2E)] 4 = none := by decide

/-! ### States -/

/-- RUN at station 1, with the timers that run there. -/
def running : State :=
  { State.reset with
    power := { State.reset.power with mode := .run, ignOn := true }
    straps := strapsOf 1 2 false
    bus := { Bus.cold with mirrorTimer := some 500 }
    gauges := { Gauges.cold with coilOn := true, dampTimer := some 20 }
    fuel := { Fuel.cold with corrTimer := some 1000 }
    trip := { TripComputer.cold with tripSecondTimer := some 1000, samplerTimer := some 250 }
    clock := { Clock.cold with secondTimer := some 1000 }
    warn := { Warn.cold with evalTimer := some 250, flashTimer := some 500 } }

def inMode (m : PowerMode) (s : State) : State := { s with power := { s.power with mode := m } }
def watching : State := inMode .watch running
def sleeping : State := inMode .sleep running
def settling : State := inMode (.starting .settle) running
def loading : State := inMode (.starting .load) running
def listening : State := inMode (.starting .listen) running
def listenOnly (s : State) : State := { s with straps := { s.straps with address := none } }
def dipped (s : State) : State := { s with power := { s.power with dip := true } }

/-- The next state of a command, for tests. -/
def after (c : Instr) (s : State) : State :=
  match exec c s with
  | .next t => t
  | _ => s

/-- An entry of the report table bound to station 6, fresh, with slots. -/
def boundEntry (slots : List Slot) : ReportEntry :=
  { ReportEntry.unbound with bound := some 6, slots := slots, ready := true, staleTimer := some 1500 }

def bindTo (k : ReportKind) (slots : List Slot) (s : State) : State :=
  { s with bus := setEntry k (boundEntry slots) s.bus }

def baselined (k : ReportKind) (v : Word) (slots : List Slot) (s : State) : State :=
  { s with bus := setEntry k { boundEntry slots with base1 := some v } s.bus }

/-- A FUEL FLOW entry bound to station 6 with a baseline of its run seconds. -/
def baseline2 (v : Word) (slots : List Slot) : ReportEntry := { boundEntry slots with base2 := some v }

def chimeOf (src : ChimeSource) (pat : ChimePattern) (prio n order : Nat) (sounding : Bool) : ChimeRequest :=
  { source := src, pattern := pat, priority := prio, remaining := n, order := order, sounding := sounding }

def withChimes (rs : List ChimeRequest) (s : State) : State :=
  { s with chime := { s.chime with requests := rs, elementTimer := some 100 } }

def recordOf (o : MsgOrigin) (x : Text) (prio : Nat) (mx : Option Nat) (order : Nat) (showing : Bool) : MsgRecord :=
  { origin := o, text := x, priority := prio, maxShow := mx, shown := 0, since := 0, order := order, showing := showing }

def withRecords (rs : List MsgRecord) (s : State) : State :=
  { s with msg := { s.msg with queue := rs, minTimer := some 2000, maxTimer := some 4000 } }

def txOf (k : FrameKind) (target : Nat) (inFlight : Bool) (order : Nat) : TxEntry :=
  { id := { kind := k, target := target, selector := none }, slots := List.replicate (kindSlots k) (some 0),
    replacement := none, periodic := false, order := order, unanswered := 0, holds := 0, retry := none,
    inFlight := inFlight }

def withTx (es : List TxEntry) (s : State) : State :=
  { s with port := { s.port with queue := es, nextOrder := es.length } }

def withIntake (n : Nat) (c : Command) (s : State) : State := { s with port := { s.port with intake := [⟨n, c⟩] } }

def withWarn (n : Nat) (e : WarnEntry) (s : State) : State := modifyWarn n (fun _ => e) s

def activeEntry : WarnEntry := { WarnEntry.clear with status := .active, count := 1 }

/-- A car that stands: CHASSIS fresh with speed 0. -/
def standing (s : State) : State := bindTo .chassis [some 0, some 0, some 0] s

/-- Eight frames of other kinds waiting, none a mirror. -/
def fullTx : List TxEntry := (List.range 8).map (fun i => txOf .demand (i + 2) false i)

def openJ : Journey := { number := 1, startClock := none, distance := 0, fuel := 0, elapsed := 0, waiting := 0 }

/-! ### Single steps -/

set_option maxRecDepth 8000 in
/-- 04 "One Delta, Three Steps": 700 pulses at K = 3,000 give three steps and leave a residue of 50. -/
theorem test_three_steps :
    let s := baselined .chassis 1000 [some 1000, some 0, some 0]
      { running with
        straps := strapsOf 1 1 false
        trip := { running.trip with pulseResidue := 250, odometer := 1234598, tripA := ⟨99998, 0, 0⟩,
                                    tripB := ⟨5000, 0, 0⟩, segSteps := 8, segCount := 380, rangeBasis := 176 }
        fuel := { running.fuel with senderWatch := 12 } }
    let t := after (.reportArrival .chassis (frameFrom 6 [some 1700, some 0, some 0])) s
    t.trip.pulseResidue = 50 ∧ t.trip.odometer = 1234601 ∧ t.trip.tripA.distance = 1
      ∧ t.trip.tripB.distance = 5003 ∧ t.fuel.senderWatch = 15 := by decide

/-- 03 TABLE 3-5 at t = 2,000: a difference of 745 and the weight 64 give a step of 11. -/
theorem test_filter_step :
    (after .correctionTimerExpiry { running with fuel := { running.fuel with
      mainRing := [915, 932, 915, 932, 932], mainEst := some 180 } }).fuel.mainEst = some 191 := by decide

/-- 09 TABLE 9-7 at t = 2,000: the coolant record displaces the charging record. -/
theorem test_displacement :
    let s := withRecords [recordOf (.warning 3) (.warning 3) 2 none 1 true,
                          recordOf (.warning 2) (.warning 2) 1 none 2 false] { running with now := 2000 }
    (after .minimumShowTimeExpiry s).disp.image.chars = "COOLANT HOT     ".toList := by decide

/-- 09 TABLE 9-4: trip A of 04 TABLE 4-4 as shown. -/
theorem test_readouts :
    let s := { running with trip := { running.trip with tripA := ⟨1234, 45000, 5400⟩ } }
    readoutChars s = "A 123.4 KM".toList
    ∧ readoutChars { s with disp := { s.disp with readout := 2 } } = "A 18.2 L/100KM".toList
    ∧ readoutChars { s with disp := { s.disp with readout := 4 } } = "A 1:30:00".toList
    ∧ readoutChars { s with disp := { s.disp with readout := 3 }, straps := strapsOf 1 2 true } = "A 50 MPH".toList := by
  decide

/-- 01 R17 and 04 R81: the mirror at 100.0 km/h by the units strap, and the summary of trip A of 04 TABLE 4-4. -/
theorem test_built_slots :
    let s := { running with bus := { running.bus with heldSpeed := some 1000 }
                            trip := { running.trip with tripA := ⟨1234, 45000, 5400⟩ } }
    mirrorSlots s = [some 100, none, none, some 0, none]
    ∧ (mirrorSlots { s with straps := strapsOf 1 2 true }).head? = some (some 62)
    ∧ tripSummarySlots s false = [some 0, some 123, some 182, some 82, some 90, some 225] := by decide

/-- 06 "The Next Ignition": item 1 OVERDUE at -8 km and item 5 SOON at 640 km. -/
theorem test_service_status :
    serviceStatusSlots { running with service := { running.service with
      items := (List.range 8).map (fun i => ⟨if i = 0 then -8 else if i = 4 then 640 else 5000, none,
        if i = 0 then .overdue else if i = 4 then .soon else .counting, false, false⟩) } }
      = [some 259, some 1, some 65528] := by decide

/-- 12 R171: the standby supply begins SETTLE for 50 ms. -/
theorem test_supply_up : (after (.standbySupplyUp false false) State.reset).power.startTimer = some 50 := by decide

/-! ### Witnesses: the machine -/

theorem witness_StepRunsFrontCommand : running.pending = [] := rfl

theorem witness_OnlyStoreWritesChangeMemory :
    Instr.clockSecond ≠ .writeComplete ∧ ∀ cut, Instr.clockSecond ≠ .standbySupplyLoss cut := by
  refine ⟨by decide, fun cut h => by cases h⟩

/-- The running state, settled: what every step from it keeps. -/
def current : State := settled running

theorem witness_SleepTimerAndImageStayCurrent_step :
    currentHolds current = true ∧ ∃ t, step { current with pending := [.clockSecond] } = .next t :=
  ⟨by decide, _, rfl⟩

theorem witness_SleepTimerAndImageStayCurrent_runs :
    watching.power.mode = .watch ∧ sleepConditions watching = true
    ∧ ({ watching with power := { watching.power with sleepTimer := some 7 } } : State).power.sleepTimer = some 7
    ∧ watching.power.sleepTimer = none := by decide

theorem witness_SleepTimerAndImageStayCurrent_image :
    composeImage running ≠ running.disp.image ∧ running.disp.transfer = none
    ∧ ({ running with disp := { running.disp with transfer := some .dark } } : State).disp.transfer ≠ none := by
  decide

/-! ### Witnesses: bounds -/

/-- A part in RUN with something in every queue. -/
def busy : State :=
  let chimes := [chimeOf (.warning 1) .fast 1 0 0 true, chimeOf (.peer 30) .call 3 9 1 false]
  let records := [recordOf (.warning 1) (.warning 1) 1 none 0 true, recordOf .rearCall .passengerCall 3 (some 10) 1 false]
  let s := withTx [txOf .demand 6 false 0] (withIntake 30 (.clockSet 1439) (withRecords records (withChimes chimes running)))
  { s with
    pending := [.clockSecond]
    nsp := { s.nsp with queue := [⟨0, 1, none⟩, ⟨127, 2, some 3⟩], memory := [(0, 5), (127, 0)] }
    fuel := { s.fuel with mainRing := [950], mainEst := some 950, auxRing := [600], auxEst := some 600 }
    trip := { s.trip with odometer := 9999999, speedLimit := 200, rangeBasis := 999 }
    clock := { s.clock with minutes := 1439, seconds := 59 }
    gauges := { s.gauges with g0 := ⟨720, .track, 0⟩, g2 := ⟨256, .hold, 99⟩ } }

theorem witness_bounds :
    memoryWf busy.nsp.memory = true ∧ writesWithin busy.nsp = true ∧ chimeSetWithin busy.chime = true
    ∧ messagesWithin busy.msg = true ∧ transmitWithin busy.port = true ∧ intakeWithin busy.port = true
    ∧ gatesHold busy = true ∧ silenceHolds busy = true ∧ gaugesWithin busy.gauges = true
    ∧ tripsWithin busy.trip = true ∧ clockWithin busy = true ∧ dipHolds busy.power = true
    ∧ fuelWithin busy = true ∧ usableFuel busy = some 1480 ∧ countersWithin busy = true
    ∧ banksWhole busy = true ∧ busy.warn.review = .closed ∧ writerHolds busy = true := by decide

theorem witness_bounds_step : ∃ t, step busy = .next t := ⟨_, rfl⟩

/-- A gate that is true with its entry raised, and a dip with an input active. -/
theorem witness_bounds_raised :
    gatesHold (withWarn 2 activeEntry running) = true
    ∧ dipHolds ({ running with power := { running.power with dip := true, crank := true } } : State).power = true
    ∧ silenceHolds (listenOnly running) = true ∧ silenceHolds State.reset = true
    ∧ writerHolds { dipped running with nsp := { running.nsp with writer := .trying 0 true none } } = true := by decide

/-! ### Witnesses: frames and records -/

theorem witness_CharactersAreHeardAsTheirFrame :
    frameWf ⟨7, 30, kindCode .tripSummary, 30, true, true, [none, some 1, none, some 65535, none]⟩ = true
    ∨ frameWf ⟨7, 30, kindCode .presence, 0, true, true, [some 65535]⟩ = true := by decide

theorem witness_frame_of_a_code_not_in_the_table :
    frameWf ⟨0, 1, 0xFF, 30, false, true, [none, some 1, some 2, some 3, some 4, some 0xFFFF]⟩ = true := by decide

/-- Cells of a frame of another part, after its last character a recessive cell, a dominant stop cell and a run. -/
theorem witness_CharactersAreHeard_cells :
    [false, true, true, false, false, true, false, true].length = 8 ∧ 10 ≤ 10 ∧ 12 ≤ 12 := by decide

theorem witness_StoredRecords_odometer :
    wordsAt [(14, 0x9896), (15, 0x7F52)] (2 * 7) 2 = odometerWords 9999999 := by decide

theorem witness_StoredRecords_item :
    ((none : Option Int) = none ↔ hoursInterval 1 8 = none) ∨ hoursInterval 1 8 ≠ none := by decide

theorem witness_StoredRecords_hours :
    let x : Item := { km := -9999, hours := some (-9999), state := .overdue, moved := false, dirty := false }
    (x.hours = none ↔ hoursInterval 1 1 = none) ∧ (∀ h ∈ x.hours, -9999 ≤ h ∧ h ≤ 15000) := by
  refine ⟨by decide, ?_⟩
  intro h k
  cases k
  omega

theorem witness_StoredRecords_journey :
    let j : Journey := ⟨65535, some 1439, 65535, 65535, 65535, 65535⟩
    j.number < 65536 ∧ (∀ m ∈ j.startClock, m ≤ 1439) ∧ j.waiting < 65536 := by
  refine ⟨by decide, ?_, by decide⟩
  intro m k
  cases k
  omega

/-! ### Witnesses: power -/

theorem witness_SupplyBeginsAndEndsTheState :
    State.reset.power.mode = .offline ∧ busy.power.mode ≠ .offline ∧ memoryWf busy.nsp.memory = true := by decide

theorem witness_StrapsAreSampledAfterSettle : settling.power.mode = .starting .settle := rfl

theorem witness_LoadTakesTheStoredRecords : loading.power.mode = .starting .load ∧ banksWhole loading = true := by
  decide

theorem witness_FailedLoadLosesEveryRecord :
    let s := { loading with nsp := { loading.nsp with loadTries := 19 } }
    s.power.mode = .starting .load ∧ banksWhole s = true ∧ 19 ≤ s.nsp.loadTries
    ∧ Instr.loadComplete false ≠ .busyPollRetry .commandUnacked := by decide

theorem witness_ListenEndsInRunOrWatch :
    listening.power.mode = .starting .listen ∧ gatesHold listening = true ∧ listening.port.queue = []
    ∧ gatesHold (listenOnly listening) = true := by decide

theorem witness_IgnitionOnEntersRun :
    watching.power.mode = .watch ∧ settling.power.mode = .starting .settle := by decide

theorem witness_IgnitionOffEntersWatch : running.power.mode = .run ∧ running.nsp.queue.length ≤ 14 := by decide

theorem witness_SleepEntryQuietsThePart :
    let s := { watching with power := { watching.power with sleepTimer := some 5 } }
    s.power.mode = .watch ∧ s.power.sleepTimer ≠ none := by decide

theorem witness_WakeStartLeavesSleep : sleeping.power.mode = .sleep ∧ sleeping.power.ignOn = true := by decide

theorem witness_SupplyDipFollowsItsInputs :
    running.power.mode ≠ .offline ∧ running.power.dip = false
    ∧ (let s := { running with power := { running.power with dip := true, crank := true } }
       s.power.dip = true ∧ (s.power.crank || s.power.lowv) = true)
    ∧ (let s := { running with power := { running.power with dip := true, settleTimer := some 500 } }
       s.power.settleTimer ≠ none ∧ s.power.mode = .run) := by decide

/-- A dip that ends in WATCH, in SLEEP and in STARTING, and with a request that starts or that hush holds. -/
theorem witness_SupplyDipEnds :
    let ending (m : PowerMode) : State :=
      { running with power := { running.power with mode := m, dip := true, settleTimer := some 500 } }
    let waiting := withChimes [chimeOf (.warning 3) .triple 2 1 0 false] (ending .watch)
    let hushed := withChimes [chimeOf (.warning 8) .single 4 1 0 false]
      (bindTo .rearConsole [some 0, some 1] (ending .run))
    ((ending .watch).power.settleTimer ≠ none ∧ (ending .sleep).power.settleTimer ≠ none
      ∧ (ending (.starting .load)).power.settleTimer ≠ none ∧ awake (ending .sleep) = false
      ∧ awake (ending (.starting .load)) = false)
    ∧ (awake waiting = true ∧ chimeSetWithin waiting.chime = true ∧ soundingRequest waiting = none
      ∧ waiting.straps.address.isSome = true ∧ waiting.port.queue.length < 8
      ∧ soundingSource (after .supplyDipEnd waiting) ≠ soundingSource waiting)
    ∧ (chimeSetWithin hushed.chime = true ∧ soundingRequest hushed = none ∧ hush hushed = true
      ∧ soundingRequest (after .supplyDipEnd hushed) = none) := by decide

theorem witness_RestartRequestsAreCarriedOut :
    awake running = true
    ∧ (withIntake 30 .rosterRefresh running).port.intake = [⟨30, .rosterRefresh⟩]
    ∧ (withIntake 30 .warmRestart running).port.intake = [⟨30, .warmRestart⟩]
    ∧ running.straps.address.isSome = true ∧ running.port.queue.length ≤ 6 := by decide

theorem witness_RestartRequests_presence :
    let s := withIntake 30 .warmRestart (withTx [txOf .presence 0 true 0, txOf .demand 6 false 1] running)
    awake s = true ∧ s.straps.address.isSome = true ∧ s.port.queue.length ≤ 6
    ∧ (listenOnly s).straps.address = none ∧ awake (listenOnly s) = true := by decide

/-! ### Witnesses: frames heard -/

theorem witness_HeardFramesUpdateTheRoster :
    banksWhole running = true
    ∧ heardBy running (fitsKind .rollCall (frameFrom 30 [])) (frameFrom 30 []) = true
    ∧ heardBy running (fitsKind .presence (frameFrom 2 [none])) (frameFrom 2 [none]) = true
    ∧ heardBy running (fitsKind (reportFrameKind .fuelFlow) (frameFrom 2 [none, none])) (frameFrom 2 [none, none]) = true
    ∧ heardBy running (lengthFits 0x60 [some 1, none]) (frameFrom 2 [some 1, none]) = true
    ∧ goesNoFurther running.straps.address 0x60 12 = true := by decide

/-- Frames that carry the part's own address: of every command that brings a heard frame. -/
theorem witness_HeardFrames_clash :
    receives running = true ∧ running.straps.address = some 1 ∧ isStation 1 = true
    ∧ fitsKind .presence (frameFrom 1 [some 0]) = true ∧ fitsKind .rollCall (frameFrom 1 []) = true
    ∧ fitsKind (reportFrameKind .fuelFlow) (frameFrom 1 [none, none]) = true
    ∧ lengthFits 0x60 (frameFrom 1 [some 1, none]).slots = true
    ∧ goesNoFurther running.straps.address 0x60 30 = true := by decide

/-- In WATCH the frame of a TANK report finds the sleep timer running under the sleep conditions. -/
theorem witness_HeardFrames_sleepTimer :
    let s := settled { watching with disp := { watching.disp with transfer := none } }
    let h := frameFrom 2 [none, none, none]
    s.power.mode = .watch ∧ s.power.sleepTimer ≠ none ∧ banksWhole s = true
    ∧ heardBy s (fitsKind (reportFrameKind .tank) h) h = true
    ∧ sleepConditions (after (.reportArrival .tank h) s) = true := by decide

theorem witness_HeardFrames_rollCall :
    heardBy running (fitsKind .rollCall (frameFrom 2 [])) (frameFrom 2 []) = true ∧ mayQueue running = true
    ∧ running.port.queue.length < 8 ∧ (∀ e ∈ running.port.queue, e.id ≠ broadcastId .presence)
    ∧ (∃ e ∈ (withTx [txOf .presence 0 false 0] running).port.queue, e.id = broadcastId .presence)
    ∧ mayQueue (listenOnly running) = false
    ∧ heardBy (listenOnly running) (fitsKind .rollCall (frameFrom 2 [])) (frameFrom 2 []) = true := by decide

/-- The items at the ends of their countdown: one whole km and 360 run seconds away. -/
theorem witness_ServiceItemsCountDown :
    (1 ∈ itemNumbers ∧ hoursInterval 1 1 ≠ none ∧ hoursInterval 1 3 = none)
    ∧ (let s := baselined .chassis 65535 [some 65535, some 0, some 0]
         { running with trip := { running.trip with odometer := 9999999 } }
       let h := frameFrom 6 [some 4095, some 0, some 0]
       heardBy s (fitsKind .chassis h) h = true ∧ (entryIn s .chassis).bound = some h.source
       ∧ (entryIn s .chassis).base1 = some 65535 ∧ slotAt h.slots 1 = some 4095 ∧ h.first = false
       ∧ ((4095 : Word) - 65535).toNat = 4096 ∧ s.trip.odometer = 9999999 ∧ banksWhole s = true
       ∧ countersWithin s = true)
    ∧ (let s := { running with bus := setEntry .fuelFlow (baseline2 65535 [some 0, some 65535]) running.bus
                               service := { running.service with hoursResidue := 296 } }
       let h := frameFrom 6 [none, some 63]
       heardBy s (fitsKind .fuelFlow h) h = true ∧ (entryIn s .fuelFlow).bound = some h.source
       ∧ (entryIn s .fuelFlow).base2 = some 65535 ∧ slotAt h.slots 2 = some 63 ∧ h.first = false
       ∧ ((63 : Word) - 65535).toNat = 64 ∧ banksWhole s = true ∧ countersWithin s = true
       ∧ s.service.hoursResidue + 64 = 360) := by decide

/-- One whole km: the distance step that the odometer's last tenth takes. -/
theorem witness_ServiceItemsCountDown_km :
    let s := baselined .chassis 0 [some 0, some 0, some 0]
      { running with trip := { running.trip with odometer := 9, pulseResidue := 0 } }
    min 9999999 (s.trip.odometer + (s.trip.pulseResidue + 400) / pulsesPerStep s.straps.pulseSel) / 10
      - s.trip.odometer / 10 = 1
    ∧ -9999 < (itemOf s 1).km := by decide

set_option maxRecDepth 8000 in
/-- Two whole-km marks in one arrival: item 1 comes to a multiple of 100 at the first of them, item 2 at none. -/
theorem witness_ServiceItemsCountDown_marks :
    let s := baselined .chassis 0 [some 0, some 0, some 0]
      { running with
        trip := { running.trip with odometer := 1239, pulseResidue := 399 }
        service := { running.service with items := running.service.items.map (fun x => { x with km := 151 }) } }
    let u := modifyItem 1 (fun x => { x with km := 101 }) s
    let h := frameFrom 6 [some 4096, some 0, some 0]
    heardBy u (fitsKind .chassis h) h = true ∧ (entryIn u .chassis).bound = some h.source
    ∧ (entryIn u .chassis).base1 = some 0 ∧ banksWhole u = true ∧ countersWithin u = true
    ∧ min 9999999 (u.trip.odometer + (399 + 4096) / pulsesPerStep u.straps.pulseSel) / 10 - u.trip.odometer / 10 = 2
    ∧ min 2 ((itemOf u 1).km + 9999).toNat = 2 ∧ ((itemOf u 1).km - 1) % 100 = 0 ∧ ((itemOf u 1).km - 2) % 100 ≠ 0
    ∧ ((itemOf u 2).km - 1) % 100 ≠ 0 ∧ ((itemOf u 2).km - 2) % 100 ≠ 0 := by decide

set_option maxRecDepth 8000 in
/-- A tenth of an hour taken: a remainder that comes to a multiple of 100, one that does not, and one at its stop. -/
theorem witness_ServiceItemsCountDown_hours :
    let with_ (x y : Int) : State :=
      { running with
        bus := setEntry .fuelFlow (baseline2 65535 [some 0, some 65535]) running.bus
        service := { running.service with
          hoursResidue := 296
          items := (running.service.items.modify 0 (fun i => { i with hours := some x })).modify 1
            (fun i => { i with hours := some y }) } }
    let h := frameFrom 6 [none, some 63]
    let c := Instr.reportArrival .fuelFlow h
    heardBy (with_ 101 151) (fitsKind .fuelFlow h) h = true ∧ countersWithin (with_ 101 151) = true
    ∧ (itemOf (after c (with_ 101 151)) 1).hours = some 100 ∧ (itemOf (after c (with_ 101 151)) 2).hours = some 150
    ∧ (itemOf (after c (with_ (-9999) 0)) 1).hours = some (-9999) := by decide

theorem witness_ColdPresenceDropsBaselines :
    let s := baselined .chassis 7 [some 7, some 0, some 0] running
    let h := frameFrom 6 [some 0]
    heardBy s (fitsKind .presence h) h = true ∧ banksWhole s = true ∧ slotAt h.slots 1 = some 0
    ∧ (entryIn s .chassis).bound = some h.source := by decide

theorem witness_ReportsBindOrAreIgnored :
    let h := frameFrom 2 [some 65535, some 1]
    (heardBy running (fitsKind (reportFrameKind .fuelFlow) h) h = true ∧ acceptedBy running .fuelFlow h = true
      ∧ banksWhole running = true ∧ slotAt h.slots 1 = some 65535)
    ∧ (let s := bindTo .fuelFlow [none, none] running
       (entryIn s .fuelFlow).bound = some 6 ∧ 6 ≠ h.source ∧ (entryIn s .fuelFlow).stale = false
       ∧ heardBy s (fitsKind (reportFrameKind .fuelFlow) h) h = true) := by decide

/-- Cumulative slots that arrive invalid: from the bound source, from one that rebinds a stale entry, and at an
unbound entry. -/
theorem witness_ReportsBind_baselines :
    let h := frameFrom 6 [none, none, none]
    let other := { boundEntry [some 7, some 0, some 0] with bound := some 2, base1 := some 7, stale := true }
    let stale := { running with bus := setEntry .chassis other running.bus }
    (let s := baselined .chassis 7 [some 7, some 0, some 0] running
     heardBy s (fitsKind (reportFrameKind .chassis) h) h = true ∧ acceptedBy s .chassis h = true
     ∧ banksWhole s = true ∧ (entryIn s .chassis).bound = some h.source ∧ slotAt h.slots 1 = none)
    ∧ (heardBy stale (fitsKind (reportFrameKind .chassis) h) h = true ∧ acceptedBy stale .chassis h = true
      ∧ banksWhole stale = true ∧ (entryIn stale .chassis).bound ≠ some h.source)
    ∧ acceptedBy running .chassis h = true := by decide

/-- Arrivals that yield no delta: with FIRST, from a source without a baseline, and with the slot invalid. -/
theorem witness_NoDelta :
    let s := baselined .chassis 7 [some 7, some 0, some 0] running
    let first : Heard := { source := 6, ready := true, first := true, slots := [some 9, some 0, some 0] }
    (heardBy s (fitsKind .chassis first) first = true ∧ acceptedBy s .chassis first = true ∧ first.first = true)
    ∧ (entryIn (bindTo .chassis [some 7, some 0, some 0] running) .chassis).base1 = none
    ∧ acceptedBy running .fuelFlow (frameFrom 6 [some 1, some 1]) = true
    ∧ heardBy running (fitsKind .fuelFlow (frameFrom 6 [some 1, some 1])) (frameFrom 6 [some 1, some 1]) = true
    ∧ (entryIn running .fuelFlow).bound ≠ some 6 ∧ (entryIn running .fuelFlow).base2 = none
    ∧ slotAt (frameFrom 6 [none, some 1]).slots 1 = none := by decide

theorem witness_ChassisPulsesBecomeDistance :
    let s := baselined .chassis 65000 [some 65000, some 0, some 0] running
    let h := frameFrom 6 [some 3560, some 0, some 0]
    heardBy s (fitsKind .chassis h) h = true ∧ (entryIn s .chassis).bound = some h.source
    ∧ (entryIn s .chassis).base1 = some 65000 ∧ slotAt h.slots 1 = some 3560 ∧ h.first = false
    ∧ tripsWithin s.trip = true ∧ countersWithin s = true ∧ banksWhole s = true
    ∧ s.trip.pulseResidue < pulsesPerStep s.straps.pulseSel ∧ ((3560 : Word) - 65000).toNat = 4096 := by decide

/-- The tenth step of the segment, and the step before it. -/
theorem witness_ChassisPulses_segment :
    let s := { running with trip := { running.trip with segSteps := 9 } }
    tripsWithin s.trip = true ∧ countersWithin s = true ∧ pulsesPerStep s.straps.pulseSel = 400
    ∧ s.trip.segSteps + 0 / 400 < 10 ∧ s.trip.segSteps + 400 / 400 = 10 ∧ s.trip.segSteps + 4096 / 400 = 19
    ∧ pulsesPerStep 0 = 250 ∧ s.trip.segSteps + 4096 / 250 = 25 := by decide

theorem witness_FuelCountsReachTheirConsumers :
    let s := baselined .fuelFlow 65535 [some 65535, some 0]
      { running with journey := { running.journey with openJourney := some openJ, residue := 199 },
                     fuel := { running.fuel with mainEst := some 1, residue := 199 } }
    let h := frameFrom 6 [some 1023, some 0]
    heardBy s (fitsKind .fuelFlow h) h = true ∧ (entryIn s .fuelFlow).bound = some h.source
    ∧ (entryIn s .fuelFlow).base1 = some 65535 ∧ slotAt h.slots 1 = some 1023 ∧ h.first = false
    ∧ tripsWithin s.trip = true ∧ s.trip.segCount ≤ 4294967295 ∧ s.fuel.residue < 200
    ∧ s.journey.residue < 200 ∧ openJ.fuel ≤ 65535 ∧ s.fuel.mainEst ≠ none ∧ s.service.hoursResidue < 360
    ∧ (let u := { running with bus := setEntry .fuelFlow (baseline2 65472 [some 0, some 0]) running.bus }
       (entryIn u .fuelFlow).base2 = some 65472 ∧ slotAt h.slots 2 = some 0
       ∧ ((0 : Word) - 65472).toNat = 64) := by decide

theorem witness_TankArrivalFeedsItsRings :
    let h := frameFrom 6 [some 255, some 0, some 1]
    heardBy running (fitsKind .tank h) h = true ∧ acceptedBy running .tank h = true ∧ banksWhole running = true
    ∧ slotAt h.slots 1 = some 255 ∧ slotAt h.slots 2 = some 0 ∧ slotAt h.slots 3 = some 1
    ∧ (auxCurve running.straps.variant).isSome = true ∧ running.power.dip = false
    ∧ running.fuel.pumpTimer = none ∧ (dipped running).power.dip = true
    ∧ acceptedBy (dipped running) .tank h = true ∧ slotAt (frameFrom 6 [none, none, some 2]).slots 3 = some 2 := by
  decide

theorem witness_ReportsReachTheirWarnings :
    (let h := frameFrom 2 [some 0, some 0, some 0, some 0, some 1]
     heardBy running (fitsKind .engine h) h = true ∧ acceptedBy running .engine h = true ∧ h.ready = true
     ∧ slotAt h.slots 5 = some 1 ∧ running.warn.engineTimer = none ∧ running.warn.engineEst = false)
    ∧ (let h := frameFrom 4 [some 1, some 0]
       heardBy running (fitsKind .bodyDoors h) h = true ∧ acceptedBy running .bodyDoors h = true
       ∧ slotAt h.slots 1 = some 1 ∧ warnEntry running 23 = .clear ∧ awake running = true
       ∧ banksWhole running = true)
    ∧ (let h := frameFrom 5 [some 2, some 0, some 16]
       heardBy running (fitsKind .bodyLamps h) h = true ∧ acceptedBy running .bodyLamps h = true
       ∧ slotAt h.slots 1 = some 2 ∧ slotAt h.slots 3 = some 16) := by decide

/-- Headlamps on at level 3 heard in LISTEN: the dark image takes the level and is sent at once (09 R141). -/
theorem witness_Reports_dim_the_dark_image :
    let h := frameFrom 5 [some 2, some 0, some 3]
    heardBy listening (fitsKind .bodyLamps h) h = true ∧ acceptedBy listening .bodyLamps h = true
    ∧ awake listening = false ∧ banksWhole listening = true ∧ listening.disp.transfer = none
    ∧ (let t := after (.reportArrival .bodyLamps h) listening
       t.disp.image ≠ listening.disp.image
       ∧ t.disp.transfer = some { chars := List.replicate 16 ' ', brightness := 3, lit := false }) := by decide

/-- The dark image is sent in STARTING (09 R141). -/
theorem test_cold_start_sends_the_dark_image :
    (after (.standbySupplyUp false false) State.reset).disp.transfer
      = some { chars := List.replicate 16 ' ', brightness := 15, lit := false } := by decide

theorem witness_RearCallPostsItsMessage :
    let s := bindTo .rearConsole [some 65535, some 0] running
    let h := frameFrom 6 [some 0, some 0]
    heardBy s (fitsKind .rearConsole h) h = true ∧ (entryIn s .rearConsole).bound = some h.source
    ∧ slotAt (entryIn s .rearConsole).slots 1 = some 65535 ∧ slotAt h.slots 1 = some 0 ∧ h.first = false
    ∧ s.msg.queue.length < 8 ∧ awake s = true ∧ s.chime.requests.length < 8
    ∧ (let full := withChimes ((List.range 8).map (fun i => chimeOf (.peer (i + 1)) .single 4 1 i (i = 0))) s
       full.chime.requests.length = 8 ∧ sourcePresent .rearCall full.chime.requests = false) := by decide

/-- Arrivals that post nothing: with FIRST, with the counter as before, with none, after none, and one that binds. -/
theorem witness_RearCall_posts_nothing :
    let s := bindTo .rearConsole [some 65535, some 0] running
    let u := bindTo .rearConsole [none, some 0] running
    let h := frameFrom 6 [some 0, some 0]
    heardBy s (fitsKind .rearConsole { h with first := true }) { h with first := true } = true
    ∧ slotAt (frameFrom 6 [some 65535, some 0]).slots 1 = slotAt (entryIn s .rearConsole).slots 1
    ∧ slotAt (frameFrom 6 [none, some 0]).slots 1 = none ∧ slotAt (entryIn u .rearConsole).slots 1 = none
    ∧ heardBy running (fitsKind .rearConsole h) h = true ∧ acceptedBy running .rearConsole h = true
    ∧ (entryIn running .rearConsole).bound ≠ some h.source := by decide

/-- A frame heard, with the answer the table gives it, in a state that may answer. -/
def answeredWith (s : State) (k : FrameKind) (source : Nat) (slots : List Slot) (a : Answer) : Bool :=
  heardBy s (lengthFits (kindCode k) slots) (frameFrom source slots) && mayQueue s
    && tableAnswer s (kindCode k) (frameFrom source slots) = a

/-- Four commands wait in the intake queue. -/
def fullIntake (s : State) : State :=
  { s with port := { s.port with intake := List.replicate 4 ⟨2, .clockSet 0⟩ } }

/-- A chime set full of requests of priority 3. -/
def fullChimes (s : State) : State :=
  withChimes ((List.range 8).map (fun i => chimeOf (.peer (i + 10)) .call 3 1 i (i = 0))) s

/-- 10 TABLE 10-5: each range at its two ends, and HOLD with the queue full, for every kind. -/
theorem witness_AddressedFrames_ranges :
    answeredWith running .demand 2 [some 63, some 9] .take = true
    ∧ answeredWith running .demand 2 [some 64, none] .refuse = true
    ∧ answeredWith running .demand 2 [some 63, some 10] .refuse = true
    ∧ answeredWith (fullIntake running) .demand 2 [some 63, none] .hold = true
    ∧ answeredWith running .chimeRequest 2 [some 7, some 9] .take = true
    ∧ answeredWith running .chimeRequest 2 [some 8, some 9] .refuse = true
    ∧ answeredWith running .chimeRequest 2 [some 7, some 10] .refuse = true
    ∧ answeredWith (fullIntake running) .chimeRequest 2 [some 0, some 0] .hold = true
    ∧ answeredWith running .notice 2 [some 15, some 30] .take = true
    ∧ answeredWith running .notice 2 [some 16, some 30] .refuse = true
    ∧ answeredWith running .notice 2 [some 0, some 31] .refuse = true
    ∧ answeredWith running .notice 2 [some 0, some 0] .refuse = true
    ∧ answeredWith (fullIntake running) .notice 2 [some 0, some 1] .hold = true
    ∧ answeredWith running .clockSet 2 [some 1439] .take = true
    ∧ answeredWith running .clockSet 2 [some 1440] .refuse = true
    ∧ answeredWith running .clockSet 2 [none] .refuse = true
    ∧ answeredWith (fullIntake running) .clockSet 2 [some 0] .hold = true := by decide

/-- The service commands of TABLE 10-5, and the full chime set of 08 R130. -/
theorem witness_AddressedFrames_service :
    answeredWith (standing running) .serviceReset 30 [some 8] .take = true
    ∧ answeredWith (standing running) .serviceReset 30 [some 9] .refuse = true
    ∧ answeredWith (standing running) .serviceReset 29 [some 8] .refuse = true
    ∧ answeredWith running .serviceReset 30 [some 8] .refuse = true
    ∧ answeredWith (fullIntake (standing running)) .serviceReset 30 [some 0] .hold = true
    ∧ answeredWith running .restartRequest 30 [some 1] .take = true
    ∧ answeredWith running .restartRequest 30 [some 3] .refuse = true
    ∧ answeredWith (fullIntake running) .restartRequest 30 [some 2] .hold = true
    ∧ answeredWith (standing running) .journeyClear 30 [] .take = true
    ∧ answeredWith running .journeyClear 30 [] .refuse = true
    ∧ answeredWith (fullIntake (standing running)) .journeyClear 30 [] .hold = true
    ∧ answeredWith (fullChimes running) .chimeRequest 2 [some 6, some 1] .refuse = true
    ∧ answeredWith (fullChimes running) .chimeRequest 10 [some 6, some 1] .take = true
    ∧ answeredWith (fullChimes running) .chimeRequest 2 [some 6, some 0] .take = true
    ∧ answeredWith running .engine 2 [none, none, none, none, none] .refuse = true := by decide

theorem witness_AddressedFramesAreAnsweredByTheTable :
    mayQueue (listenOnly running) = false ∧ mayQueue listening = false
    ∧ heardBy (listenOnly running) (lengthFits 0x60 [some 1, none]) (frameFrom 2 [some 1, none]) = true
    ∧ heardBy running (lengthFits 0xFF [none]) (frameFrom 2 [none]) = true ∧ kindOfCode 0xFF = none
    ∧ mayQueue running = true ∧ tableAnswer running 0xFF (frameFrom 2 [none]) = .refuse := by decide

/-! ### Witnesses: commands of the intake queue -/

theorem witness_DemandIsMergedAndAnswered :
    let s := withIntake 30 (.demand 63 (some 9)) running
    awake s = true ∧ banksWhole s = true ∧ isStation 30 = true ∧ s.port.intake = [⟨30, .demand 63 (some 9)⟩]
    ∧ runs (demandOf s 30).wait = false ∧ s.port.queue.length ≤ 2
    ∧ runs (demandOf (modifyDemand 30 (fun d => { d with wait := some 50 }) s) 30).wait = true
    ∧ (let u := withIntake 30 (.demand 32 (some 9)) (withTx fullTx running)
       u.port.queue.length = 8 ∧ ((demandOf u 30).mask ||| 32).getLsbD 5 = true
       ∧ (∀ a < 5, ((demandOf u 30).mask ||| 32).getLsbD a = false)
       ∧ ∀ e ∈ u.port.queue, yieldingMirror e = false ∧ e.id ≠ (answerFrame u 30 9 5).1) := by decide

theorem witness_PeerPostsJoinTheirQueues :
    (withIntake 2 (.chime .call 9) running).port.intake = [⟨2, .chime .call 9⟩]
    ∧ (withIntake 2 (.chime .single 0) running).port.intake = [⟨2, .chime .single 0⟩]
    ∧ awake running = true ∧ running.chime.requests.length < 8
    ∧ (withIntake 2 (.notice 63 30) running).port.intake = [⟨2, .notice 63 30⟩] ∧ running.msg.queue.length < 8 := by
  decide

theorem witness_ServiceResetRestoresTheIntervals :
    (let s := standing (withIntake 30 (.serviceReset 0) running)
     banksWhole s = true ∧ awake s = true ∧ s.port.intake = [⟨30, .serviceReset 0⟩] ∧ carStopped s = true
     ∧ s.msg.queue.length < 7)
    ∧ (let s := standing { running with keys := { running.keys with reset := .held (.serviceReset 8 5000) } }
       s.power.mode = .run ∧ s.keys.reset = .held (.serviceReset 8 5000) ∧ carStandsStill s = true)
    ∧ carStopped (withIntake 30 (.serviceReset 0) running) = false := by decide

theorem witness_JourneyClearEmptiesTheRing :
    let s := standing (withIntake 30 .journeyClear running)
    awake s = true ∧ s.port.intake = [⟨30, .journeyClear⟩] ∧ carStopped s = true ∧ s.journey.openJourney = none
    ∧ carStopped (withIntake 30 .journeyClear running) = false := by decide

theorem witness_ClockIsSetAndCounts :
    (withIntake 2 (.clockSet 1439) running).port.intake = [⟨2, .clockSet 1439⟩] ∧ awake running = true
    ∧ running.clock.secondTimer ≠ none ∧ running.clock.seconds < 59 ∧ busy.clock.seconds = 59
    ∧ busy.clock.secondTimer ≠ none ∧ openJ.elapsed < 65535 ∧ openJ.waiting < 65535 := by decide

/-! ### Witnesses: transmission -/

theorem witness_AttemptSendsTheHeadOfTheQueue :
    let s := withTx [txOf .presence 0 false 0, txOf .demand 6 false 1] running
    awake s = true ∧ s.straps.address = some 1 ∧ s.port.holdOff = none ∧ s.port.pauseTimer = none
    ∧ s.port.sending = none ∧ s.port.wakeWanted = false ∧ s.port.lineHeld = false
    ∧ ∃ e ∈ s.port.queue, txEligible e = true := by decide

theorem witness_FailedAttemptsKeepTheirEntry :
    let s := withTx [txOf .presence 0 true 0] running
    s.power.mode ≠ .sleep ∧ (∃ e ∈ s.port.queue, e.inFlight = true) ∧ s.port.faultCount < 7
    ∧ (inMode .sleep s).power.mode = .sleep
    ∧ ({ s with port := { s.port with faultCount := 7 } } : State).port.faultCount = 7 := by decide

theorem witness_SentFramesLeaveByTheirAnswer :
    let e := txOf .demand 30 true 1
    let s := withTx ([txOf .presence 0 false 0] ++ e :: [txOf .demand 2 false 2]) running
    s.power.mode ≠ .sleep ∧ banksWhole s = true ∧ e.inFlight = true ∧ e.replacement = none ∧ e.id.target ≠ 0
    ∧ (txOf .presence 0 true 0).id.target = 0 ∧ isStation e.id.target = true
    ∧ ({ e with unanswered := 2 } : TxEntry).unanswered + 1 = 3 ∧ e.unanswered + 1 < 3
    ∧ ∀ x ∈ [txOf .presence 0 false 0] ++ [txOf .demand 2 false 2], x.inFlight = false := by decide

/-- An attempt that ends in SLEEP: its third UNANSWERED, and its contents replaced meanwhile. -/
theorem witness_Attempts_in_sleep :
    let e := { txOf .demand 30 true 1 with unanswered := 2 }
    let s := inMode .sleep (withTx ([] ++ e :: []) running)
    s.power.mode = .sleep ∧ banksWhole s = true ∧ e.inFlight = true ∧ e.id.target ≠ 0 ∧ isStation e.id.target = true
    ∧ e.replacement = none ∧ ({ e with replacement := some [none, none] } : TxEntry).replacement ≠ none
    ∧ s.port.faultCount < 7 ∧ (∃ x ∈ s.port.queue, x.inFlight = true)
    ∧ (inMode .sleep (withTx [txOf .presence 0 true 0] running)).power.mode = .sleep := by decide

theorem witness_LineDelaysEndWithTheirTimers :
    let s := { running with port := { running.port with wakeWanted := true } }
    mayQueue s = true ∧ s.port.wakeWanted = true ∧ s.port.lineHeld = false ∧ s.port.sending = none
    ∧ s.power.mode ≠ .offline ∧ s.power.mode ≠ .sleep := by decide

theorem witness_OwedFramesAreOfferedAgain :
    let s := { running with port := { running.port with owed := [(.presence, 50)] } }
    mayQueue s = true ∧ (∃ d, (Reoffer.presence, d) ∈ s.port.owed)
    ∧ ownedFrame s .presence = some (broadcastId .presence, [some 0])
    ∧ (∀ e ∈ s.port.queue, e.id ≠ broadcastId .presence) ∧ s.port.queue.length < 8
    ∧ (withTx fullTx s).port.queue.length = 8
    ∧ (∀ e ∈ (withTx fullTx s).port.queue, yieldingMirror e = false ∧ e.id ≠ broadcastId .presence) := by
  refine ⟨by decide, ⟨50, by decide⟩, by decide, by decide, by decide, by decide, by decide⟩

/-- A demand whose answering waits at bit 3: with room, and with the queue still full and bit 4 the first in turn. -/
theorem witness_OwedFrames_answers :
    let waiting (mask : BitVec 6) (s : State) : State :=
      modifyDemand 30 (fun _ => { mask := mask, index := 9, resume := 3, wait := some 50 }) s
    (let s := waiting 63 running
     mayQueue s = true ∧ banksWhole s = true ∧ isStation 30 = true ∧ (demandOf s 30).wait ≠ none
     ∧ (demandOf s 30).resume < 6 ∧ s.port.queue.length ≤ 2)
    ∧ (let s := waiting 18 (withTx fullTx running)
       8 ≤ s.port.queue.length ∧ (demandOf s 30).mask.getLsbD 4 = true ∧ (demandOf s 30).mask.getLsbD 1 = true
       ∧ (∀ a < 6, (a + 6 - 3) % 6 < (4 + 6 - 3) % 6 → (demandOf s 30).mask.getLsbD a = false)
       ∧ ∀ e ∈ s.port.queue, yieldingMirror e = false ∧ e.id ≠ (answerFrame s 30 9 4).1) := by decide

/-! ### Witnesses: timers -/

theorem witness_StationTimersAskAndReport :
    (let s := bindTo .tank [some 0, some 0, some 0] running
     (entryIn s .tank).bound = some 6 ∧ (entryIn s .tank).staleTimer ≠ none ∧ mayQueue s = true
     ∧ s.port.queue.length ≤ 6 ∧ carries (txOf .demand 6 false 0) [some 0, some 0] = true)
    ∧ (let s := modifyRoster 30 (fun r => { r with status := .live, timer := some 2000 }) running
       banksWhole s = true ∧ isStation 30 = true ∧ (rosterOf s 30).status = .live ∧ (rosterOf s 30).timer ≠ none)
    ∧ running.bus.mirrorTimer ≠ none ∧ mirrorDue running = false
    ∧ (let s := modifyRoster 6 (fun r => { r with status := .live }) (bindTo .rearConsole [some 0, some 0] running)
       mirrorDue s = true ∧ mayQueue s = true ∧ (∀ e ∈ s.port.queue, e.id ≠ broadcastId .clusterMirror)
       ∧ ∀ e ∈ (withTx fullTx s).port.queue, e.id ≠ broadcastId .clusterMirror)
    ∧ (let s := withWarn 7 activeEntry (bindTo .tank [some 0, some 0, some 0]
         { running with fuel := { running.fuel with stopTimer := some 5000 } })
       s.fuel.stopTimer ≠ none ∧ raised (warnEntry s 7) = true ∧ s.bus.tank.bound = some 6
       ∧ raised (warnEntry running 7) = false) := by decide

theorem witness_DampingStepMovesThePointers :
    running.gauges.dampTimer ≠ none ∧ gaugesWithin busy.gauges = true ∧ dampingTaken running = true
    ∧ dampingTaken (dipped running) = false ∧ busy.gauges.g2.holdCount + 1 = 100 := by decide

theorem witness_CorrectionMovesTheEstimate :
    let s := { running with fuel := { running.fuel with mainRing := List.replicate 16 950, mainEst := some 899,
                                                        auxRing := List.replicate 4 600 } }
    s.fuel.corrTimer ≠ none ∧ fuelWithin s = true ∧ s.power.dip = false ∧ s.fuel.mainRing.length = 16
    ∧ s.fuel.snapPending = true ∧ 899 + 50 < s.fuel.mainRing.sum / s.fuel.mainRing.length
    ∧ s.straps.variant ≠ 0 ∧ 4 ≤ s.fuel.auxRing.length ∧ running.fuel.mainRing.length < 4
    ∧ (dipped s).power.dip = true := by decide

theorem witness_RunningTimersCount :
    (let s := { running with
        gauges := { running.gauges with coilOffTimer := some 1 }
        fuel := { running.fuel with standTimer := some 1, pumpTimer := some 1 }
        warn := { running.warn with graceTimer := some 1, engineTimer := some 1 } }
     s.gauges.coilOffTimer ≠ none ∧ s.fuel.standTimer ≠ none ∧ s.fuel.pumpTimer ≠ none
     ∧ s.warn.graceTimer ≠ none ∧ s.warn.engineTimer ≠ none ∧ s.warn.flashTimer ≠ none)
    ∧ (let s := withWarn 1 { activeEntry with status := .noted, rechimeTimer := some 60000 } running
       banksWhole s = true ∧ isWarning 1 = true ∧ (warnEntry s 1).rechimeTimer ≠ none)
    ∧ running.trip.tripSecondTimer ≠ none ∧ running.trip.samplerTimer ≠ none
    ∧ (let s := { running with trip := { running.trip with pulseTotal := 40, ring := List.replicate 8 ⟨0, 0⟩ } }
       s.straps.imperial = false ∧ pulseConstant s.straps.pulseSel / 100 = 40
       ∧ (s.trip.ring.tail ++ [⟨s.trip.pulseTotal, 0⟩]).length = 8)
    ∧ (strapsOf 1 2 true).imperial = true ∧ ((1 : BitVec 32) - 0).toNat ≠ 0 := by decide

/-! ### Witnesses: keys, display and messages -/

def onReadout (n : Nat) (s : State) : State := { s with disp := { s.disp with readout := n } }
def settingMode (m : SetMode) (s : State) : State := { s with disp := { s.disp with setMode := m } }

theorem witness_PressesActByTheTable :
    awake running = true ∧ banksWhole running = true ∧ running.warn.review = .closed
    ∧ running.keys = Keys.cold ∧ findsDark .mode running = false ∧ findsDark .select (onReadout 4 running) = false
    ∧ findsDark .reset (settingMode .hours running) = false ∧ findsDark .note (settingMode .limit running) = false
    ∧ showingRecord running = none ∧ (onReadout 10 running).disp.readout = 10
    ∧ (settingMode .minutes running).disp.setMode = .minutes ∧ running.disp.setMode = .none := by decide

theorem witness_Presses_showing :
    let s := withRecords [recordOf (.warning 2) (.warning 2) 1 none 0 true] (withWarn 2 activeEntry running)
    let r := withRecords [recordOf .reminder (.service .due 8) 5 (some 4) 0 true] running
    showingRecord s = some (recordOf (.warning 2) (.warning 2) 1 none 0 true) ∧ (warnEntry s 2).status = .active
    ∧ showingRecord r = some (recordOf .reminder (.service .due 8) 5 (some 4) 0 true)
    ∧ findsDark .note s = false ∧ findsDark .reset r = false := by decide

/-- NOTE with the review at an entry, at NO WARNINGS, and on a reminder. -/
theorem witness_Presses_note :
    (let s := withWarn 24 { activeEntry with status := .noted }
       { running with warn := { running.warn with review := .entry 23, reviewTimer := some 2000 } }
     showingRecord s = none ∧ s.warn.review = .entry 23 ∧ findsDark .note s = false ∧ s.keys.note = .released
     ∧ s.disp.setMode = .none ∧ reviewable (warnEntry s 24) = true)
    ∧ (let s := { running with warn := { running.warn with review := .noWarnings, reviewTimer := some 2000 } }
       showingRecord s = none ∧ s.warn.review = .noWarnings ∧ findsDark .note s = false)
    ∧ (let s := withRecords [recordOf .reminder (.service .due 7) 5 (some 4) 0 true]
         { running with service := { running.service with cursor := some 7 } }
       (showingRecord s).map (fun r => r.origin) = some .reminder ∧ s.service.cursor = some 7
       ∧ findsDark .note s = false) := by decide

theorem witness_Presses_dark :
    findsDark .mode watching = true ∧ findsDark .select watching = true ∧ findsDark .reset watching = true
    ∧ findsDark .note watching = true ∧ findsDark .journey watching = true ∧ awake watching = true
    ∧ banksWhole watching = true ∧ keyOf watching.keys .journey = .released := by decide

def holdingJourney : State := { running with keys := { running.keys with journey := .held (.journey 2000) } }

theorem witness_JourneyKeyOpensAndCloses :
    running.keys.journey = .released ∧ findsDark .journey running = false
    ∧ holdingJourney.keys.journey = .held (.journey 2000) ∧ holdingJourney.journey.openJourney = none
    ∧ awake holdingJourney = true ∧ holdingJourney.msg.queue.length < 8
    ∧ (let s := { holdingJourney with journey := { holdingJourney.journey with openJourney := some openJ } }
       s.journey.openJourney = some openJ ∧ banksWhole s = true)
    ∧ ({ running with keys := { running.keys with reset := .held (.tripReset true 2000) } } : State).keys.reset
        = .held (.tripReset true 2000) ∧ Key.mode ≠ .journey := by decide

theorem witness_DisplayTimersChangeTheImage :
    let s := { watching with disp := { watching.disp with
      setTimer := some 1, blinkTimer := some 1, altTimer := some 1, displayTimer := some 1, transfer := some .dark } }
    s.disp.setTimer ≠ none ∧ s.disp.blinkTimer ≠ none ∧ s.disp.altTimer ≠ none ∧ s.disp.displayTimer ≠ none
    ∧ s.power.mode = .watch ∧ s.disp.transfer = some .dark := by decide

theorem witness_MessageTimersSelectTheNextRecord :
    (let s := withRecords [recordOf (.warning 3) (.warning 3) 2 none 1 true,
                           recordOf (.warning 2) (.warning 2) 1 none 2 false] running
     s.msg.minTimer ≠ none ∧ showingRecord s = some (recordOf (.warning 3) (.warning 3) 2 none 1 true)
     ∧ ∃ w ∈ s.msg.queue, w.showing = false ∧ w.priority < 2)
    ∧ (let s := withRecords [recordOf (.warning 3) (.warning 3) 2 none 1 true] running
       ∀ w ∈ s.msg.queue, w.showing = false → 2 ≤ w.priority)
    ∧ (let s := withRecords [recordOf .rearCall .passengerCall 3 (some 10) 1 true] running
       s.msg.maxTimer ≠ none ∧ showingRecord s = some (recordOf .rearCall .passengerCall 3 (some 10) 1 true))
    ∧ (let s := withRecords [recordOf .reminder (.service .due 8) 5 (some 4) 0 true]
         { running with service := { running.service with cursor := some 8, repostTimer := some 1000 } }
       s.msg.maxTimer ≠ none ∧ s.service.cursor = some 8 ∧ s.service.repostTimer ≠ none ∧ s.power.mode = .run
       ∧ s.msg.queue.length < 8)
    ∧ (let s := withRecords ((List.range 8).map (fun i => recordOf (.notice (i + 1)) (.notice i) 4 (some 30) i (i = 0))) running
       8 ≤ s.msg.queue.length ∧ ∀ r ∈ s.msg.queue, r.priority ≤ 5 ∧ r.origin ≠ .reminder) := by decide

/-- The maximum of a reminder with a next item due, alone and with two records waiting. -/
theorem witness_MessageTimers_maximum :
    let s := { running with service := { running.service with
      cursor := some 1, items := running.service.items.map (fun x => { x with state := .due }) } }
    let reminder := recordOf .reminder (.service .due 1) 5 (some 4) 0 true
    let alone := withRecords [reminder] s
    let more := withRecords [reminder, recordOf (.warning 3) (.warning 3) 2 none 1 false,
      recordOf (.warning 4) (.warning 4) 1 none 2 false] s
    (alone.msg.maxTimer ≠ none ∧ showingRecord alone = some reminder ∧ messagesWithin alone.msg = true
      ∧ alone.service.cursor = some 1 ∧ itemNumbers.find? (fun i => 1 < i && (itemOf alone i).state ≠ .counting) = some 2
      ∧ alone.msg.queue.filter (fun x => decide (x.origin ≠ .reminder)) = [])
    ∧ (showingRecord more = some reminder ∧ messagesWithin more.msg = true
      ∧ more.msg.queue.filter (fun x => decide (x.origin ≠ .reminder)) ≠ []) := by decide

/-! ### Witnesses: warnings, chimes and the store -/

theorem witness_EvaluationsFollowTheTable :
    let s := { running with faults := { running.faults with store := true } }
    s.warn.evalTimer ≠ none ∧ banksWhole s = true ∧ gateTrue s (warnDef 24).gate = true
    ∧ warnInput s (warnDef 24).input = some 1 ∧ warnInput s (warnDef 6).input = none
    ∧ gateTrue s (warnDef 22).gate = false := by decide

set_option maxRecDepth 8000 in
/-- A report of each sort that warnings judge: with READY, without it, and one that turns the ENGINE gate false. -/
theorem witness_Evaluations_of_reports :
    (let s := { standing running with warn := { running.warn with window := true } }
     let h := frameFrom 5 [some 7, some 100, some 0]
     heardBy s (fitsKind (reportFrameKind .bodyLamps) h) h = true ∧ acceptedBy s .bodyLamps h = true
     ∧ banksWhole s = true ∧ gatesHold s = true)
    ∧ (let s := withWarn 1 activeEntry { running with warn := { running.warn with engineEst := true, graceEnded := true } }
       let h := frameFrom 2 [some 0, some 0, some 0, some 0, some 0]
       heardBy s (fitsKind (reportFrameKind .engine) h) h = true ∧ acceptedBy s .engine h = true
       ∧ banksWhole s = true ∧ gatesHold s = true ∧ (warnEntry s 1).status = .active
       ∧ gateTrue s (warnDef 1).gate = true ∧ (warnEntry (after (.reportArrival .engine h) s) 1).status = .idle) := by
  decide

theorem witness_WarningTimersRunTheUnit :
    (let s := withWarn 1 { activeEntry with chimeOut := true, msgOut := true, reofferTimer := some 1 } running
     isWarning 1 = true ∧ banksWhole s = true ∧ (warnEntry s 1).reofferTimer ≠ none ∧ awake s = true
     ∧ s.chime.requests.length < 8 ∧ s.msg.queue.length < 8 ∧ (warnEntry s 1).chimeOut = true
     ∧ (warnDef 1).chime = some (.fast, 0) ∧ (warnEntry s 1).msgOut = true)
    ∧ (let s := withWarn 24 { activeEntry with status := .noted }
         { running with warn := { running.warn with review := .entry 1, reviewTimer := some 2000 } }
       s.warn.reviewTimer ≠ none ∧ s.warn.review = .entry 1 ∧ reviewable (warnEntry s 24) = true)
    ∧ ({ running with warn := { running.warn with provingTimer := some 3000 } } : State).warn.provingTimer ≠ none
    ∧ (let s := withWarn 11 activeEntry
         { running with warn := { running.warn with window := true, windowTimer := some 8000 } }
       s.warn.windowTimer ≠ none ∧ gatesHold s = true ∧ banksWhole s = true) := by decide

/-- A request SOUNDING in one of its elements. -/
def soundingIn (element n : Nat) (others : List ChimeRequest) : State :=
  let s := withChimes (chimeOf (.warning 3) .triple 2 n 0 true :: others) running
  { s with chime := { s.chime with element := element } }

theorem witness_ElementEndFollowsTheCadence :
    let r := chimeOf (.warning 3) .triple 2 2 0 true
    let count := (patternElements .triple).length
    (let s := soundingIn 0 2 []
     s.chime.elementTimer ≠ none ∧ soundingRequest s = some r ∧ chimeSetWithin s.chime = true
     ∧ bestRequest (hush s) s.chime.requests = some r ∧ s.chime.element + 1 < count)
    ∧ (let s := soundingIn (count - 1) 2 []
       s.chime.element + 1 = count ∧ r.remaining ≠ 1 ∧ bestRequest (hush s) s.chime.requests = some r)
    ∧ (let s := soundingIn (count - 1) 1 []
       s.chime.element + 1 = count ∧ (soundingRequest s).map (fun x => x.remaining) = some 1)
    ∧ (let s := soundingIn count 2 []
       s.chime.element = count ∧ bestRequest (hush s) s.chime.requests = some r)
    ∧ (let s := soundingIn 0 2 [chimeOf (.warning 1) .fast 1 0 1 false]
       chimeSetWithin s.chime = true ∧ s.chime.element + 1 ≠ count
       ∧ bestRequest (hush s) s.chime.requests = some (chimeOf (.warning 1) .fast 1 0 1 false)) := by decide

/-- A write of the last address being tried, after `n` tries. -/
def trying (n : Nat) (acked : Bool) (s : State) : State :=
  { s with nsp := { s.nsp with writer := .trying n acked none, queue := [⟨127, 5, some 6⟩] } }

theorem witness_WritesReachTheMemory :
    (let s := trying 18 false running
     s.nsp.writer = .trying 18 false none ∧ s.power.mode ≠ .starting .load ∧ s.power.dip = false ∧ 18 < 19)
    ∧ (let s := trying 19 true (dipped running)
       s.nsp.writer = .trying 19 true none ∧ s.power.dip = true ∧ s.nsp.queue = [⟨127, 5, some 6⟩]
       ∧ memoryWf s.nsp.memory = true ∧ s.power.mode ≠ .offline)
    ∧ (let s := { loading with nsp := { loading.nsp with loadTries := 18 } }
       s.power.mode = .starting .load ∧ s.nsp.loadTries < 19)
    ∧ ({ running with nsp := { running.nsp with writer := .waiting 10000 } } : State).nsp.writer = .waiting 10000
    ∧ (let s := { dipped running with
         power := { (dipped running).power with settleTimer := some 500 }
         nsp := { running.nsp with writer := .held } }
       s.power.settleTimer ≠ none ∧ s.nsp.writer = .held) := by decide

theorem witness_FiguresFollowTheirFormulas :
    (onReadout 2 running).disp.readout = 2 ∧ (onReadout 3 running).disp.readout = 3
    ∧ (onReadout 5 running).disp.readout = 5 ∧ loading.power.mode = .starting .load
    ∧ (beginFrame running.gauges).on = true ∧ running.gauges.frame.on = false := by decide

/-- A lamp that is lit, one that flashes dark, lamp proving, and a chime that sounds. -/
theorem witness_Figures_outputs :
    (let s := withWarn 1 activeEntry running
     awake s = true ∧ s.warn.provingTimer = none ∧ lampOutput s 0 = true ∧ lampOutput s 1 = false)
    ∧ (let s := withWarn 21 activeEntry { running with warn := { running.warn with flashLit := false } }
       lampOutput s 7 = false ∧ lampOutput (withWarn 20 activeEntry running) 7 = true)
    ∧ (let s := { running with warn := { running.warn with provingTimer := some 3000 } }
       s.power.mode = .run ∧ s.warn.provingTimer ≠ none ∧ lampOutput s 11 = true)
    ∧ (let s := soundingIn 2 1 []
       awake s = true ∧ s.power.dip = false ∧ (soundingRequest s).map (fun r => r.pattern) = some .triple
       ∧ chimeOutput s = some 2048)
    ∧ awake sleeping = false := by decide

/-! ### Cells and bits of the lines -/

set_option maxRecDepth 8000 in
/-- 10 "A Check Character": the DEMAND of station 1 to station 12, read from its cells at station 12. -/
theorem test_cells_of_a_demand :
    receiveCells (some 12) (frameCells [0x21, 0x60, 12, 0x41, 0, 1, 0, 0, 0x31])
      = .addressedFrameAnswer 0x60 (frameFrom 1 [some 1, none]) := by decide

/-- 10 R152: a run of eleven dominant cells discards the frame, one of twelve is a wake pulse. -/
theorem test_runs_of_dominant_cells :
    receiveCells none (List.replicate 11 true ++ [false]) = .frameDiscarded .longRun
    ∧ receiveCells none (List.replicate 12 true ++ [false]) = .frameDiscarded .wakePulse := by decide

/-- 10 R162: the part's own wake pulse is 24 dominant cells. -/
theorem test_pulse_of_24_cells :
    drivenCells (after .wakePulseSend { running with port := { running.port with wakeWanted := true } })
      = List.replicate 24 true := by decide

/-- 11 R165: a byte that the memory acknowledges, most significant bit first, as it stands at the clock's rises; the
stop marker's rise of the clock finds the data line low. -/
theorem test_store_line_of_a_write :
    takenBits true (storeOperation [(0x05, true)]) = [false, false, false, false, false, true, false, true, false, false]
    := by decide

end Sys2Proof.Tests
end

section
/-! PROOFS. Heard frames: what the hearing of a frame does before its kind is looked at (10 R153, 01 R10), and the
statements about the roster (O28) and PRESENCE (O30). -/

namespace Sys2Proof.Machine

/-! ### The conditions of hearing -/

theorem heardBy_iff {s : State} {fits : Bool} {h : Heard} : heardBy s fits h = true ↔
    receives s = true ∧ isStation h.source = true ∧ fits = true ∧ s.straps.address ≠ some h.source := by
  simp [heardBy, and_assoc]

/-- A frame heard from another station is noted, and its kind goes on from there. -/
theorem hearFrame_heard {s : State} {fits : Bool} {h : Heard} (heard : heardBy s fits h = true)
    (handle : State → State) : hearFrame fits h handle s = handle (noteHeard h s) := by
  obtain ⟨open_, station, fit, other⟩ := heardBy_iff.mp heard
  simp [hearFrame, hearing, open_, station, fit, other]

/-- A frame that carries the own address is a clash, whatever its kind. -/
theorem hearFrame_own {s : State} {fits : Bool} {h : Heard} (open_ : receives s = true)
    (station : isStation h.source = true) (fit : fits = true) (own : s.straps.address = some h.source)
    (handle : State → State) : hearFrame fits h handle s = noteClash s := by
  simp [hearFrame, hearing, open_, station, fit, own]

/-! ### The noted frame -/

theorem modifyAt_eq_modify {α : Type} (f : α → α) : ∀ (i : Nat) (l : List α), modifyAt i f l = l.modify i f
  | _, [] => by simp [modifyAt]
  | 0, _ :: _ => by simp [modifyAt]
  | i + 1, x :: rest => by simp [modifyAt, modifyAt_eq_modify f i rest]

theorem noteHeard_eq {h : Heard} {s : State} (station : isStation h.source = true) :
    noteHeard h s = { s with
      power := { s.power with sleepTimer := s.power.sleepTimer.map (fun _ => s.now + 5000) },
      bus := { s.bus with roster := s.bus.roster.modify (h.source - 1) (fun r => { r with
        status := .live, lastHeard := s.now, lastReady := h.ready, timer := some (s.now + 2000) }) } } := by
  cases timer : s.power.sleepTimer <;>
    simp [noteHeard, modifyRoster, station, modifyAt_eq_modify, startFor, runs, timer]

section
variable (h : Heard) (s : State)

@[simp] theorem noteHeard_now : (noteHeard h s).now = s.now := (noteHeard_only h s).now
@[simp] theorem noteHeard_straps : (noteHeard h s).straps = s.straps := (noteHeard_only h s).straps (by decide)
@[simp] theorem noteHeard_fuel : (noteHeard h s).fuel = s.fuel := (noteHeard_only h s).fuel (by decide)
@[simp] theorem noteHeard_trip : (noteHeard h s).trip = s.trip := (noteHeard_only h s).trip (by decide)
@[simp] theorem noteHeard_journey : (noteHeard h s).journey = s.journey := (noteHeard_only h s).journey (by decide)
@[simp] theorem noteHeard_service : (noteHeard h s).service = s.service := (noteHeard_only h s).service (by decide)
@[simp] theorem noteHeard_warn : (noteHeard h s).warn = s.warn := (noteHeard_only h s).warn (by decide)
@[simp] theorem noteHeard_chime : (noteHeard h s).chime = s.chime := (noteHeard_only h s).chime (by decide)
@[simp] theorem noteHeard_msg : (noteHeard h s).msg = s.msg := (noteHeard_only h s).msg (by decide)
@[simp] theorem noteHeard_disp : (noteHeard h s).disp = s.disp := (noteHeard_only h s).disp (by decide)
@[simp] theorem noteHeard_port : (noteHeard h s).port = s.port := (noteHeard_only h s).port (by decide)
@[simp] theorem noteHeard_nsp : (noteHeard h s).nsp = s.nsp := (noteHeard_only h s).nsp (by decide)

theorem noteHeard_power : (noteHeard h s).power
    = { s.power with sleepTimer := if runs s.power.sleepTimer then startFor s 5000 else none } := by
  have kept : (modifyRoster h.source (fun r => { r with
      status := .live, lastHeard := s.now, lastReady := h.ready, timer := startFor s 2000 }) s).power = s.power :=
    (modifyRoster_only _ _ s).power (by decide)
  simp [noteHeard, kept]

@[simp] theorem noteHeard_mode : (noteHeard h s).power.mode = s.power.mode := by rw [noteHeard_power]
@[simp] theorem noteHeard_lastStart : (noteHeard h s).power.lastStart = s.power.lastStart := by rw [noteHeard_power]

@[simp] theorem awake_noteHeard : awake (noteHeard h s) = awake s := by simp [awake]
@[simp] theorem mayQueue_noteHeard : mayQueue (noteHeard h s) = mayQueue s := by simp [mayQueue]

@[simp] theorem entryIn_noteHeard (k : ReportKind) : entryIn (noteHeard h s) k = entryIn s k := by
  have same : ∀ r, entryOf { s.bus with roster := r } k = entryOf s.bus k := fun r => by cases k <;> rfl
  unfold entryIn noteHeard modifyRoster
  dsimp only
  split
  · exact same _
  · rfl

theorem noteHeard_sleepTimer (on : s.power.sleepTimer ≠ none) :
    (noteHeard h s).power.sleepTimer = some (s.now + 5000) := by
  rw [noteHeard_power, if_pos (by simpa [runs, Option.isSome_iff_ne_none] using on)]
  rfl

end

/-- The roster entry of a station just heard (01 R10). -/
def heardEntry (s : State) (h : Heard) : RosterEntry :=
  { rosterOf s h.source with
    status := .live, lastHeard := s.now, lastReady := h.ready, timer := some (s.now + 2000) }

theorem rosterOf_noteHeard {h : Heard} {s : State} (whole : s.bus.roster.length = 30)
    (station : isStation h.source = true) : rosterOf (noteHeard h s) h.source = heardEntry s h :=
  rosterOf_modifyRoster_same whole station

theorem rosterOf_noteHeard_other {h : Heard} {s : State} {n : Nat} (other : n ≠ h.source) :
    rosterOf (noteHeard h s) n = rosterOf s n :=
  rosterOf_modifyRoster_other other

theorem rosterOf_congr {s t : State} (same : t.bus.roster = s.bus.roster) (n : Nat) : rosterOf t n = rosterOf s n := by
  unfold rosterOf
  rw [same]

theorem roster_length_of_banksWhole {s : State} (whole : banksWhole s = true) : s.bus.roster.length = 30 := by
  simp only [banksWhole, Bool.and_eq_true, decide_eq_true_eq] at whole
  exact whole.1.1.1.1

theorem demands_length_of_banksWhole {s : State} (whole : banksWhole s = true) : s.bus.demands.length = 30 := by
  simp only [banksWhole, Bool.and_eq_true, decide_eq_true_eq] at whole
  exact whole.1.1.1.2

theorem items_length_of_banksWhole {s : State} (whole : banksWhole s = true) : s.service.items.length = 8 := by
  simp only [banksWhole, Bool.and_eq_true, decide_eq_true_eq] at whole
  exact whole.1.2

/-! ### What the kinds keep of the roster -/

/-- The consumers of a report change the held speed of the report table, and nothing else in it. -/
theorem consumers_bus (k : ReportKind) (h : Heard) (d e : Nat) (c : Bool) (s : State) :
    ∃ v, (consumers k h d e c s).bus = { s.bus with heldSpeed := v } := by
  cases k
  case chassis =>
    have held : ∀ (v : Slot) (t : State), ∃ w, (holdSpeed v t).bus = { t.bus with heldSpeed := w } := fun v t => by
      cases v
      · exact ⟨t.bus.heldSpeed, rfl⟩
      · exact ⟨_, rfl⟩
    have after : (consumers .chassis h d e c s).bus = (holdSpeed (slotAt h.slots 2)
        (followStandstill (slotAt h.slots 2) (issue pulseDelta d s))).bus :=
      ((evaluateReport_only _ _).bus (by decide)).trans (((applyGates_only _).bus (by decide)).trans
        ((takeGateSpeed_only _ _ _).bus (by decide)))
    have before : (followStandstill (slotAt h.slots 2) (issue pulseDelta d s)).bus = s.bus :=
      ((followStandstill_only _ _).bus (by decide)).trans ((issue_only pulseDelta_only d s).bus (by decide))
    obtain ⟨w, hw⟩ := held (slotAt h.slots 2) (followStandstill (slotAt h.slots 2) (issue pulseDelta d s))
    exact ⟨w, by rw [after, hw, before]⟩
  all_goals exact ⟨s.bus.heldSpeed, (consumers_only _ h d e c s).bus (by decide)⟩

/-- Entries of the report table do not hold the held speed. -/
theorem entryOf_heldSpeed (b : Bus) (v : Option Word) (k : ReportKind) :
    entryOf { b with heldSpeed := v } k = entryOf b k := by cases k <;> rfl

theorem setEntry_roster (k : ReportKind) (e : ReportEntry) (b : Bus) : (setEntry k e b).roster = b.roster := by
  cases k <;> rfl

theorem acceptArrival_roster (k : ReportKind) (h : Heard) (s : State) :
    (acceptArrival k h s).bus.roster = s.bus.roster := by
  obtain ⟨v, hv⟩ := consumers_bus k h (slotDelta s k h 1).2 (slotDelta s k h 2).2
    (raisesCall (callBefore s h.source) h) { s with bus := setEntry k (acceptedEntry s k h) s.bus }
  unfold acceptArrival
  rw [hv]
  exact setEntry_roster _ _ _

/-- `t` has the roster of `s`, but for the rival flag of one station. -/
def RosterKept (source : Nat) (s t : State) : Prop :=
  (∀ n, n ≠ source → rosterOf t n = rosterOf s n)
    ∧ rosterOf t source = { rosterOf s source with rival := (rosterOf t source).rival }

theorem RosterKept.of_same {source : Nat} {s t : State} (same : t.bus.roster = s.bus.roster) :
    RosterKept source s t := by
  have all := rosterOf_congr same
  exact ⟨fun n _ => all n, by rw [all]⟩

theorem markRival_rosterKept (k : ReportKind) (source : Nat) (s : State) : RosterKept source s (markRival k source s) := by
  let flagged : State := { s with bus := setEntry k { entryIn s k with rivalSeen := true } s.bus }
  have same : ∀ n, rosterOf flagged n = rosterOf s n := rosterOf_congr (setEntry_roster _ _ _)
  refine ⟨fun n other => (rosterOf_modifyRoster_other other).trans (same n), ?_⟩
  by_cases reach : isStation source = true ∧ source - 1 < s.bus.roster.length
  · have set : rosterOf (markRival k source s) source = { rosterOf flagged source with rival := true } := by
      unfold rosterOf markRival modifyRoster
      simp only [reach.1, if_true]
      exact getD_modifyAt_same _ _ (by simpa [flagged, setEntry_roster] using reach.2)
    rw [set, same]
  · have out : ∀ t : State, t.bus.roster.length = s.bus.roster.length → rosterOf t source = .unheard := fun t len => by
      unfold rosterOf
      split
      · exact List.getD_eq_default _ _ (by rw [len]; exact Nat.le_of_not_lt fun lt => reach ⟨‹_›, lt⟩)
      · rfl
    have len : (markRival k source s).bus.roster.length = s.bus.roster.length := by
      rw [markRival, (lengths_modify _ source _ id id id).1, setEntry_roster]
    rw [out _ len, out s rfl]

theorem offerReport_rosterKept (k : ReportKind) (h : Heard) (s : State) :
    RosterKept h.source s (offerReport k h s) := by
  unfold offerReport
  split
  · exact .of_same (acceptArrival_roster k h s)
  · exact markRival_rosterKept k h.source s
  · exact .of_same rfl

/-- What the kind of a heard frame does with the noted frame leaves the roster but a rival flag, and the power
unit. -/
structure HandlesHeard (source : Nat) (handle : State → State) : Prop where
  roster : ∀ s, RosterKept source s (handle s)
  power : ∀ s, (handle s).power = s.power

theorem HandlesHeard.of_port {source : Nat} {handle : State → State} (only : ∀ s, OnlyIn [.port] s (handle s)) :
    HandlesHeard source handle :=
  ⟨fun s => .of_same (congrArg Bus.roster ((only s).bus (by decide))), fun s => (only s).power (by decide)⟩

theorem heardPresence_roster (h : Heard) (s : State) : (heardPresence h s).bus.roster = s.bus.roster := by
  unfold heardPresence
  split <;> rfl

theorem heardPresence_handles (h : Heard) : HandlesHeard h.source (heardPresence h) :=
  ⟨fun s => .of_same (heardPresence_roster h s), fun s => (heardPresence_only h s).power (by decide)⟩

theorem offerReport_handles (k : ReportKind) (h : Heard) : HandlesHeard h.source (offerReport k h) :=
  ⟨offerReport_rosterKept k h, fun s => (offerReport_only k h s).power (by cases k <;> decide)⟩

/-! ### The end of the command -/

theorem sleepConditions_settled (s : State) : sleepConditions (settled s) = sleepConditions s :=
  (congrArg sleepConditions (settled_from s).rest).trans rfl

/-- A sleep timer that runs under its conditions keeps its deadline. -/
theorem settled_sleepTimer_kept {s : State} {d : Nat} (watch : s.power.mode = .watch)
    (idle : sleepConditions s = true) (on : s.power.sleepTimer = some d) :
    (settled s).power.sleepTimer = some d := by
  have settle : (settled s).power.sleepTimer = (settleSleep s).power.sleepTimer :=
    congrArg Power.sleepTimer (refreshDisplay_power _)
  rw [settle, settleSleep]
  simp [watch, idle, on, runs]

/-- A state after a heard frame: the roster entry of its station is that of the frame, but for the rival flag, every
other is as it was, and a running sleep timer starts afresh while the sleep conditions hold. -/
def HeardFrom (s : State) (h : Heard) (t : State) : Prop :=
  rosterOf t h.source = { heardEntry s h with rival := (rosterOf t h.source).rival }
    ∧ (∀ n, n ≠ h.source → rosterOf t n = rosterOf s n)
    ∧ (s.power.mode = .watch → s.power.sleepTimer ≠ none → sleepConditions t = true →
        t.power.sleepTimer = some (s.now + 5000))

theorem heardFrom_handled {s : State} {h : Heard} {handle : State → State} (whole : banksWhole s = true)
    (station : isStation h.source = true) (handles : HandlesHeard h.source handle) :
    HeardFrom s h (handle (noteHeard h s)) := by
  obtain ⟨others, own⟩ := handles.roster (noteHeard h s)
  refine ⟨?_, fun n other => (others n other).trans (rosterOf_noteHeard_other other), fun _ on _ => ?_⟩
  · rw [own, rosterOf_noteHeard (roster_length_of_banksWhole whole) station]
  · rw [handles.power]
    exact noteHeard_sleepTimer h s on

theorem HeardFrom.settled {s t : State} {h : Heard} (heard : HeardFrom s h t) (mode : t.power.mode = s.power.mode) :
    HeardFrom s h (settled t) := by
  obtain ⟨own, others, sleep⟩ := heard
  have same : ∀ n, rosterOf (Machine.settled t) n = rosterOf t n := rosterOf_congr (by simp)
  refine ⟨by rw [same]; exact own, fun n other => (same n).trans (others n other), fun watch on idle => ?_⟩
  have idle' : sleepConditions t = true := (sleepConditions_settled t).symm.trans idle
  exact settled_sleepTimer_kept (mode.trans watch) idle' (sleep watch on idle')

/-! ### The commands that are heard frames -/

theorem exec_reportArrival_heard {k : ReportKind} {h : Heard} {s : State}
    (heard : heardBy s (fitsKind (reportFrameKind k) h) h = true) :
    exec (.reportArrival k h) s = .next (settled (offerReport k h (noteHeard h s))) :=
  congrArg (fun t => Host.Outcome.next (settled t)) (hearFrame_heard heard _)

theorem exec_rollCall_heard {h : Heard} {s : State} (heard : heardBy s (fitsKind .rollCall h) h = true) :
    exec (.rollCall h) s = .next (offerOwned .presence (noteHeard h s)) :=
  congrArg Host.Outcome.next (hearFrame_heard heard _)

theorem exec_presence_heard {h : Heard} {s : State} (heard : heardBy s (fitsKind .presence h) h = true) :
    exec (.presence h) s = .next (heardPresence h (noteHeard h s)) :=
  congrArg Host.Outcome.next (hearFrame_heard heard _)

theorem exec_addressedFrameAnswer_heard {code : Byte} {h : Heard} {s : State}
    (heard : heardBy s (lengthFits code h.slots) h = true) :
    exec (.addressedFrameAnswer code h) s = .next (answerHeard code h (noteHeard h s)) :=
  congrArg Host.Outcome.next (hearFrame_heard heard _)

theorem exec_otherFrameHeard_further {code : Byte} {target : Nat} {h : Heard} {s : State}
    (ends : goesNoFurther s.straps.address code target = true) :
    exec (.otherFrameHeard code target h) s = .next (hearFrame (lengthFits code h.slots) h id s) :=
  congrArg Host.Outcome.next (if_pos ends)

theorem exec_otherFrameHeard_heard {code : Byte} {target : Nat} {h : Heard} {s : State}
    (heard : heardBy s (lengthFits code h.slots) h = true)
    (ends : goesNoFurther s.straps.address code target = true) :
    exec (.otherFrameHeard code target h) s = .next (noteHeard h s) := by
  rw [exec_otherFrameHeard_further ends, hearFrame_heard heard]
  rfl

/-- The part's PRESENCE joins the queue, or takes the place of the one still queued (01 R13, 10 R159). -/
theorem offerPresence_queue {s : State} (may : mayQueue s = true) :
    (s.port.queue.length < 8 → (∀ e ∈ s.port.queue, e.id ≠ broadcastId .presence) →
      (offerOwned .presence s).port.queue
        = s.port.queue ++ [joined .presence 0 [numSlot s.power.lastStart] s.port.nextOrder])
    ∧ ((∃ e ∈ s.port.queue, e.id = broadcastId .presence) →
      (offerOwned .presence s).port.queue
        = s.port.queue.map (replaceTx (broadcastId .presence) [numSlot s.power.lastStart] false)) := by
  constructor
  · intro room absent
    have gone : txPresent (broadcastId .presence) s.port.queue = false := by simpa [txPresent] using absent
    simp [offerOwned, may, ownedFrame, txOffer, gone, room, Config.transmitCapacity, forgetOwed]
    rfl
  · intro present
    have here : txPresent (broadcastId .presence) s.port.queue = true := by simpa [txPresent] using present
    simp [offerOwned, may, ownedFrame, txOffer, here, forgetOwed]

theorem offerOwned_silent {s : State} (what : Reoffer) (may : mayQueue s = false) : offerOwned what s = s := by
  simp [offerOwned, may]

end Sys2Proof.Machine

open Sys2Proof Sys2Proof.Machine

/-- Settles O28: each command notes the frame before its kind is handled, and no handling changes the roster but for
a rival flag. -/
theorem heardFramesUpdateTheRoster : Obligations.HeardFramesUpdateTheRoster := by
  unfold Obligations.HeardFramesUpdateTheRoster
  refine ⟨?live, ?noFurther, ?rollCall, ?ownAddress, ?clash, ?discarded⟩
  case live =>
    intro c h fits s whole as heard
    have station := (heardBy_iff.mp heard).2.1
    have done : ∃ t, exec c s = .next t ∧ HeardFrom s h t := by
      rcases as with ⟨rfl, rfl⟩ | ⟨rfl, rfl⟩ | ⟨k, rfl, rfl⟩ | ⟨code, rfl, rfl⟩ | ⟨code, target, rfl, rfl, ends⟩
      · exact ⟨_, exec_rollCall_heard heard, heardFrom_handled whole station (.of_port (offerOwned_only _))⟩
      · exact ⟨_, exec_presence_heard heard, heardFrom_handled whole station (heardPresence_handles h)⟩
      · refine ⟨_, exec_reportArrival_heard heard,
          (heardFrom_handled whole station (offerReport_handles k h)).settled ?_⟩
        rw [(offerReport_handles k h).power, noteHeard_mode]
      · exact ⟨_, exec_addressedFrameAnswer_heard heard,
          heardFrom_handled whole station (.of_port (answerHeard_only code h))⟩
      · exact ⟨_, exec_otherFrameHeard_heard heard ends,
          heardFrom_handled whole station (.of_port (OnlyIn.refl _))⟩
    obtain ⟨t, run, own, others, sleep⟩ := done
    exact ⟨t, run, by rw [own]; rfl, by rw [own]; rfl, by rw [own]; rfl, by rw [own]; rfl, others, sleep⟩
  case noFurther =>
    intro code target h s heard ends
    rw [exec_otherFrameHeard_heard heard ends, noteHeard_eq (heardBy_iff.mp heard).2.1]
  case rollCall =>
    intro h s heard
    have queue := offerPresence_queue (s := noteHeard h s)
    simp only [mayQueue_noteHeard, noteHeard_port, noteHeard_lastStart] at queue
    refine ⟨_, exec_rollCall_heard heard, fun silent => ?_, fun may => (queue may).1, fun may => (queue may).2, ?_⟩
    · rw [offerOwned_silent _ (by simpa using silent), noteHeard_port]
    · have only : OnlyIn [.faults, .bus, .power, .port] s (offerOwned .presence (noteHeard h s)) :=
        ((noteHeard_only h s).mono (by decide)).trans ((offerOwned_only _ _).mono (by decide))
      exact only
  case ownAddress =>
    intro s open_ addressed
    exact congrArg Host.Outcome.next (if_pos (by simp [open_, addressed]))
  case clash =>
    intro c h fits s as open_ station fit own
    rcases as with ⟨rfl, rfl⟩ | ⟨rfl, rfl⟩ | ⟨k, rfl, rfl⟩ | ⟨code, rfl, rfl⟩ | ⟨code, target, rfl, rfl, ends⟩
    · exact ⟨_, congrArg Host.Outcome.next (hearFrame_own open_ station fit own _), .inl rfl⟩
    · exact ⟨_, congrArg Host.Outcome.next (hearFrame_own open_ station fit own _), .inl rfl⟩
    · exact ⟨_, congrArg (fun t => Host.Outcome.next (settled t)) (hearFrame_own open_ station fit own _),
        .inr ⟨⟨k, rfl⟩, settled_from _⟩⟩
    · exact ⟨_, congrArg Host.Outcome.next (hearFrame_own open_ station fit own _), .inl rfl⟩
    · exact ⟨_, (exec_otherFrameHeard_further ends).trans
        (congrArg Host.Outcome.next (hearFrame_own open_ station fit own _)), .inl rfl⟩
  case discarded =>
    intro cause s open_
    refine congrArg Host.Outcome.next ((if_pos open_).trans ?_)
    cases cause <;> rfl

/-- Settles O30: the noted frame sets the roster entry, and the start kind decides on the baselines. -/
theorem coldPresenceDropsBaselines : Obligations.ColdPresenceDropsBaselines := by
  intro h s heard whole
  have station := (heardBy_iff.mp heard).2.1
  refine ⟨_, exec_presence_heard heard, ?_, fun k => ?_, ?_⟩
  · rw [rosterOf_congr (heardPresence_roster h _), rosterOf_noteHeard (roster_length_of_banksWhole whole) station]
    rfl
  · rw [← entryIn_noteHeard h s k]
    by_cases cold : slotAt h.slots 1 = some 0
    · rw [heardPresence, if_pos cold]
      simp only [cold, true_and]
      exact entryOf_mapEntries _ _ k
    · rw [heardPresence, if_neg cold, if_neg (fun both => cold both.1)]
  · exact (noteHeard_only h s).trans ((heardPresence_only h _).mono (by decide))
end

section
/-! PROOFS. Reports: what an entry of the report table does with a heard report (01 R2 to R8), and the statement
about binding (O31). -/

namespace Sys2Proof.Machine

/-! ### The decision -/

theorem offerDecision_bound {s : State} {k : ReportKind} {source : Nat} (bound : (entryIn s k).bound = some source) :
    offerDecision s k source = .accept := by
  simp [offerDecision, bound]

theorem offerDecision_accepted {s : State} {k : ReportKind} {h : Heard} (whole : banksWhole s = true)
    (station : isStation h.source = true) (accepted : acceptedBy s k h = true) :
    offerDecision (noteHeard h s) k h.source = .accept := by
  have ready : (rosterOf (noteHeard h s) h.source).lastReady = h.ready := by
    rw [rosterOf_noteHeard (roster_length_of_banksWhole whole) station]
    rfl
  unfold acceptedBy at accepted
  unfold offerDecision
  rw [entryIn_noteHeard, ready]
  cases bound : (entryIn s k).bound with
  | none => rfl
  | some b =>
    simp only [bound, Bool.or_eq_true, decide_eq_true_eq, Bool.and_eq_true] at accepted
    rcases accepted with same | ⟨stale, ready⟩
    · simp [same]
    · simp [stale, ready]

/-- An entry that would accept the report accepts it, or leaves it, should the roster lack the station. -/
theorem offerReport_accepted_cases {s : State} {k : ReportKind} {h : Heard} (accepted : acceptedBy s k h = true) :
    offerReport k h (noteHeard h s) = acceptArrival k h (noteHeard h s)
      ∨ offerReport k h (noteHeard h s) = noteHeard h s := by
  unfold acceptedBy at accepted
  unfold offerReport offerDecision
  rw [entryIn_noteHeard]
  cases bound : (entryIn s k).bound with
  | none => exact .inl rfl
  | some b =>
    simp only [bound, Bool.or_eq_true, decide_eq_true_eq, Bool.and_eq_true] at accepted
    rcases accepted with same | ⟨stale, ready⟩
    · simp [same]
    · by_cases same : b = h.source
      · simp [same]
      · by_cases last : (rosterOf (noteHeard h s) h.source).lastReady = true <;> simp [same, stale, last]

theorem offerReport_accept {s : State} {k : ReportKind} {h : Heard}
    (decision : offerDecision s k h.source = .accept) : offerReport k h s = acceptArrival k h s := by
  simp [offerReport, decision]

/-- A report of another station than the bound one, that finds the entry fresh or is not READY, is a rival's or
waits. -/
theorem offerReport_ignored {s : State} {k : ReportKind} {h : Heard} {b : Nat} (whole : banksWhole s = true)
    (station : isStation h.source = true) (bound : (entryIn s k).bound = some b) (other : b ≠ h.source)
    (unready : (entryIn s k).stale = false ∨ h.ready = false) :
    offerReport k h (noteHeard h s)
      = if (entryIn s k).stale then noteHeard h s else markRival k h.source (noteHeard h s) := by
  have ready : (rosterOf (noteHeard h s) h.source).lastReady = h.ready := by
    rw [rosterOf_noteHeard (roster_length_of_banksWhole whole) station]
    rfl
  unfold offerReport offerDecision
  rw [entryIn_noteHeard, ready]
  cases stale : (entryIn s k).stale
  · simp [bound, other]
  · have slow : h.ready = false := by simpa [stale] using unready
    simp [bound, other, slow]

/-! ### The entry after an accepted report -/

theorem entryIn_acceptArrival (k k' : ReportKind) (h : Heard) (s : State) :
    entryIn (acceptArrival k h s) k' = if k' = k then acceptedEntry s k h else entryIn s k' := by
  obtain ⟨v, hv⟩ := consumers_bus k h (slotDelta s k h 1).2 (slotDelta s k h 2).2
    (raisesCall (callBefore s h.source) h) { s with bus := setEntry k (acceptedEntry s k h) s.bus }
  unfold entryIn acceptArrival
  rw [hv, entryOf_heldSpeed]
  split
  · subst_vars
    exact entryOf_setEntry_same _ _ _
  · exact entryOf_setEntry_other _ _ ‹_›

theorem entryIn_markRival (k k' : ReportKind) (source : Nat) (s : State) :
    entryIn (markRival k source s) k' = if k' = k then { entryIn s k with rivalSeen := true } else entryIn s k' := by
  have entries : entryIn (markRival k source s) k'
      = entryOf (setEntry k { entryIn s k with rivalSeen := true } s.bus) k' := by
    have same : ∀ (b : Bus) r, entryOf { b with roster := r } k' = entryOf b k' := fun b r => by cases k' <;> rfl
    unfold entryIn markRival modifyRoster
    split
    · exact same _ _
    · rfl
  rw [entries]
  split
  · subst_vars
    exact entryOf_setEntry_same _ _ _
  · exact entryOf_setEntry_other _ _ ‹_›

/-- The first six slots are those that arrived, the rest invalid. -/
theorem slotAt_padded (slots : List Slot) {i : Nat} (low : 1 ≤ i) (high : i ≤ 6) :
    slotAt ((slots ++ List.replicate 6 none).take 6) i = slotAt slots i := by
  have inside : i - 1 < 6 := by omega
  unfold slotAt
  rw [List.getD_eq_getElem?_getD, List.getD_eq_getElem?_getD, List.getElem?_take_of_lt inside]
  by_cases carried : i - 1 < slots.length
  · rw [List.getElem?_append_left carried]
  · rw [List.getElem?_append_right (Nat.le_of_not_lt carried), List.getElem?_eq_none (Nat.le_of_not_lt carried),
      List.getElem?_replicate]
    split <;> rfl

theorem counterDelta_invalid (limit : Option Nat) (first : Bool) (base : Option Word) :
    counterDelta limit first base none = (base, 0) := by
  cases limit <;> rfl

/-- A valid cumulative slot becomes the baseline. -/
theorem counterDelta_base (top : Nat) (first : Bool) (base : Option Word) (v : Word) :
    (counterDelta (some top) first base (some v)).1 = some v := by
  cases base <;> rfl

/-- No delta comes of a frame with FIRST, of no baseline, or of an invalid slot. -/
theorem counterDelta_none {limit : Option Nat} {first : Bool} {base : Option Word} {slot : Slot}
    (none_ : first = true ∨ base = none ∨ slot = none) : (counterDelta limit first base slot).2 = 0 := by
  unfold counterDelta
  split
  · split
    · rcases none_ with rfl | h | h
      · simp
      · cases h
      · cases h
    · rfl
  · rfl

theorem counterDelta_issued (top : Nat) (old new : Word) :
    (counterDelta (some top) false (some old) (some new)).2
      = if (new - old).toNat ≤ top then (new - old).toNat else 0 := by
  simp [counterDelta]

theorem baseBefore_noteHeard (s : State) (k : ReportKind) (h : Heard) (source slot : Nat) :
    baseBefore (noteHeard h s) k source slot = baseBefore s k source slot := by
  simp [baseBefore, sameSource]

theorem slotDelta_noteHeard (s : State) (k : ReportKind) (h : Heard) (slot : Nat) :
    slotDelta (noteHeard h s) k h slot = slotDelta s k h slot := by
  simp [slotDelta, baseBefore_noteHeard]

/-- The baselines after an accepted arrival (01 R7, R8). -/
theorem slotDelta_baseline (s : State) (k : ReportKind) (h : Heard) :
    (k = .chassis ∨ k = .fuelFlow → ∀ v ∈ slotAt h.slots 1, (slotDelta s k h 1).1 = some v)
    ∧ (k = .fuelFlow → ∀ v ∈ slotAt h.slots 2, (slotDelta s k h 2).1 = some v)
    ∧ (slotAt h.slots 1 = none →
        (slotDelta s k h 1).1 = if (entryIn s k).bound = some h.source then (entryIn s k).base1 else none)
    ∧ (slotAt h.slots 2 = none →
        (slotDelta s k h 2).1 = if (entryIn s k).bound = some h.source then (entryIn s k).base2 else none) := by
  refine ⟨fun cumulative v arrived => ?_, fun cumulative v arrived => ?_, fun invalid => ?_, fun invalid => ?_⟩
  · rw [slotDelta, arrived]
    rcases cumulative with rfl | rfl <;> exact counterDelta_base _ _ _ _
  · subst cumulative
    rw [slotDelta, arrived]
    exact counterDelta_base _ _ _ _
  · rw [slotDelta, invalid, counterDelta_invalid]
    simp [baseBefore, sameSource]
  · rw [slotDelta, invalid, counterDelta_invalid]
    simp [baseBefore, sameSource]

/-- No delta of a cumulative slot: FIRST, no baseline of the bound source, or the slot invalid (01 R7, R8). -/
theorem slotDelta_none {s : State} {k : ReportKind} {h : Heard} {slot : Nat} {base : Option Word}
    (held : baseBefore s k h.source slot
      = if (entryIn s k).bound = some h.source then base else none)
    (none_ : h.first = true ∨ (entryIn s k).bound ≠ some h.source ∨ base = none ∨ slotAt h.slots slot = none) :
    (slotDelta s k h slot).2 = 0 := by
  refine counterDelta_none ?_
  rcases none_ with first | unbound | bare | invalid
  · exact .inl first
  · exact .inr (.inl (by rw [held, if_neg unbound]))
  · exact .inr (.inl (by rw [held, bare, ite_self]))
  · exact .inr (.inr invalid)

theorem baseBefore_one (s : State) (k : ReportKind) (source : Nat) :
    baseBefore s k source 1 = if (entryIn s k).bound = some source then (entryIn s k).base1 else none := by
  simp [baseBefore, sameSource]

theorem baseBefore_two (s : State) (k : ReportKind) (source : Nat) :
    baseBefore s k source 2 = if (entryIn s k).bound = some source then (entryIn s k).base2 else none := by
  simp [baseBefore, sameSource]

theorem acceptedEntry_noteHeard (k : ReportKind) (h : Heard) (s : State) :
    acceptedEntry (noteHeard h s) k h = acceptedEntry s k h := by
  simp [acceptedEntry, slotDelta_noteHeard, startFor]

/-! ### The frame of a report -/

theorem reportArrival_only (k : ReportKind) (h : Heard) (s : State) :
    OnlyIn (mayChange (.reportArrival k h)) s (settled (offerReport k h (noteHeard h s))) := by
  have only : OnlyIn (reportBlocks k) s (offerReport k h (noteHeard h s)) :=
    ((noteHeard_only h s).mono (by cases k <;> decide)).trans ((offerReport_only k h _).mono (by cases k <;> decide))
  exact only.settled (by cases k <;> decide) (by cases k <;> decide)

end Sys2Proof.Machine

open Sys2Proof Sys2Proof.Machine

/-- Settles O31: the decision of the entry's binding, then the entry that the acceptance leaves, which no consumer
changes. -/
theorem reportsBindOrAreIgnored : Obligations.ReportsBindOrAreIgnored := by
  refine ⟨?accepted, ?ignored⟩
  case accepted =>
    intro k h s heard accepted whole
    have station := (heardBy_iff.mp heard).2.1
    have accept := offerReport_accept (offerDecision_accepted whole station accepted)
    refine ⟨_, exec_reportArrival_heard heard, ?_⟩
    have entry : ∀ k', entryIn (settled (offerReport k h (noteHeard h s))) k'
        = if k' = k then acceptedEntry s k h else entryIn s k' := fun k' => by
      rw [accept, ← entryIn_noteHeard h s k', ← acceptedEntry_noteHeard, ← entryIn_acceptArrival]
      exact congrArg (entryOf · k') (settled_bus _)
    have others : ∀ k', k' ≠ k → entryIn (settled (offerReport k h (noteHeard h s))) k' = entryIn s k' :=
      fun k' other => (entry k').trans (if_neg other)
    obtain ⟨valid1, valid2, invalid1, invalid2⟩ := slotDelta_baseline s k h
    rw [(entry k).trans (if_pos rfl)]
    exact ⟨rfl, fun i => slotAt_padded h.slots, rfl, rfl, rfl, rfl, rfl, valid1, valid2, invalid1, invalid2, others,
      reportArrival_only k h s⟩
  case ignored =>
    intro k h b s heard bound other whole unready
    have station := (heardBy_iff.mp heard).2.1
    have stations := roster_length_of_banksWhole whole
    refine ⟨_, exec_reportArrival_heard heard, ?_⟩
    rw [offerReport_ignored whole station bound other unready]
    have settledRoster : ∀ t n, rosterOf (settled t) n = rosterOf t n := fun t => rosterOf_congr (by simp)
    have settledEntry : ∀ t k', entryIn (settled t) k' = entryIn t k' := fun t k' =>
      congrArg (entryOf · k') (settled_bus t)
    have heardRival : (rosterOf (noteHeard h s) h.source).rival = (rosterOf s h.source).rival := by
      rw [rosterOf_noteHeard stations station]
      rfl
    simp only [settledRoster, settledEntry]
    rcases Bool.eq_false_or_eq_true (entryIn s k).stale with stale | stale
    rotate_left
    · have rival : (rosterOf (markRival k h.source (noteHeard h s)) h.source).rival = true := by
        have len : (noteHeard h s).bus.roster.length = 30 := by
          rw [noteHeard_eq station]
          simpa using stations
        have marked : rosterOf (markRival k h.source (noteHeard h s)) h.source = _ :=
          rosterOf_modifyRoster_same (by simpa [setEntry_roster] using len) station
        rw [marked]
      refine ⟨?_, by simp [rival, stale], fun k' ne => by simp [entryIn_markRival, ne, stale], ?_⟩
      · simp [stale, entryIn_markRival]
      · rw [if_neg (by simp [stale])]
        exact (((noteHeard_only h s).mono (by decide)).trans ((markRival_only _ _ _).mono (by decide))).settled
          (by decide) (by decide)
    · refine ⟨?_, by simp [heardRival, stale], fun k' _ => by simp [stale], ?_⟩
      · have keep : ((entryIn s k).rivalSeen || !(entryIn s k).stale) = (entryIn s k).rivalSeen := by simp [stale]
        rw [if_pos stale, entryIn_noteHeard, keep]
      · rw [if_pos stale]
        exact ((noteHeard_only h s).mono (by decide)).settled (by decide) (by decide)
end

section
/-! PROOFS. Counters: what the warnings, the posts and the offers to the store leave of the counters, and the
statements about fuel counts (O33) and pulses (O32). -/

namespace Sys2Proof.Machine

/-! ### The counters that warnings and posts keep -/

/-- `t` has the service counters of `s`, and its fuel unit but for the transfer stop timer. -/
structure CountersKept (s t : State) : Prop where
  items : t.service.items = s.service.items
  hours : t.service.hoursResidue = s.service.hoursResidue
  fuel : t.fuel = { s.fuel with stopTimer := t.fuel.stopTimer }

theorem CountersKept.refl (s : State) : CountersKept s s := ⟨rfl, rfl, rfl⟩

theorem CountersKept.trans {s t u : State} (h : CountersKept s t) (k : CountersKept t u) : CountersKept s u :=
  ⟨k.items.trans h.items, k.hours.trans h.hours, by rw [k.fuel, h.fuel]⟩

theorem CountersKept.of_only {bs : List Block} {s t : State} (only : OnlyIn bs s t)
    (service : Block.service ∉ bs) (fuel : Block.fuel ∉ bs) : CountersKept s t :=
  ⟨by rw [only.service service], by rw [only.service service], by rw [only.fuel fuel]⟩

theorem CountersKept.ite {c : Prop} [Decidable c] {s t u : State} (h : CountersKept s t) (k : CountersKept s u) :
    CountersKept s (if c then t else u) := by
  split <;> assumption

theorem CountersKept.foldl {α : Type} {f : State → α → State} (h : ∀ t a, CountersKept t (f t a)) :
    ∀ (l : List α) (s : State), CountersKept s (l.foldl f s)
  | [], s => .refl s
  | a :: rest, s => (h s a).trans (CountersKept.foldl h rest (f s a))

theorem postReminder_kept (i : Nat) (s : State) : CountersKept s (postReminder i s) := by
  have post : CountersKept s (msgPost .reminder (.service (itemOf s i).state i) 5 (some 4) s).2 :=
    .of_only (msgPost_only _ _ _ _ s) (by decide) (by decide)
  unfold postReminder
  split <;> rename_i taken <;> rw [taken] at post <;> exact post.trans ⟨rfl, rfl, rfl⟩

theorem setCursor_kept (next : Option Nat) (s : State) : CountersKept s (setCursor next s) := by
  unfold setCursor
  split
  · refine CountersKept.trans ?_ (postReminder_kept _ _)
    exact ⟨rfl, rfl, rfl⟩
  · exact ⟨rfl, rfl, rfl⟩

theorem messageDropped_kept (o : MsgOrigin) (s : State) : CountersKept s (messageDropped o s) := by
  unfold messageDropped advanceReminder
  split
  · exact .of_only (modifyWarn_only _ _ s) (by decide) (by decide)
  · split
    · exact setCursor_kept _ s
    · exact .refl s
  · exact .refl s

theorem postMessage_kept (o : MsgOrigin) (x : Text) (prio : Nat) (mx : Option Nat) (s : State) :
    CountersKept s (postMessage o x prio mx s).2 := by
  have post : CountersKept s (msgPost o x prio mx s).2 := .of_only (msgPost_only _ _ _ _ s) (by decide) (by decide)
  unfold postMessage
  split <;> rename_i taken <;> rw [taken] at post
  · exact post
  · exact post
  · exact post.trans (messageDropped_kept _ _)

theorem modifyWarn_kept (n : Nat) (f : WarnEntry → WarnEntry) (s : State) : CountersKept s (modifyWarn n f s) :=
  .of_only (modifyWarn_only n f s) (by decide) (by decide)

theorem postWarnMessage_kept (n : Nat) (s : State) : CountersKept s (postWarnMessage n s) := by
  have post := postMessage_kept (.warning n) (.warning n) (warnPriority n) none s
  unfold postWarnMessage
  split <;> rename_i taken <;> rw [taken] at post
  · exact post.trans (modifyWarn_kept _ _ _)
  · exact post

theorem postOutstanding_kept (n : Nat) (s : State) : CountersKept s (postOutstanding n s) := by
  have chime : CountersKept s (if (warnEntry s n).chimeOut then postWarnChime n s else s) :=
    .ite (.of_only (postWarnChime_only n s) (by decide) (by decide)) (.refl s)
  exact (chime.trans (.ite (postWarnMessage_kept n _) (.refl _))).trans (modifyWarn_kept n _ _)

theorem afterEntry7_kept (before after : Bool) (s : State) : CountersKept s (afterEntry7 before after s) := by
  unfold afterEntry7
  refine .ite ?_ (.ite ⟨rfl, rfl, rfl⟩ (.refl s))
  refine CountersKept.trans ?_ (.of_only (offerOwned_only _ _) (by decide) (by decide))
  exact ⟨rfl, rfl, rfl⟩

theorem changeWarn_kept (n : Nat) (f : WarnEntry → WarnEntry) (s : State) : CountersKept s (changeWarn n f s) :=
  .ite ((modifyWarn_kept n f s).trans (afterEntry7_kept _ _ _)) (modifyWarn_kept n f s)

theorem enterActive_kept (n c : Nat) (s : State) : CountersKept s (enterActive n c s) :=
  .ite ((changeWarn_kept _ _ s).trans (postOutstanding_kept n _)) (changeWarn_kept _ _ s)

theorem enterIdle_kept (n : Nat) (s : State) : CountersKept s (enterIdle n s) :=
  ((changeWarn_kept _ _ s).trans (.of_only (withdrawChime_only _ _) (by decide) (by decide))).trans
    (.of_only (removeRecord_only _ _) (by decide) (by decide))

theorem evaluatedTrue_kept (n : Nat) (s : State) : CountersKept s (evaluatedTrue n s) := by
  unfold evaluatedTrue returnToPrior
  dsimp only
  split
  case h_1 => exact .ite (enterActive_kept _ _ s) (changeWarn_kept _ _ s)
  case h_2 => exact .ite (enterActive_kept _ _ s) (changeWarn_kept _ _ s)
  case h_3 => exact .refl s
  case h_4 => exact .ite (enterActive_kept _ _ s) (.refl s)
  case h_5 => exact changeWarn_kept _ _ s

theorem evaluatedFalse_kept (n : Nat) (s : State) : CountersKept s (evaluatedFalse n s) := by
  unfold evaluatedFalse enterClearing
  dsimp only
  split
  case h_1 => exact .refl s
  case h_2 => exact changeWarn_kept _ _ s
  case h_3 => exact .ite (enterIdle_kept _ s) (changeWarn_kept _ _ s)
  case h_4 => exact .ite (enterIdle_kept _ s) (changeWarn_kept _ _ s)
  case h_5 => exact .ite (enterIdle_kept _ s) (changeWarn_kept _ _ s)

theorem evaluate_kept (s : State) (n : Nat) : CountersKept s (evaluate s n) := by
  unfold evaluate
  dsimp only
  split
  · split
    · exact .ite (evaluatedTrue_kept n s) (evaluatedFalse_kept n s)
    · exact .refl s
  · exact .refl s

theorem applyGates_kept (s : State) : CountersKept s (applyGates s) :=
  .foldl (fun t n => .ite (enterIdle_kept n t) (.refl t)) _ s

theorem evaluateReport_kept (k : ReportKind) (s : State) : CountersKept s (evaluateReport k s) :=
  .foldl evaluate_kept _ s

/-! ### Offers of a service record and of the odometer -/

theorem offerRecord_item_only (i : Nat) (s : State) : OnlyIn [.service, .nsp] s (offerRecord (.item i) s) := by
  refine OnlyIn.trans ?_ ((kickWriter_only _).mono (by decide))
  rcases takeRecord_cases s (.item i) with ⟨_, _, _, _, taken⟩ | left
  · rw [taken]
    exact ((only_nsp s _).mono (by decide)).trans ((modifyItem_only i _ _).mono (by decide))
  · rw [left]
    exact .refl _ s

theorem markItem_only_items (i : Nat) (s : State) : OnlyIn [.service, .nsp] s (markItem i s) :=
  .ite ((modifyItem_only _ _ s).mono (by decide))
    (((modifyItem_only _ _ s).mono (by decide)).trans (offerRecord_item_only _ _))

theorem itemMoved_only_items (i : Nat) (km : Int) (hours : Option Int) (m : Bool) (s : State) :
    OnlyIn [.service, .nsp] s (itemMoved i km hours m s) :=
  OnlyIn.trans ((modifyItem_only i _ s).mono (by decide)) (.ite (markItem_only_items i _) (.refl _ _))

theorem wholeKmMark_only_items (s : State) : OnlyIn [.service, .nsp] s (wholeKmMark s) :=
  .foldl (fun t _ => .ite (itemMoved_only_items _ _ _ _ t) (.refl _ t)) _ s

theorem countHours_only_items (s : State) (i : Nat) : OnlyIn [.service, .nsp] s (countHours s i) := by
  unfold countHours
  split
  · exact .ite (itemMoved_only_items _ _ _ _ s) (.refl _ s)
  · exact .refl _ s

theorem countTenths_only_items : ∀ (n : Nat) (s : State), OnlyIn [.service, .nsp] s (countTenths n s)
  | 0, s => .refl _ s
  | n + 1, s => (OnlyIn.foldl countHours_only_items itemNumbers s).trans (countTenths_only_items n _)

theorem runSeconds_only_items (d : Nat) (s : State) : OnlyIn [.service, .nsp] s (runSeconds d s) :=
  ((only_service s _).mono (by decide)).trans (countTenths_only_items _ _)

theorem modifyItem_hoursResidue (i : Nat) (f : Item → Item) (s : State) :
    (modifyItem i f s).service.hoursResidue = s.service.hoursResidue := by
  unfold modifyItem
  split <;> rfl

theorem offerRecord_item_hoursResidue (i : Nat) (s : State) :
    (offerRecord (.item i) s).service.hoursResidue = s.service.hoursResidue := by
  unfold offerRecord
  rw [(kickWriter_only _).service (by decide)]
  rcases takeRecord_cases s (.item i) with ⟨_, _, _, _, taken⟩ | left
  · rw [taken]
    exact modifyItem_hoursResidue _ _ _
  · rw [left]

theorem markItem_hoursResidue (i : Nat) (s : State) : (markItem i s).service.hoursResidue = s.service.hoursResidue := by
  unfold markItem
  split
  · exact modifyItem_hoursResidue _ _ _
  · rw [offerRecord_item_hoursResidue, modifyItem_hoursResidue]

theorem itemMoved_hoursResidue (i : Nat) (km : Int) (hours : Option Int) (m : Bool) (s : State) :
    (itemMoved i km hours m s).service.hoursResidue = s.service.hoursResidue := by
  unfold itemMoved
  dsimp only
  split
  · rw [markItem_hoursResidue, modifyItem_hoursResidue]
  · exact modifyItem_hoursResidue _ _ _

theorem countHours_hoursResidue (s : State) (i : Nat) :
    (countHours s i).service.hoursResidue = s.service.hoursResidue := by
  unfold countHours
  split
  · split
    · exact itemMoved_hoursResidue _ _ _ _ _
    · rfl
  · rfl

theorem countTenths_hoursResidue : ∀ (n : Nat) (s : State),
    (countTenths n s).service.hoursResidue = s.service.hoursResidue
  | 0, _ => rfl
  | n + 1, s => by
    have items : ∀ (l : List Nat) (t : State), (l.foldl countHours t).service.hoursResidue = t.service.hoursResidue :=
      fun l => by
        induction l with
        | nil => exact fun _ => rfl
        | cons i rest ih => exact fun t => (ih _).trans (countHours_hoursResidue t i)
    exact (countTenths_hoursResidue n _).trans (items _ s)

/-- Run seconds fill the hours residue (06 R98). -/
theorem issue_runSeconds_hoursResidue {s : State} (d : Nat) (low : s.service.hoursResidue < 360) :
    (issue runSeconds d s).service.hoursResidue = (s.service.hoursResidue + d) % 360 := by
  unfold issue
  split
  · subst_vars
    exact (Nat.mod_eq_of_lt low).symm
  · exact countTenths_hoursResidue _ _

/-! ### Fuel counts -/

theorem issue_zero (consumer : Nat → State → State) (s : State) : issue consumer 0 s = s := rfl

theorem fuelDelta_trip (d : Nat) (s : State) : (fuelDelta d s).trip = tripFuelDelta d s.trip :=
  ((deadReckon_only d _).trip (by decide)).trans ((journeyFuel_only d _).trip (by decide))

theorem fuelDelta_fuel (d : Nat) (s : State) : (fuelDelta d s).fuel = (deadReckon d s).fuel := by
  have kept := (journeyFuel_only d { s with trip := tripFuelDelta d s.trip }).fuel (by decide)
  unfold fuelDelta deadReckon
  rw [kept]
  split <;> simp_all

theorem fuelDelta_journey (d : Nat) (s : State) : (fuelDelta d s).journey = (journeyFuel d s).journey := by
  refine ((deadReckon_only d _).journey (by decide)).trans ?_
  unfold journeyFuel
  cases s.journey.openJourney <;> rfl

/-- The Trip Computer after a fuel-count delta, issued or 0 (04 R67). -/
theorem issue_fuelDelta_trip {s : State} (d : Nat) (within : tripsWithin s.trip = true)
    (count : s.trip.segCount ≤ 4294967295) : (issue fuelDelta d s).trip = tripFuelDelta d s.trip := by
  simp only [tripsWithin, tripWithin, Bool.and_eq_true, decide_eq_true_eq] at within
  obtain ⟨⟨⟨⟨⟨⟨⟨⟨_, fuelA⟩, _⟩, ⟨_, fuelB⟩, _⟩, _⟩, _⟩, _⟩, _⟩, _⟩ := within
  unfold issue
  split
  · subst_vars
    simp [tripFuelDelta, tripFuel, addSat, countTop, Nat.min_eq_right fuelA, Nat.min_eq_right fuelB,
      Nat.min_eq_right count]
  · exact fuelDelta_trip d s

/-- The Fuel Estimator after a fuel-count delta, issued or 0 (03 R46). -/
theorem issue_fuelDelta_fuel {s : State} (d : Nat) (low : s.fuel.residue < 200) :
    (issue fuelDelta d s).fuel.mainEst = s.fuel.mainEst.map (fun m => m - (s.fuel.residue + d) / 200)
    ∧ (s.fuel.mainEst ≠ none → (issue fuelDelta d s).fuel.residue = (s.fuel.residue + d) % 200)
    ∧ (s.fuel.mainEst = none → (issue fuelDelta d s).fuel.residue = s.fuel.residue) := by
  unfold issue
  split
  · subst_vars
    have none_ : s.fuel.residue / 200 = 0 := Nat.div_eq_of_lt low
    refine ⟨?_, fun _ => (Nat.mod_eq_of_lt low).symm, fun _ => rfl⟩
    cases s.fuel.mainEst <;> simp [none_]
  · rw [fuelDelta_fuel, deadReckon]
    cases est : s.fuel.mainEst <;> simp [est]

/-- The open journey after a fuel-count delta, issued or 0 (05 R85). -/
theorem issue_fuelDelta_journey {s : State} (d : Nat) (low : s.journey.residue < 200) :
    (∀ j ∈ s.journey.openJourney, j.fuel ≤ 65535 → (issue fuelDelta d s).journey.openJourney
      = some { j with fuel := min 65535 (j.fuel + (s.journey.residue + d) / 200) })
    ∧ (s.journey.openJourney = none → (issue fuelDelta d s).journey.openJourney = none) := by
  unfold issue
  split
  · subst_vars
    have none_ : s.journey.residue / 200 = 0 := Nat.div_eq_of_lt low
    exact ⟨fun j hj within => by simp [Option.mem_def.mp hj, none_, Nat.min_eq_right within], id⟩
  · rw [fuelDelta_journey, journeyFuel]
    exact ⟨fun j hj _ => by simp [Option.mem_def.mp hj, addSat], fun empty => by simp [empty]⟩

/-! ### The accepted FUEL FLOW arrival -/

/-- The state in which the consumers of an accepted arrival are told: heard, and its entry replaced. -/
def entered (k : ReportKind) (h : Heard) (s : State) : State :=
  { noteHeard h s with bus := setEntry k (acceptedEntry s k h) (noteHeard h s).bus }

theorem entered_only (k : ReportKind) (h : Heard) (s : State) : OnlyIn [.bus, .power] s (entered k h s) :=
  (noteHeard_only h s).trans ((only_bus _ _).mono (by decide))

theorem callBefore_noteHeard (h : Heard) (s : State) (source : Nat) :
    callBefore (noteHeard h s) source = callBefore s source := by
  simp [callBefore, sameSource]

theorem acceptArrival_noteHeard (k : ReportKind) (h : Heard) (s : State) :
    acceptArrival k h (noteHeard h s) = consumers k h (slotDelta s k h 1).2 (slotDelta s k h 2).2
      (raisesCall (callBefore s h.source) h) (entered k h s) := by
  simp only [acceptArrival, slotDelta_noteHeard, callBefore_noteHeard, acceptedEntry_noteHeard, entered]

theorem offerReport_bound {k : ReportKind} {h : Heard} {s : State} (bound : (entryIn s k).bound = some h.source) :
    offerReport k h (noteHeard h s) = consumers k h (slotDelta s k h 1).2 (slotDelta s k h 2).2
      (raisesCall (callBefore s h.source) h) (entered k h s) := by
  rw [offerReport_accept (offerDecision_bound (by simpa using bound)), acceptArrival_noteHeard]

/-- The delta of a cumulative slot of the bound source, with a baseline and without FIRST (01 R7). -/
theorem slotDelta_issued {k : ReportKind} {h : Heard} {s : State} {slot top : Nat} {old new : Word}
    (limit : deltaLimit k slot = some top) (base : baseBefore s k h.source slot = some old)
    (arrived : slotAt h.slots slot = some new) (first : h.first = false) :
    (slotDelta s k h slot).2 = if (new - old).toNat ≤ top then (new - old).toNat else 0 := by
  rw [slotDelta, limit, base, arrived, first, counterDelta_issued]

end Sys2Proof.Machine

open Sys2Proof Sys2Proof.Machine

/-- Settles O33: each slot's delta goes to its own consumers, and the run seconds touch the service records and the
store alone. -/
theorem fuelCountsReachTheirConsumers : Obligations.FuelCountsReachTheirConsumers := by
  refine ⟨?noDelta, ?delta⟩
  case noDelta =>
    intro h s heard accepted noDelta
    refine ⟨_, exec_reportArrival_heard heard, ?_⟩
    rcases offerReport_accepted_cases accepted with taken | waits
    · rw [taken, acceptArrival_noteHeard]
      have before := entered_only .fuelFlow h s
      refine ⟨fun none1 => ?_, fun none2 => ?_, ?_⟩
      · have zero : (slotDelta s .fuelFlow h 1).2 = 0 := slotDelta_none (baseBefore_one s _ _) none1
        have only := issue_only runSeconds_only_items (slotDelta s .fuelFlow h 2).2 (entered .fuelFlow h s)
        simp only [consumers, zero, issue_zero, settled_trip, settled_fuel, settled_journey]
        exact ⟨(only.trip (by decide)).trans (before.trip (by decide)),
          (only.fuel (by decide)).trans (before.fuel (by decide)),
          (only.journey (by decide)).trans (before.journey (by decide))⟩
      · have zero : (slotDelta s .fuelFlow h 2).2 = 0 := slotDelta_none (baseBefore_two s _ _) none2
        have only := issue_only fuelDelta_only (slotDelta s .fuelFlow h 1).2 (entered .fuelFlow h s)
        simp only [consumers, zero, issue_zero, settled_service]
        exact (only.service (by decide)).trans (before.service (by decide))
      · rw [← acceptArrival_noteHeard, ← taken]
        exact reportArrival_only _ h s
    · refine ⟨fun _ => ?_, fun _ => ?_, reportArrival_only _ h s⟩ <;> simp [waits]
  case delta =>
    intro h old new s heard bound base arrived first trips count low lowJourney delta
    have base1 : baseBefore s .fuelFlow h.source 1 = some old := by rw [baseBefore_one, if_pos bound, base]
    have issued : (slotDelta s .fuelFlow h 1).2 = delta := slotDelta_issued rfl base1 arrived first
    have before := entered_only .fuelFlow h s
    have tripSame := before.trip (by decide)
    have fuelSame := before.fuel (by decide)
    have journeySame := before.journey (by decide)
    have serviceSame := before.service (by decide)
    refine ⟨_, exec_reportArrival_heard heard, ?_⟩
    have only := reportArrival_only .fuelFlow h s
    rw [offerReport_bound bound] at only ⊢
    simp only [consumers, issued] at only ⊢
    have seconds := issue_only runSeconds_only_items (slotDelta s .fuelFlow h 2).2
      (issue fuelDelta delta (entered .fuelFlow h s))
    have trip : (settled (issue runSeconds (slotDelta s .fuelFlow h 2).2
        (issue fuelDelta delta (entered .fuelFlow h s)))).trip = tripFuelDelta delta s.trip := by
      rw [settled_trip, seconds.trip (by decide), issue_fuelDelta_trip delta (by rw [tripSame]; exact trips)
        (by rw [tripSame]; exact count), tripSame]
    have fuel := issue_fuelDelta_fuel (s := entered .fuelFlow h s) delta (by rw [fuelSame]; exact low)
    have journey := issue_fuelDelta_journey (s := entered .fuelFlow h s) delta (by rw [journeySame]; exact lowJourney)
    rw [fuelSame] at fuel
    rw [journeySame] at journey
    rw [trip, settled_fuel, settled_journey, settled_service, seconds.fuel (by decide), seconds.journey (by decide)]
    obtain ⟨main, residue, undefined⟩ := fuel
    obtain ⟨openFuel, closed⟩ := journey
    refine ⟨rfl, rfl, rfl, rfl, main, residue, undefined, openFuel, closed, fun a b baseA slotB lowHours => ?_, only⟩
    have base2 : baseBefore s .fuelFlow h.source 2 = some a := by rw [baseBefore_two, if_pos bound, baseA]
    have serviceKept : (issue fuelDelta delta (entered .fuelFlow h s)).service = s.service :=
      ((issue_only fuelDelta_only _ _).service (by decide)).trans serviceSame
    rw [slotDelta_issued (top := 64) rfl base2 slotB first,
      issue_runSeconds_hoursResidue _ (by rw [serviceKept]; exact lowHours), serviceKept]
end

section
/-! PROOFS. Distance: what one distance step and what many of them do to each consumer (04 R61 to R66, R76), and the
statement about pulses (O32). -/

namespace Sys2Proof.Machine

/-! ### Pulses reach the units, and the rest of a CHASSIS arrival leaves them -/

/-- After the pulses, a CHASSIS arrival changes none of the figures that count distance. -/
theorem consumers_chassis_kept (h : Heard) (d e : Nat) (c : Bool) (s : State) :
    let pulsed := issue pulseDelta d s
    let t := consumers .chassis h d e c s
    t.trip = pulsed.trip ∧ t.journey = pulsed.journey ∧ t.service.items = pulsed.service.items
      ∧ t.service.hoursResidue = pulsed.service.hoursResidue ∧ t.fuel.senderWatch = pulsed.fuel.senderWatch
      ∧ t.nsp = pulsed.nsp := by
  intro pulsed t
  have still : (followStandstill (slotAt h.slots 2) pulsed).fuel.senderWatch = pulsed.fuel.senderWatch := by
    unfold followStandstill
    repeat' split
    all_goals rfl
  have speeds : OnlyIn [.bus, .warn] (followStandstill (slotAt h.slots 2) pulsed)
      (takeGateSpeed h.ready (slotAt h.slots 2) (holdSpeed (slotAt h.slots 2)
        (followStandstill (slotAt h.slots 2) pulsed))) :=
    ((holdSpeed_only _ _).mono (by decide)).trans ((takeGateSpeed_only _ _ _).mono (by decide))
  have before := followStandstill_only (slotAt h.slots 2) pulsed
  have warned : OnlyIn warnBlocks _ t := (applyGates_only _).trans (evaluateReport_only .chassis _)
  have kept : CountersKept _ t := (applyGates_kept _).trans (evaluateReport_kept .chassis _)
  have blocks : OnlyIn (.bus :: warnBlocks) pulsed t :=
    ((before.mono (by decide)).trans (speeds.mono (by decide))).trans (warned.mono (by decide))
  have watch : t.fuel.senderWatch = pulsed.fuel.senderWatch := by
    rw [kept.fuel, speeds.fuel (by decide)]
    exact still
  refine ⟨blocks.trip (by decide), blocks.journey (by decide), ?_, ?_, watch, blocks.nsp (by decide)⟩
  · rw [kept.items, speeds.service (by decide), before.service (by decide)]
  · rw [kept.hours, speeds.service (by decide), before.service (by decide)]

/-! ### Service items -/

/-- A change of an item that keeps a figure of it keeps that figure of every item. -/
theorem itemOf_modifyItem_kept {β : Type} (p : Item → β) {f : Item → Item} (same : ∀ x, p (f x) = p x) (i j : Nat)
    (s : State) : p (itemOf (modifyItem i f s) j) = p (itemOf s j) := by
  have place : ∀ (l : List Item) (a b : Nat) (d : Item), p ((modifyAt a f l).getD b d) = p (l.getD b d) := by
    intro l
    induction l with
    | nil => simp [modifyAt]
    | cons x rest ih =>
      intro a b d
      cases a with
      | zero => cases b <;> simp [modifyAt, same]
      | succ a =>
        cases b with
        | zero => simp [modifyAt]
        | succ b => simpa [modifyAt] using ih a b d
  unfold itemOf modifyItem
  split
  · split
    · exact place _ _ _ _
    · rfl
  · rfl

theorem itemOf_congr {s t : State} (same : t.service.items = s.service.items) (i : Nat) : itemOf t i = itemOf s i := by
  unfold itemOf
  rw [same]

theorem offerRecord_item_km (i j : Nat) (s : State) : (itemOf (offerRecord (.item i) s) j).km = (itemOf s j).km := by
  unfold offerRecord
  rw [itemOf_congr (congrArg Service.items ((kickWriter_only _).service (by decide)))]
  rcases takeRecord_cases s (.item i) with ⟨_, _, _, _, taken⟩ | left
  · rw [taken]
    exact itemOf_modifyItem_kept Item.km (f := fun x => { x with dirty := false }) (fun _ => rfl) i j _
  · rw [left]

theorem offerRecord_item_length (i : Nat) (s : State) :
    (offerRecord (.item i) s).service.items.length = s.service.items.length := by
  unfold offerRecord
  rw [(kickWriter_only _).service (by decide)]
  rcases takeRecord_cases s (.item i) with ⟨_, _, _, _, taken⟩ | left
  · rw [taken]
    exact (lengths_modify { s with nsp := _ } i id id id _).2.2.2
  · rw [left]

theorem markItem_km (i j : Nat) (s : State) : (itemOf (markItem i s) j).km = (itemOf s j).km := by
  unfold markItem
  split
  · exact itemOf_modifyItem_kept Item.km (f := fun x => { x with moved := false }) (fun _ => rfl) i j s
  · rw [offerRecord_item_km]
    exact itemOf_modifyItem_kept Item.km (f := fun x => { x with moved := false, dirty := true }) (fun _ => rfl) i j s

theorem markItem_length (i : Nat) (s : State) : (markItem i s).service.items.length = s.service.items.length := by
  unfold markItem
  split
  · exact (lengths_modify s i id id id _).2.2.2
  · rw [offerRecord_item_length]
    exact (lengths_modify s i id id id _).2.2.2

theorem itemMoved_length (i : Nat) (km : Int) (hours : Option Int) (m : Bool) (s : State) :
    (itemMoved i km hours m s).service.items.length = s.service.items.length := by
  unfold itemMoved
  dsimp only
  split
  · rw [markItem_length]
    exact (lengths_modify s i id id id _).2.2.2
  · exact (lengths_modify s i id id id _).2.2.2

theorem itemMoved_km {i : Nat} {s : State} (whole : s.service.items.length = 8) (item : isItem i = true) (km : Int)
    (hours : Option Int) (m : Bool) (j : Nat) :
    (itemOf (itemMoved i km hours m s) j).km = if j = i then km else (itemOf s j).km := by
  unfold itemMoved
  dsimp only
  have changed : ∀ f : Item → Item, (∀ x, (f x).km = km) →
      (itemOf (modifyItem i f s) j).km = if j = i then km else (itemOf s j).km := fun f hf => by
    split
    · subst_vars
      rw [itemOf_modifyItem_same whole item, hf]
    · rw [itemOf_modifyItem_other ‹_›]
  split
  · rw [markItem_km]
    exact changed _ fun _ => rfl
  · exact changed _ fun _ => rfl

theorem countKm_length (s : State) (i : Nat) : (countKm s i).service.items.length = s.service.items.length := by
  unfold countKm
  split
  · exact itemMoved_length _ _ _ _ _
  · rfl

/-- A whole-km mark takes 1 from the item's remaining km, down to -9,999 (06 R97). -/
theorem countKm_km {i : Nat} {s : State} (whole : s.service.items.length = 8) (item : isItem i = true)
    (low : -9999 ≤ (itemOf s i).km) (j : Nat) :
    (itemOf (countKm s i) j).km = if j = i then max (-9999) ((itemOf s i).km - 1) else (itemOf s j).km := by
  unfold countKm
  split
  · rw [itemMoved_km whole item]
    split
    · omega
    · rfl
  · split
    · subst_vars
      omega
    · rfl

/-- Every item's remaining km is at least -9,999. -/
def kmAbove (s : State) : Prop := ∀ i ∈ itemNumbers, -9999 ≤ (itemOf s i).km

theorem isItem_of_mem {i : Nat} (h : i ∈ itemNumbers) : isItem i = true := by
  revert i
  decide

theorem foldl_countKm_km : ∀ (l : List Nat) (s : State), (∀ i ∈ l, isItem i = true) → l.Nodup →
    s.service.items.length = 8 → (∀ i ∈ l, -9999 ≤ (itemOf s i).km) →
    (l.foldl countKm s).service.items.length = 8
      ∧ ∀ j, (itemOf (l.foldl countKm s) j).km
          = if j ∈ l then max (-9999) ((itemOf s j).km - 1) else (itemOf s j).km
  | [], s, _, _, whole, _ => ⟨whole, fun j => by simp⟩
  | i :: rest, s, items, apart, whole, low => by
    obtain ⟨absent, apart⟩ := List.nodup_cons.mp apart
    have km := countKm_km whole (items i List.mem_cons_self) (low i List.mem_cons_self)
    have others : ∀ j ∈ rest, (itemOf (countKm s i) j).km = (itemOf s j).km := fun j hj => by
      rw [km, if_neg (by rintro rfl; exact absent hj)]
    obtain ⟨length, after⟩ := foldl_countKm_km rest (countKm s i) (fun j hj => items j (List.mem_cons_of_mem _ hj)) apart
      (by rw [countKm_length, whole]) (fun j hj => by rw [others j hj]; exact low j (List.mem_cons_of_mem _ hj))
    refine ⟨length, fun j => (after j).trans ?_⟩
    by_cases later : j ∈ rest
    · rw [if_pos later, others j later, if_pos (List.mem_cons_of_mem _ later)]
    · rw [if_neg later, km]
      by_cases same : j = i
      · subst same
        simp
      · simp [same, later]

theorem wholeKmMark_km {s : State} (whole : s.service.items.length = 8) (low : kmAbove s) :
    (wholeKmMark s).service.items.length = 8
      ∧ ∀ i ∈ itemNumbers, (itemOf (wholeKmMark s) i).km = max (-9999) ((itemOf s i).km - 1) := by
  obtain ⟨length, km⟩ := foldl_countKm_km itemNumbers s (fun _ => isItem_of_mem) (by decide) whole low
  unfold wholeKmMark
  refine ⟨length, fun i hi => ?_⟩
  rw [km i, if_pos hi]

/-! ### One distance step -/

theorem markOdometer_only_trip (s : State) : OnlyIn [.trip, .nsp] s (markOdometer s) := by
  let dirty : State := { s with trip := { s.trip with odoDirty := true } }
  have marked : OnlyIn [.trip, .nsp] s dirty := (only_trip s _).mono (by decide)
  refine (marked.trans ?_).trans ((kickWriter_only (takeRecord dirty .odometer)).mono (by decide))
  rcases takeRecord_cases dirty .odometer with ⟨_, _, _, _, taken⟩ | left
  · rw [taken]
    constructor <;> simp [markTaken]
  · rw [left]
    exact .refl _ _

theorem markOdometer_trip (s : State) : ∃ dirty, (markOdometer s).trip = { s.trip with odoDirty := dirty } := by
  unfold markOdometer offerRecord
  rw [(kickWriter_only _).trip (by decide)]
  rcases takeRecord_cases { s with trip := { s.trip with odoDirty := true } } .odometer with ⟨_, _, _, _, taken⟩ | left
  · rw [taken]
    exact ⟨false, rfl⟩
  · rw [left]
    exact ⟨true, rfl⟩

/-- The odometer's step: the odometer up to its top, its dirty mark, the items at a whole km, and the store. -/
theorem odometerStep_spec (s : State) :
    OnlyIn [.trip, .service, .nsp] s (odometerStep s)
    ∧ ∃ dirty, (odometerStep s).trip = { s.trip with
        odometer := if s.trip.odometer < 9999999 then s.trip.odometer + 1 else s.trip.odometer, odoDirty := dirty } := by
  unfold odometerStep
  split
  case isFalse => exact ⟨.refl _ s, s.trip.odoDirty, rfl⟩
  case isTrue =>
    dsimp only
    let moved : State := { s with trip := { s.trip with odometer := s.trip.odometer + 1 } }
    have markedOnly : OnlyIn [.service, .nsp] moved
        (if moved.trip.odometer % 10 = 0 then wholeKmMark moved else moved) :=
      .ite (wholeKmMark_only_items moved) (.refl _ moved)
    have movedOnly : OnlyIn [.trip, .service, .nsp] s moved := (only_trip s _).mono (by decide)
    have only := movedOnly.trans (markedOnly.mono (cs := [.trip, .service, .nsp]) (by decide))
    have trip := markedOnly.trip (by decide)
    split
    · refine ⟨only.trans ((markOdometer_only_trip _).mono (by decide)), ?_⟩
      obtain ⟨dirty, marked⟩ := markOdometer_trip (if moved.trip.odometer % 10 = 0 then wholeKmMark moved else moved)
      exact ⟨dirty, by rw [marked, trip]⟩
    · exact ⟨only, s.trip.odoDirty, trip⟩

/-- The items take 1 km at the odometer's step to a multiple of 10 (04 R64, 06 R97). -/
theorem odometerStep_km {s : State} (whole : s.service.items.length = 8) (low : kmAbove s) :
    (odometerStep s).service.items.length = 8
      ∧ ∀ i ∈ itemNumbers, (itemOf (odometerStep s) i).km
          = max (-9999) ((itemOf s i).km
              - (if s.trip.odometer < 9999999 ∧ (s.trip.odometer + 1) % 10 = 0 then 1 else 0)) := by
  have same : ∀ i ∈ itemNumbers, (itemOf s i).km = max (-9999) ((itemOf s i).km - 0) := fun i hi => by
    have := low i hi
    omega
  unfold odometerStep
  split
  case isFalse top => exact ⟨whole, fun i hi => by rw [if_neg (fun h => top h.1)]; exact same i hi⟩
  case isTrue below =>
    dsimp only
    let moved : State := { s with trip := { s.trip with odometer := s.trip.odometer + 1 } }
    let marked := if moved.trip.odometer % 10 = 0 then wholeKmMark moved else moved
    have items : marked.service.items.length = 8 ∧ ∀ i ∈ itemNumbers, (itemOf marked i).km
          = max (-9999) ((itemOf s i).km - (if (s.trip.odometer + 1) % 10 = 0 then 1 else 0)) := by
      by_cases tenth : (s.trip.odometer + 1) % 10 = 0
      · obtain ⟨length, km⟩ := wholeKmMark_km (s := moved) whole low
        have isMark : marked = wholeKmMark moved := if_pos tenth
        rw [isMark, if_pos tenth]
        exact ⟨length, km⟩
      · have isMoved : marked = moved := if_neg tenth
        rw [isMoved, if_neg tenth]
        exact ⟨whole, same⟩
    simp only [below, true_and]
    split
    · have service : (markOdometer marked).service = marked.service := (markOdometer_only_trip marked).service (by decide)
      refine ⟨(congrArg (fun x => x.items.length) service).trans items.1, fun i hi => ?_⟩
      exact (congrArg Item.km (itemOf_congr (congrArg Service.items service) i)).trans (items.2 i hi)
    · exact items

theorem distanceStep_trip (s : State) : ∃ dirty, (distanceStep s).trip = segmentStep { s.trip with
    odometer := if s.trip.odometer < 9999999 then s.trip.odometer + 1 else s.trip.odometer, odoDirty := dirty,
    tripA := tripStep s.trip.tripA, tripB := tripStep s.trip.tripB } := by
  obtain ⟨_, dirty, trip⟩ := odometerStep_spec s
  refine ⟨dirty, ?_⟩
  have steps : (distanceStep s).trip = (tripsStep (odometerStep s)).trip :=
    ((watchStep_only _).trip (by decide)).trans ((journeyStep_only _).trip (by decide))
  rw [steps, tripsStep, trip]

theorem distanceStep_service (s : State) : (distanceStep s).service = (odometerStep s).service := rfl

theorem distanceStep_journey (s : State) : (distanceStep s).journey = { s.journey with
    openJourney := s.journey.openJourney.map (fun j => { j with distance := min 65535 (j.distance + 1) }) } := by
  have kept : (tripsStep (odometerStep s)).journey = s.journey := (odometerStep_spec s).1.journey (by decide)
  exact congrArg (fun x : JourneyUnit => ({ x with
    openJourney := x.openJourney.map (fun j => { j with distance := min 65535 (j.distance + 1) }) } : JourneyUnit)) kept

theorem distanceStep_fuel (s : State) : (distanceStep s).fuel = { s.fuel with
    senderWatch := min 65535 (s.fuel.senderWatch + 1) } := by
  have kept : (journeyStep (tripsStep (odometerStep s))).fuel = s.fuel := (odometerStep_spec s).1.fuel (by decide)
  exact congrArg (fun x : Fuel => ({ x with senderWatch := min 65535 (x.senderWatch + 1) } : Fuel)) kept

/-! ### Many distance steps -/

theorem segmentStep_others (t : TripComputer) : segmentStep t = { t with
    segSteps := (segmentStep t).segSteps, segCount := (segmentStep t).segCount,
    rangeBasis := (segmentStep t).rangeBasis } := by
  unfold segmentStep
  split <;> rfl

/-- The figures that no distance step changes. -/
theorem distanceSteps_unchanged : ∀ (n : Nat) (s : State),
    (distanceSteps n s).trip.pulseResidue = s.trip.pulseResidue
    ∧ (distanceSteps n s).trip.pulseTotal = s.trip.pulseTotal
    ∧ (distanceSteps n s).trip.tripA.fuel = s.trip.tripA.fuel
    ∧ (distanceSteps n s).trip.tripA.seconds = s.trip.tripA.seconds
  | 0, _ => ⟨rfl, rfl, rfl, rfl⟩
  | n + 1, s => by
    obtain ⟨dirty, trip⟩ := distanceStep_trip s
    have ih := distanceSteps_unchanged n (distanceStep s)
    rw [trip, segmentStep_others] at ih
    exact ih

theorem distanceSteps_odometer : ∀ (n : Nat) {s : State}, s.trip.odometer ≤ 9999999 →
    (distanceSteps n s).trip.odometer = min 9999999 (s.trip.odometer + n)
  | 0, s, within => by simpa [distanceSteps] using within
  | n + 1, s, within => by
    obtain ⟨dirty, trip⟩ := distanceStep_trip s
    have step : (distanceStep s).trip.odometer = min 9999999 (s.trip.odometer + 1) := by
      rw [trip, segmentStep_others]
      dsimp only
      split <;> omega
    rw [distanceSteps, distanceSteps_odometer n (by omega), step]
    omega

theorem tripStep_distance {t : Trip} (within : t.distance ≤ 99999) :
    (tripStep t).distance = (t.distance + 1) % 100000 := by
  unfold tripStep
  dsimp only
  split <;> omega

theorem distanceSteps_trips : ∀ (n : Nat) {s : State}, s.trip.tripA.distance ≤ 99999 → s.trip.tripB.distance ≤ 99999 →
    (distanceSteps n s).trip.tripA.distance = (s.trip.tripA.distance + n) % 100000
    ∧ (distanceSteps n s).trip.tripB.distance = (s.trip.tripB.distance + n) % 100000
  | 0, s, a, b => by
    simp only [distanceSteps]
    omega
  | n + 1, s, a, b => by
    obtain ⟨dirty, trip⟩ := distanceStep_trip s
    have stepA : (distanceStep s).trip.tripA.distance = (s.trip.tripA.distance + 1) % 100000 := by
      rw [trip, segmentStep_others]
      exact tripStep_distance a
    have stepB : (distanceStep s).trip.tripB.distance = (s.trip.tripB.distance + 1) % 100000 := by
      rw [trip, segmentStep_others]
      exact tripStep_distance b
    obtain ⟨ihA, ihB⟩ := distanceSteps_trips n (s := distanceStep s) (by omega) (by omega)
    rw [distanceSteps, ihA, ihB, stepA, stepB]
    omega

theorem distanceSteps_watch : ∀ (n : Nat) {s : State}, s.fuel.senderWatch ≤ 65535 →
    (distanceSteps n s).fuel.senderWatch = min 65535 (s.fuel.senderWatch + n)
  | 0, s, within => by simpa [distanceSteps] using within
  | n + 1, s, within => by
    have step : (distanceStep s).fuel.senderWatch = min 65535 (s.fuel.senderWatch + 1) := by rw [distanceStep_fuel]
    rw [distanceSteps, distanceSteps_watch n (by omega), step]
    omega

theorem distanceSteps_journey : ∀ (n : Nat) (s : State),
    (distanceSteps n s).journey.openJourney.map (fun j => j.distance)
      = s.journey.openJourney.map (fun j => if n = 0 then j.distance else min 65535 (j.distance + n))
  | 0, s => by simp [distanceSteps]
  | n + 1, s => by
    rw [distanceSteps, distanceSteps_journey n, distanceStep_journey]
    cases s.journey.openJourney with
    | none => rfl
    | some j =>
      simp only [Option.map_some, Option.some.injEq]
      split <;> simp <;> omega

theorem distanceSteps_km : ∀ (n : Nat) {s : State}, s.service.items.length = 8 → kmAbove s →
    s.trip.odometer ≤ 9999999 → ∀ i ∈ itemNumbers, (itemOf (distanceSteps n s) i).km
      = max (-9999) ((itemOf s i).km - ((distanceSteps n s).trip.odometer / 10 - s.trip.odometer / 10 : Nat))
  | 0, s, _, low, _, i, hi => by
    have := low i hi
    simp only [distanceSteps]
    omega
  | n + 1, s, whole, low, within, i, hi => by
    obtain ⟨dirty, trip⟩ := distanceStep_trip s
    have odometer : (distanceStep s).trip.odometer = min 9999999 (s.trip.odometer + 1) := by
      rw [trip, segmentStep_others]
      dsimp only
      split <;> omega
    obtain ⟨length, km⟩ := odometerStep_km whole low
    have same : ∀ j, itemOf (distanceStep s) j = itemOf (odometerStep s) j :=
      itemOf_congr (congrArg Service.items (distanceStep_service s))
    have above : kmAbove (distanceStep s) := fun j hj => by
      rw [same, km j hj]
      omega
    have ih := distanceSteps_km n (s := distanceStep s) length above (by omega) i hi
    rw [distanceSteps, ih, same, km i hi, odometer, distanceSteps_odometer n (by omega), odometer]
    split <;> omega

/-! ### The range segment -/

theorem distanceSteps_add : ∀ (a b : Nat) (s : State), distanceSteps (a + b) s = distanceSteps b (distanceSteps a s)
  | 0, b, s => by simp [distanceSteps]
  | a + 1, b, s => by
    rw [Nat.add_right_comm, distanceSteps, distanceSteps, distanceSteps_add a b]

theorem distanceStep_segment (s : State) :
    (s.trip.segSteps + 1 < 10 → (distanceStep s).trip.segSteps = s.trip.segSteps + 1
      ∧ (distanceStep s).trip.segCount = s.trip.segCount ∧ (distanceStep s).trip.rangeBasis = s.trip.rangeBasis)
    ∧ (10 ≤ s.trip.segSteps + 1 → (distanceStep s).trip.segSteps = 0 ∧ (distanceStep s).trip.segCount = 0
      ∧ (distanceStep s).trip.rangeBasis = blendBasis s.trip.rangeBasis (segmentConsumption s.trip.segCount)) := by
  obtain ⟨dirty, trip⟩ := distanceStep_trip s
  rw [trip]
  refine ⟨fun below => ?_, fun closes => ?_⟩
  · simp [segmentStep, Nat.not_le.mpr below]
  · simp [segmentStep, closes]

/-- Steps that do not reach the tenth leave the segment open. -/
theorem distanceSteps_segment_open : ∀ (n : Nat) {s : State}, s.trip.segSteps + n < 10 →
    (distanceSteps n s).trip.segSteps = s.trip.segSteps + n ∧ (distanceSteps n s).trip.segCount = s.trip.segCount
      ∧ (distanceSteps n s).trip.rangeBasis = s.trip.rangeBasis
  | 0, s, _ => ⟨rfl, rfl, rfl⟩
  | n + 1, s, below => by
    obtain ⟨steps, count, basis⟩ := (distanceStep_segment s).1 (by omega)
    obtain ⟨steps', count', basis'⟩ := distanceSteps_segment_open n (s := distanceStep s) (by omega)
    exact ⟨by rw [distanceSteps, steps', steps]; omega, count'.trans count, basis'.trans basis⟩

/-- The tenth step closes the segment and blends its consumption (04 R76). -/
theorem distanceSteps_segment_close {n : Nat} {s : State} (tenth : s.trip.segSteps + n = 10) (some_ : 0 < n) :
    (distanceSteps n s).trip.segSteps = 0 ∧ (distanceSteps n s).trip.segCount = 0
      ∧ (distanceSteps n s).trip.rangeBasis
          = blendBasis s.trip.rangeBasis (segmentConsumption s.trip.segCount) := by
  obtain ⟨m, rfl⟩ : ∃ m, n = m + 1 := ⟨n - 1, by omega⟩
  obtain ⟨steps, count, basis⟩ := distanceSteps_segment_open m (s := s) (by omega)
  have last := (distanceStep_segment (distanceSteps m s)).2 (by omega)
  rw [count, basis] at last
  rw [distanceSteps_add m 1 s]
  exact last

/-- The segment after steps that close it twice at most: another segment closed at once has no fuel. -/
theorem distanceSteps_segment {n : Nat} {s : State} (inside : s.trip.segSteps ≤ 9) (few : s.trip.segSteps + n < 30) :
    let consumption := segmentConsumption s.trip.segCount
    (distanceSteps n s).trip.segSteps = (s.trip.segSteps + n) % 10
    ∧ (s.trip.segSteps + n < 10 → (distanceSteps n s).trip.segCount = s.trip.segCount
        ∧ (distanceSteps n s).trip.rangeBasis = s.trip.rangeBasis)
    ∧ (10 ≤ s.trip.segSteps + n → (distanceSteps n s).trip.segCount = 0)
    ∧ (10 ≤ s.trip.segSteps + n → s.trip.segSteps + n < 20 →
        (distanceSteps n s).trip.rangeBasis = blendBasis s.trip.rangeBasis consumption)
    ∧ (20 ≤ s.trip.segSteps + n →
        (distanceSteps n s).trip.rangeBasis = blendBasis (blendBasis s.trip.rangeBasis consumption) 30) := by
  intro consumption
  by_cases below : s.trip.segSteps + n < 10
  · obtain ⟨steps, count, basis⟩ := distanceSteps_segment_open n below
    exact ⟨by omega, fun _ => ⟨count, basis⟩, fun _ => by omega, fun _ => by omega, fun _ => by omega⟩
  obtain ⟨m, rfl⟩ : ∃ m, n = (10 - s.trip.segSteps) + m := ⟨n - (10 - s.trip.segSteps), by omega⟩
  obtain ⟨steps1, count1, basis1⟩ := distanceSteps_segment_close (s := s) (n := 10 - s.trip.segSteps)
    (by omega) (by omega)
  rw [distanceSteps_add]
  by_cases once : m < 10
  · obtain ⟨steps, count, basis⟩ := distanceSteps_segment_open m (s := distanceSteps (10 - s.trip.segSteps) s) (by omega)
    exact ⟨by omega, fun _ => by omega, fun _ => count.trans count1, fun _ _ => basis.trans basis1, fun _ => by omega⟩
  obtain ⟨k, rfl⟩ : ∃ k, m = 10 + k := ⟨m - 10, by omega⟩
  obtain ⟨steps2, count2, basis2⟩ := distanceSteps_segment_close (s := distanceSteps (10 - s.trip.segSteps) s) (n := 10)
    (by omega) (by omega)
  have idle : segmentConsumption 0 = 30 := by decide
  rw [count1, basis1, idle] at basis2
  rw [distanceSteps_add]
  obtain ⟨steps, count, basis⟩ := distanceSteps_segment_open k
    (s := distanceSteps 10 (distanceSteps (10 - s.trip.segSteps) s)) (by omega)
  exact ⟨by omega, fun _ => by omega, fun _ => count.trans count2, fun _ _ => by omega, fun _ => basis.trans basis2⟩

/-- The blend of C, as a step of at least one unit toward the segment (04 R76, 00 "Minimum step rule"). -/
theorem blendBasis_eq (c seg : Nat) : blendBasis c seg
    = if c < seg then c + max 1 ((seg - c) / 8) else if seg < c then c - max 1 ((c - seg) / 8) else c := by
  have up : ∀ d : Nat, 0 < d → filterStep (d : Int) 8 = (max 1 (d / 8) : Nat) := fun d pos => by
    have quotient : (d : Int).tdiv (8 : Nat) = ((d / 8 : Nat) : Int) := rfl
    unfold filterStep
    rw [quotient]
    split <;> omega
  unfold blendBasis
  rcases Nat.lt_trichotomy c seg with below | same | above
  · have rise := up (seg - c) (by omega)
    rw [Nat.cast_sub below.le] at rise
    rw [rise, if_pos below]
    omega
  · subst same
    simp
  · have fall := up (c - seg) (by omega)
    rw [Nat.cast_sub above.le] at fall
    have down : filterStep ((seg : Int) - c) 8 = -((max 1 ((c - seg) / 8) : Nat) : Int) := by
      rw [← fall, ← filterStep_neg, neg_sub]
    rw [down, if_neg (by omega), if_pos above]
    omega

/-! ### Pulses -/

theorem pulsesPerStep_ge (sel : BitVec 2) : 250 ≤ pulsesPerStep sel := by
  revert sel
  decide

/-- The state in which the distance steps of a pulse delta are issued: its pulses in the residue and the total. -/
def pulsesFilled (d : Nat) (s : State) : State :=
  { s with trip := { s.trip with pulseResidue := (s.trip.pulseResidue + d) % pulsesPerStep s.straps.pulseSel,
                                 pulseTotal := s.trip.pulseTotal + BitVec.ofNat 32 d } }

theorem pulseDelta_eq (d : Nat) (s : State) : pulseDelta d s
    = distanceSteps ((s.trip.pulseResidue + d) / pulsesPerStep s.straps.pulseSel) (pulsesFilled d s) := rfl

/-- A pulse delta of 0, which is not issued, would change nothing. -/
theorem issue_pulseDelta {s : State} (d : Nat) (low : s.trip.pulseResidue < pulsesPerStep s.straps.pulseSel) :
    issue pulseDelta d s = pulseDelta d s := by
  unfold issue
  split
  · subst_vars
    simp [pulseDelta, Nat.div_eq_of_lt low, Nat.mod_eq_of_lt low, distanceSteps]
  · rfl

theorem kmAbove_of_countersWithin {s : State} (whole : s.service.items.length = 8) (counters : countersWithin s = true) :
    kmAbove s := by
  simp only [countersWithin, Bool.and_eq_true] at counters
  obtain ⟨⟨_, items⟩, _⟩ := counters
  intro i hi
  have reach : i - 1 < s.service.items.length := by
    have := isItem_iff.mp (isItem_of_mem hi)
    omega
  have within := List.all_eq_true.mp items _ (List.getElem_mem reach)
  simp only [itemWithin, Bool.and_eq_true, decide_eq_true_eq] at within
  rw [itemOf, if_pos (isItem_of_mem hi), List.getD_eq_getElem _ _ reach]
  exact within.1.1

theorem senderWatch_of_countersWithin {s : State} (counters : countersWithin s = true) :
    s.fuel.senderWatch ≤ 65535 := by
  simp only [countersWithin, Bool.and_eq_true, decide_eq_true_eq] at counters
  obtain ⟨⟨⟨⟨⟨_, watch⟩, _⟩, _⟩, _⟩, _⟩ := counters
  exact watch

end Sys2Proof.Machine

open Sys2Proof Sys2Proof.Machine

/-- Settles O32: the pulses fill the residue, and each figure is followed through the distance steps by induction on
their number; the rest of the arrival leaves these figures. -/
theorem chassisPulsesBecomeDistance : Obligations.ChassisPulsesBecomeDistance := by
  refine ⟨?noDelta, ?delta⟩
  case noDelta =>
    intro h s heard accepted noDelta
    refine ⟨_, exec_reportArrival_heard heard, ?_⟩
    have only := reportArrival_only .chassis h s
    rcases offerReport_accepted_cases accepted with taken | waits
    · have zero : (slotDelta s .chassis h 1).2 = 0 := slotDelta_none (baseBefore_one s _ _) noDelta
      rw [taken, acceptArrival_noteHeard, zero] at only ⊢
      have before := entered_only .chassis h s
      obtain ⟨trip, journey, items, hours, watch, nsp⟩ := consumers_chassis_kept h 0 (slotDelta s .chassis h 2).2
        (raisesCall (callBefore s h.source) h) (entered .chassis h s)
      rw [issue_zero] at trip journey items hours watch nsp
      rw [before.trip (by decide)] at trip
      rw [before.journey (by decide)] at journey
      rw [before.service (by decide)] at items hours
      rw [before.fuel (by decide)] at watch
      rw [before.nsp (by decide)] at nsp
      simp only [settled_trip, settled_journey, settled_service, settled_fuel, settled_nsp]
      exact ⟨trip, journey, items, hours, watch, nsp, only⟩
    · rw [waits] at only ⊢
      exact ⟨by simp, by simp, by simp, by simp, by simp, by simp, only⟩
  case delta =>
    intro h old new s heard bound base arrived first trips counters whole delta q steps blend consumption low
    have base1 : baseBefore s .chassis h.source 1 = some old := by rw [baseBefore_one, if_pos bound, base]
    have issued : (slotDelta s .chassis h 1).2 = delta := slotDelta_issued rfl base1 arrived first
    have only := reportArrival_only .chassis h s
    refine ⟨_, exec_reportArrival_heard heard, ?_⟩
    rw [offerReport_bound bound, issued] at only ⊢
    have before := entered_only .chassis h s
    have trip0 := before.trip (by decide)
    have straps0 := before.straps (by decide)
    let filled := pulsesFilled delta (entered .chassis h s)
    have filledTrip : filled.trip = { s.trip with
        pulseResidue := (s.trip.pulseResidue + delta) % q,
        pulseTotal := s.trip.pulseTotal + BitVec.ofNat 32 delta } := by
      simp only [filled, pulsesFilled, trip0, straps0]
      rfl
    have pulses : issue pulseDelta delta (entered .chassis h s) = distanceSteps steps filled := by
      rw [issue_pulseDelta delta (by rw [trip0, straps0]; exact low), pulseDelta_eq, trip0, straps0]
    obtain ⟨trip, journey, items, _, watch, _⟩ := consumers_chassis_kept h delta (slotDelta s .chassis h 2).2
      (raisesCall (callBefore s h.source) h) (entered .chassis h s)
    rw [pulses] at trip journey items watch
    simp only [settled_trip, settled_journey, settled_fuel]
    rw [trip, journey, watch]
    have sameItem : ∀ i, itemOf (settled (consumers .chassis h delta (slotDelta s .chassis h 2).2
        (raisesCall (callBefore s h.source) h) (entered .chassis h s))) i = itemOf (distanceSteps steps filled) i :=
      itemOf_congr (by rw [settled_service, items])
    have service0 : filled.service = s.service := before.service (by decide)
    have fuel0 : filled.fuel = s.fuel := before.fuel (by decide)
    have journey0 : filled.journey = s.journey := before.journey (by decide)
    have sameItem0 : ∀ i, itemOf filled i = itemOf s i := itemOf_congr (congrArg Service.items service0)
    have eight := items_length_of_banksWhole whole
    simp only [tripsWithin, tripWithin, Bool.and_eq_true, decide_eq_true_eq] at trips
    obtain ⟨⟨⟨⟨⟨⟨⟨⟨distA, _⟩, _⟩, ⟨distB, _⟩, _⟩, odo⟩, inside⟩, _⟩, _⟩, _⟩ := trips
    have few : steps ≤ 17 := by
      have large : 250 ≤ q := pulsesPerStep_ge s.straps.pulseSel
      have small : delta ≤ 4096 := by
        dsimp only [delta]
        split <;> omega
      have bound : s.trip.pulseResidue + delta < 18 * q := by omega
      have : steps < 18 := Nat.div_lt_of_lt_mul (by rw [Nat.mul_comm]; exact bound)
      omega
    obtain ⟨residue, total, fuelA, secondsA⟩ := distanceSteps_unchanged steps filled
    obtain ⟨tripA, tripB⟩ := distanceSteps_trips steps (s := filled) (by rw [filledTrip]; exact distA) (by rw [filledTrip]; exact distB)
    obtain ⟨segment, opened, count, once, twice⟩ := distanceSteps_segment (s := filled) (n := steps)
      (by rw [filledTrip]; exact inside) (by rw [filledTrip]; dsimp only; omega)
    have odometer := distanceSteps_odometer steps (s := filled) (by rw [filledTrip]; exact odo)
    have km := distanceSteps_km steps (s := filled) (by rw [service0]; exact eight)
      (fun j hj => by rw [sameItem0]; exact kmAbove_of_countersWithin eight counters j hj)
      (by rw [filledTrip]; exact odo)
    have basis : ∀ c seg, blendBasis c seg = blend c seg := blendBasis_eq
    have journeys := distanceSteps_journey steps filled
    have watched := distanceSteps_watch steps (s := filled) (by
      rw [fuel0]
      exact senderWatch_of_countersWithin counters)
    rw [journey0] at journeys
    rw [fuel0] at watched
    simp only [basis] at once twice
    rw [filledTrip] at residue total fuelA secondsA tripA tripB segment opened count once twice odometer km
    refine ⟨residue, total, tripA, tripB, odometer, watched, journeys, fun i hi => ?_, segment, opened, count, once, twice,
      fuelA, secondsA, only⟩
    rw [sameItem, ← sameItem0 i]
    exact km i hi
end

section
/-! PROOFS. Posts: what a post that finds room leaves in the chime set and in the message queue, whatever the arbiter
or the selection does then (08 R129, R133, 09 R142, R143), and the statement about rear calls (O36). -/

namespace Sys2Proof.Machine

/-! ### The arbiter keeps the requests -/

/-- Requests but for which of them is SOUNDING. -/
def unsounded (requests : List ChimeRequest) : List ChimeRequest :=
  requests.map (fun r => { r with sounding := false })

/-- `t` has the requests of `s`, but for which of them is SOUNDING. -/
def RequestsKept (s t : State) : Prop := unsounded t.chime.requests = unsounded s.chime.requests

theorem RequestsKept.trans {s t u : State} (h : RequestsKept s t) (k : RequestsKept t u) : RequestsKept s u :=
  Eq.trans k h

theorem RequestsKept.of_same {s t : State} (same : t.chime = s.chime) : RequestsKept s t := by
  unfold RequestsKept
  rw [same]

/-- A change of the marks of SOUNDING alone keeps the requests. -/
theorem unsounded_map {f : ChimeRequest → ChimeRequest}
    (same : ∀ r, { f r with sounding := false } = { r with sounding := false }) (requests : List ChimeRequest) :
    unsounded (requests.map f) = unsounded requests := by
  unfold unsounded
  rw [List.map_map]
  exact List.map_congr_left fun r _ => same r

theorem releaseOutput_requests (s : State) : RequestsKept s (releaseOutput s) :=
  unsounded_map (f := fun r => { r with sounding := false }) (fun _ => rfl) s.chime.requests

theorem startBest_requests (s : State) : RequestsKept s (startBest s) := by
  unfold startBest
  split
  · refine unsounded_map (fun r => ?_) s.chime.requests
    split <;> rfl
  · rfl

theorem arbiterDecide_requests (s : State) : RequestsKept s (arbiterDecide s) := by
  unfold arbiterDecide
  split
  · split
    · exact startBest_requests s
    · split
      · rfl
      · split
        · exact (releaseOutput_requests s).trans (startBest_requests _)
        · rfl
  · rfl

/-- A change of the set, then the arbiter: the requests are those that the change leaves. -/
theorem withArbiter_requests (change : State → State) (s : State) :
    RequestsKept (change s) (withArbiter change s) :=
  (arbiterDecide_requests _).trans (.of_same ((reportSource_only s _).chime (by decide)))

theorem hushChanged_requests (s : State) : RequestsKept s (hushChanged s) := withArbiter_requests id s

/-- A request of the one set has its like in the other. -/
theorem RequestsKept.mem {s t : State} (kept : RequestsKept s t) {r : ChimeRequest} (here : r ∈ t.chime.requests) :
    ∃ x ∈ s.chime.requests, { x with sounding := false } = { r with sounding := false } := by
  have listed : { r with sounding := false } ∈ unsounded s.chime.requests := by
    rw [← kept]
    exact List.mem_map_of_mem here
  exact List.mem_map.mp listed

/-! ### A chime post that finds room -/

/-- The set holds a request of these figures. -/
def Requested (src : ChimeSource) (pat : ChimePattern) (prio reps : Nat) (s : State) : Prop :=
  ∃ r ∈ s.chime.requests, r.source = src ∧ r.pattern = pat ∧ r.remaining = reps ∧ r.priority = prio

theorem Requested.kept {src : ChimeSource} {pat : ChimePattern} {prio reps : Nat} {s t : State}
    (listed : Requested src pat prio reps s) (kept : RequestsKept s t) : Requested src pat prio reps t := by
  obtain ⟨r, here, source, pattern, remaining, priority⟩ := listed
  obtain ⟨x, there, like⟩ := RequestsKept.mem (Eq.symm kept) here
  simp only [ChimeRequest.mk.injEq] at like
  obtain ⟨sameSource, samePattern, samePriority, sameRemaining, _⟩ := like
  exact ⟨x, there, sameSource.trans source, samePattern.trans pattern, sameRemaining.trans remaining,
    samePriority.trans priority⟩

theorem replaceRequest_requested {src : ChimeSource} {s : State} (pat : ChimePattern) (prio reps : Nat)
    (present : sourcePresent src s.chime.requests = true) :
    Requested src pat prio reps (replaceRequest src pat prio reps s) := by
  have waiting : ∃ r ∈ (if sourceSounds src s then releaseOutput s else s).chime.requests, r.source = src := by
    obtain ⟨r, here, source⟩ := List.any_eq_true.mp present
    have source : r.source = src := by simpa using source
    split
    · exact ⟨{ r with sounding := false }, List.mem_map_of_mem here, source⟩
    · exact ⟨r, here, source⟩
  obtain ⟨r, here, source⟩ := waiting
  refine ⟨{ r with pattern := pat, priority := prio, remaining := reps }, ?_, source, rfl, rfl, rfl⟩
  exact List.mem_map.mpr ⟨r, here, by rw [if_pos source]⟩

theorem joinRequest_requested (src : ChimeSource) (pat : ChimePattern) (prio reps : Nat) (s : State) :
    Requested src pat prio reps (joinRequest src pat prio reps s) :=
  ⟨_, List.mem_append_right _ List.mem_cons_self, rfl, rfl, rfl, rfl⟩

/-- With room, or with its source in the set, a post in RUN or WATCH is taken, and its request is in the set. -/
theorem postChime_requested {src : ChimeSource} {s : State} (pat : ChimePattern) (prio reps : Nat)
    (awake_ : awake s = true)
    (room : s.chime.requests.length < 8 ∨ sourcePresent src s.chime.requests = true) :
    Requested src pat prio reps (postChime src pat prio reps s).2 := by
  by_cases present : sourcePresent src s.chime.requests = true
  · have taken : chimePost src pat prio reps s = (.taken, withArbiter (replaceRequest src pat prio reps) s) := by
      simp [chimePost, awake_, present]
    rw [postChime, taken]
    exact (replaceRequest_requested pat prio reps present).kept (withArbiter_requests _ s)
  · have space : s.chime.requests.length < 8 := room.resolve_right present
    have taken : chimePost src pat prio reps s = (.taken, withArbiter (joinRequest src pat prio reps) s) := by
      simp [chimePost, awake_, present, space, Config.chimeCapacity]
    rw [postChime, taken]
    exact (joinRequest_requested src pat prio reps s).kept (withArbiter_requests _ s)

/-! ### The selection keeps the records -/

/-- What a record was posted with. -/
def postedAs (r : MsgRecord) : MsgOrigin × Text × Nat × Option Nat := (r.origin, r.text, r.priority, r.maxShow)

theorem becomeShowing_posted (r : MsgRecord) (s : State) :
    (becomeShowing r s).msg.queue.map postedAs = s.msg.queue.map postedAs := by
  have kept : ∀ t, (wakeDisplay (leaveSetMode (closeReview t))).msg = t.msg := fun t =>
    (wakeDisplay_only _).msg (by decide)
  unfold becomeShowing
  rw [kept, List.map_map]
  refine List.map_congr_left fun x _ => ?_
  rw [Function.comp_apply]
  split <;> rfl

theorem backToWaiting_posted (s : State) :
    (backToWaiting s).msg.queue.map postedAs = s.msg.queue.map postedAs := by
  unfold backToWaiting
  rw [List.map_map]
  refine List.map_congr_left fun x _ => ?_
  rw [Function.comp_apply]
  split <;> rfl

theorem select_posted (s : State) : (select s).msg.queue.map postedAs = s.msg.queue.map postedAs := by
  unfold select
  split
  · exact becomeShowing_posted _ s
  · split
    · exact (becomeShowing_posted _ _).trans (backToWaiting_posted s)
    · rfl
  · rfl

/-! ### A message post that finds room -/

/-- The queue holds a record posted so. -/
def Recorded (o : MsgOrigin) (x : Text) (prio : Nat) (mx : Option Nat) (s : State) : Prop :=
  ∃ r ∈ s.msg.queue, r.origin = o ∧ r.text = x ∧ r.priority = prio ∧ r.maxShow = mx

theorem recorded_iff {o : MsgOrigin} {x : Text} {prio : Nat} {mx : Option Nat} {s : State} :
    Recorded o x prio mx s ↔ (o, x, prio, mx) ∈ s.msg.queue.map postedAs := by
  simp [Recorded, postedAs]

theorem Recorded.select {o : MsgOrigin} {x : Text} {prio : Nat} {mx : Option Nat} {s : State}
    (listed : Recorded o x prio mx s) : Recorded o x prio mx (Machine.select s) := by
  rw [recorded_iff, select_posted]
  exact recorded_iff.mp listed

theorem replaceRecord_recorded {o : MsgOrigin} {s : State} (x : Text) (prio : Nat) (mx : Option Nat)
    (present : originPresent o s.msg.queue = true) : Recorded o x prio mx (replaceRecord o x prio mx s) := by
  obtain ⟨r, here, origin⟩ := List.any_eq_true.mp present
  have origin : r.origin = o := by simpa using origin
  refine ⟨{ r with text := x, priority := prio, maxShow := mx, shown := 0, since := s.now }, ?_, origin, rfl, rfl, rfl⟩
  exact List.mem_map.mpr ⟨r, here, by rw [if_pos origin]⟩

/-- With room in the queue a post is taken, and its record is there (09 R142). -/
theorem postNote_recorded {s : State} (o : MsgOrigin) (x : Text) (prio : Nat) (mx : Option Nat)
    (room : s.msg.queue.length < 8) : Recorded o x prio mx (postNote o x prio mx s) := by
  by_cases present : originPresent o s.msg.queue = true
  · have taken : msgPost o x prio mx s = (.taken, select (replaceRecord o x prio mx s)) := by
      simp [msgPost, present]
    rw [postNote, postMessage, taken]
    exact (replaceRecord_recorded x prio mx present).select
  · have taken : msgPost o x prio mx s = (.taken, select (joinRecord o x prio mx s)) := by
      simp [msgPost, present, room, Config.messageCapacity]
    have joins : Recorded o x prio mx (joinRecord o x prio mx s) :=
      ⟨_, List.mem_append_right _ List.mem_cons_self, rfl, rfl, rfl, rfl⟩
    rw [postNote, postMessage, taken]
    exact joins.select

/-! ### The REAR CONSOLE arrival -/

theorem rearCall_recorded {s : State} (room : s.msg.queue.length < 8) :
    Recorded .rearCall .passengerCall 3 (some 10) (rearCall s) := by
  have same : (postChime .rearCall .call 3 3 s).2.msg = s.msg := (postChime_only _ _ _ _ s).msg (by decide)
  exact postNote_recorded _ _ _ _ (by rw [same]; exact room)

theorem rearCall_requested {s : State} (awake_ : awake s = true)
    (room : s.chime.requests.length < 8 ∨ sourcePresent .rearCall s.chime.requests = true) :
    Requested .rearCall .call 3 3 (rearCall s) :=
  (postChime_requested .call 3 3 awake_ room).kept (.of_same ((postNote_only _ _ _ _ _).chime (by decide)))

/-- What a REAR CONSOLE arrival leaves when it raises no call: the messages, and the requests as the arbiter marks
them. -/
theorem quiet_rearConsole {h : Heard} {s t : State} {d e : Nat} (only : OnlyIn [.bus, .power] s t) :
    (settled (consumers .rearConsole h d e false t)).msg = s.msg
      ∧ ∀ r ∈ (settled (consumers .rearConsole h d e false t)).chime.requests,
          ∃ x ∈ s.chime.requests, x.source = r.source ∧ x.remaining = r.remaining := by
  have quiet : consumers .rearConsole h d e false t = hushChanged t := rfl
  rw [quiet, settled_msg, settled_chime]
  refine ⟨((hushChanged_only t).msg (by decide)).trans (only.msg (by decide)), fun r here => ?_⟩
  obtain ⟨x, there, like⟩ := (hushChanged_requests t).mem here
  rw [only.chime (by decide)] at there
  simp only [ChimeRequest.mk.injEq] at like
  exact ⟨x, there, like.1, like.2.2.2.1⟩

theorem raisesCall_iff {before : Slot} {h : Heard} : raisesCall before h = true ↔
    h.first = false ∧ ∃ old new, before = some old ∧ slotAt h.slots 1 = some new ∧ old ≠ new := by
  unfold raisesCall
  cases before <;> cases slotAt h.slots 1 <;> simp

end Sys2Proof.Machine

open Sys2Proof Sys2Proof.Machine

/-- Settles O36: an arrival that raises a call posts both, which the arbiter's decision and the selection keep; any
other tells hush alone. -/
theorem rearCallPostsItsMessage : Obligations.RearCallPostsItsMessage := by
  refine ⟨?bound, ?rebound⟩
  case bound =>
    intro h s heard bound
    have before := entered_only .rearConsole h s
    have counter : callBefore s h.source = slotAt (entryIn s .rearConsole).slots 1 := by
      simp [callBefore, sameSource, bound]
    refine ⟨_, exec_reportArrival_heard heard, ?_⟩
    have only := reportArrival_only .rearConsole h s
    rw [offerReport_bound bound, counter] at only ⊢
    refine ⟨fun old new held arrived differs first => ?_, fun quiet => ?_, only⟩
    · have call : raisesCall (slotAt (entryIn s .rearConsole).slots 1) h = true :=
        raisesCall_iff.mpr ⟨first, old, new, held, arrived, differs⟩
      rw [call]
      have told : consumers .rearConsole h (slotDelta s .rearConsole h 1).2 (slotDelta s .rearConsole h 2).2 true
          (entered .rearConsole h s) = hushChanged (rearCall (entered .rearConsole h s)) := rfl
      rw [told, settled_msg, settled_chime, (hushChanged_only _).msg (by decide)]
      refine ⟨fun room => rearCall_recorded (by rw [before.msg (by decide)]; exact room), fun awake_ room => ?_⟩
      have stillAwake : awake (entered .rearConsole h s) = true := (awake_noteHeard h s).trans awake_
      have requested := rearCall_requested stillAwake (by rw [before.chime (by decide)]; exact room)
      exact requested.kept (hushChanged_requests _)
    · have silent : raisesCall (slotAt (entryIn s .rearConsole).slots 1) h = false := by
        rw [← Bool.not_eq_true, raisesCall_iff]
        rintro ⟨first, old, new, held, arrived, differs⟩
        rw [held, arrived, first] at quiet
        simp [differs.symm] at quiet
      rw [silent]
      exact quiet_rearConsole before
  case rebound =>
    intro h s heard accepted unbound
    refine ⟨_, exec_reportArrival_heard heard, ?_⟩
    have only := reportArrival_only .rearConsole h s
    rcases offerReport_accepted_cases accepted with taken | waits
    · have counter : raisesCall (callBefore s h.source) h = false := by
        simp [callBefore, sameSource, unbound, raisesCall]
      rw [taken, acceptArrival_noteHeard, counter] at only ⊢
      obtain ⟨msg, requests⟩ := quiet_rearConsole (h := h) (d := (slotDelta s .rearConsole h 1).2)
        (e := (slotDelta s .rearConsole h 2).2) (entered_only .rearConsole h s)
      exact ⟨msg, requests, only⟩
    · rw [waits] at only ⊢
      exact ⟨by simp, fun r here => ⟨r, by simpa using here, rfl, rfl⟩, only⟩
end

section
/-! PROOFS. Transmission: what an offer to the transmit queue leaves there (10 R159), the answering of a demand bit by
bit (01 R14, R15), and the statements about demands (O38), owed frames (O47) and the station timers (O48). -/

namespace Sys2Proof.Machine

/-! ### Offers -/

/-- The queue holds an entry of this identity that sends these slots next. -/
def Carried (id : FrameId) (slots : List Slot) (p : Port) : Prop :=
  ∃ e ∈ p.queue, e.id = id ∧ carries e slots = true

theorem txPresent_false_iff {id : FrameId} {q : List TxEntry} : txPresent id q = false ↔ ∀ e ∈ q, e.id ≠ id := by
  simp [txPresent]

theorem replaceTx_id (id : FrameId) (slots : List Slot) (periodic : Bool) (e : TxEntry) :
    (replaceTx id slots periodic e).id = e.id := by
  unfold replaceTx
  split
  · split <;> rfl
  · rfl

theorem replaceTx_carries {id : FrameId} {e : TxEntry} (slots : List Slot) (periodic : Bool) (same : e.id = id) :
    carries (replaceTx id slots periodic e) slots = true := by
  unfold replaceTx
  rw [if_pos same]
  split
  · rename_i flies
    simp [carries, flies]
  · rename_i waits
    simp [carries, waits]

theorem newTx_carried (id : FrameId) (slots : List Slot) (periodic : Bool) (order : Nat) (q : List TxEntry) :
    ∃ e ∈ q ++ [newTx id slots periodic order], e.id = id ∧ carries e slots = true :=
  ⟨_, List.mem_append_right _ List.mem_cons_self, rfl, by simp [carries, newTx]⟩

/-- A frame that the queue takes is there, or waits as the replacement of the entry in flight. -/
theorem txOffer_carried {id : FrameId} {slots : List Slot} {p : Port}
    (taken : (txOffer id slots false p).1 = true) : Carried id slots (txOffer id slots false p).2 := by
  rcases txOffer_cases id slots false p with ⟨present, eq⟩ | ⟨_, _, eq⟩ | ⟨_, _, periodic, _⟩ | ⟨_, _, _, _, eq⟩ |
    ⟨_, _, _, _, eq⟩
  · obtain ⟨e, here, same⟩ := List.any_eq_true.mp present
    have same : e.id = id := by simpa using same
    rw [eq]
    exact ⟨_, List.mem_map_of_mem here, (replaceTx_id _ _ _ e).trans same, replaceTx_carries _ _ same⟩
  · rw [eq]
    exact newTx_carried _ _ _ _ _
  · cases periodic
  · rw [eq]
    exact newTx_carried _ _ _ _ _
  · rw [eq] at taken
    cases taken

theorem txOffer_length (id : FrameId) (slots : List Slot) (periodic : Bool) (p : Port) :
    (txOffer id slots periodic p).2.queue.length ≤ p.queue.length + 1 := by
  rcases txOffer_cases id slots periodic p with ⟨_, eq⟩ | ⟨_, _, eq⟩ | ⟨_, _, _, eq⟩ | ⟨_, _, _, _, eq⟩ |
    ⟨_, _, _, _, eq⟩ <;> rw [eq]
  · simp
  · simp
  · simp
  · have := List.length_filter_le (fun e => !yieldingMirror e) p.queue
    simpa using this
  · simp

theorem txOffer_intake (id : FrameId) (slots : List Slot) (periodic : Bool) (p : Port) :
    (txOffer id slots periodic p).2.intake = p.intake := by
  rcases txOffer_cases id slots periodic p with ⟨_, eq⟩ | ⟨_, _, eq⟩ | ⟨_, _, _, eq⟩ | ⟨_, _, _, _, eq⟩ |
    ⟨_, _, _, _, eq⟩ <;> rw [eq]

/-- With room every frame is taken. -/
theorem txOffer_room {p : Port} (room : p.queue.length < 8) (id : FrameId) (slots : List Slot) (periodic : Bool) :
    (txOffer id slots periodic p).1 = true := by
  rcases txOffer_cases id slots periodic p with ⟨_, eq⟩ | ⟨_, _, eq⟩ | ⟨_, full, _⟩ | ⟨_, full, _⟩ | ⟨_, full, _⟩
  · rw [eq]
  · rw [eq]
  all_goals exact absurd room (Nat.not_lt.mpr full)

/-- With room the entries of other identities stay as they were. -/
theorem txOffer_keeps {p : Port} (room : p.queue.length < 8) {id other : FrameId} (differs : other ≠ id)
    {slots : List Slot} (held : Carried other slots p) (new : List Slot) (periodic : Bool) :
    Carried other slots (txOffer id new periodic p).2 := by
  obtain ⟨e, here, same, carried⟩ := held
  rcases txOffer_cases id new periodic p with ⟨_, eq⟩ | ⟨_, _, eq⟩ | ⟨_, full, _⟩ | ⟨_, full, _⟩ | ⟨_, full, _⟩
  · rw [eq]
    have stays : replaceTx id new periodic e = e := if_neg (by rw [same]; exact differs)
    exact ⟨e, by simpa [stays] using List.mem_map_of_mem (f := replaceTx id new periodic) here, same, carried⟩
  · rw [eq]
    exact ⟨e, List.mem_append_left _ here, same, carried⟩
  all_goals exact absurd room (Nat.not_lt.mpr full)

/-- A queue full of other frames, with no mirror to drop, takes nothing. -/
theorem txOffer_full {id : FrameId} {p : Port} (full : 8 ≤ p.queue.length) (absent : ∀ e ∈ p.queue, e.id ≠ id)
    (kept : ∀ e ∈ p.queue, yieldingMirror e = false) (slots : List Slot) :
    txOffer id slots false p = (false, p) := by
  have gone := txPresent_false_iff.mpr absent
  have none_ : p.queue.any yieldingMirror = false := by simpa using kept
  simp [txOffer, gone, Nat.not_lt.mpr full, Config.transmitCapacity, none_]

/-- A frame that finds room and none of its identity joins at the end. -/
theorem txOffer_joins {id : FrameId} {p : Port} (room : p.queue.length < 8) (absent : ∀ e ∈ p.queue, e.id ≠ id)
    (slots : List Slot) (periodic : Bool) : txOffer id slots periodic p = (true, { p with
      queue := p.queue ++ [newTx id slots periodic p.nextOrder], nextOrder := p.nextOrder + 1 }) := by
  simp [txOffer, txPresent_false_iff.mpr absent, room, Config.transmitCapacity]

theorem offerOwned_eq {s : State} {what : Reoffer} {id : FrameId} {slots : List Slot} (may : mayQueue s = true)
    (frame : ownedFrame s what = some (id, slots)) : offerOwned what s
      = if (txOffer id slots false s.port).1 then { s with port := forgetOwed what (txOffer id slots false s.port).2 }
        else { s with port := rememberOwed what (s.now + 50) (txOffer id slots false s.port).2 } := by
  unfold offerOwned
  rw [if_pos may, frame]
  dsimp only
  split <;> rename_i p offered <;> simp [offered]

/-- An owner's frame that finds room is in the queue. -/
theorem offerOwned_carried {s : State} {what : Reoffer} {id : FrameId} {slots : List Slot} (may : mayQueue s = true)
    (frame : ownedFrame s what = some (id, slots)) (room : s.port.queue.length < 8) :
    Carried id slots (offerOwned what s).port := by
  have taken := txOffer_room room id slots false
  rw [offerOwned_eq may frame, if_pos taken]
  exact txOffer_carried taken

theorem offerOwned_length (what : Reoffer) (s : State) :
    (offerOwned what s).port.queue.length ≤ s.port.queue.length + 1 := by
  rcases offerOwned_cases what s with ⟨_, eq⟩ | ⟨_, _, eq⟩ | ⟨id, slots, _, _, _, eq⟩ | ⟨id, slots, _, _, _, eq⟩ <;>
    rw [eq]
  · omega
  · exact Nat.le_succ _
  · exact txOffer_length id slots false s.port
  · exact txOffer_length id slots false s.port

theorem mayQueue_congr {s t : State} (power : t.power = s.power) (straps : t.straps = s.straps) :
    mayQueue t = mayQueue s := by
  simp [mayQueue, awake, power, straps]

/-! ### Answers -/

/-- `t` is `s` but for the pending demands and the port, which no answer reads. -/
def AnswersAlike (s t : State) : Prop :=
  t = { s with bus := { s.bus with demands := t.bus.demands }, port := t.port }

theorem AnswersAlike.trans {s t u : State} (h : AnswersAlike s t) (k : AnswersAlike t u) : AnswersAlike s u := by
  unfold AnswersAlike at h k ⊢
  rw [k, h]

theorem modifyDemand_alike (n : Nat) (f : PendingDemand → PendingDemand) (s : State) :
    AnswersAlike s (modifyDemand n f s) := by
  unfold modifyDemand
  split <;> rfl

theorem answerFrame_alike {s t : State} (alike : AnswersAlike s t) (n index b : Nat) :
    answerFrame t n index b = answerFrame s n index b := by
  rw [alike]
  rfl

/-- The mask bit that an answer's identity tells. -/
def answeredBit (id : FrameId) : Nat :=
  match id.kind, id.selector with
  | .clusterMirror, _ => 0
  | .tripSummary, some trip => trip + 1
  | .serviceStatus, _ => 3
  | .chimeStatus, _ => 4
  | _, _ => 5

theorem answeredBit_answerFrame (s : State) (n index : Nat) {b : Nat} (hb : b < 6) :
    answeredBit (answerFrame s n index b).1 = b := by
  interval_cases b <;> rfl

/-- The six answers to a station have six identities. -/
theorem answerFrame_id_ne (s : State) (n index : Nat) {a b : Nat} (ha : a < 6) (hb : b < 6) (differ : a ≠ b) :
    (answerFrame s n index a).1 ≠ (answerFrame s n index b).1 := fun same => differ <| by
  rw [← answeredBit_answerFrame s n index ha, same, answeredBit_answerFrame s n index hb]

theorem answerBits_skip {n : Nat} {s : State} : ∀ {clear : List Nat} (rest : List Nat),
    (∀ a ∈ clear, (demandOf s n).mask.getLsbD a = false) → answerBits n (clear ++ rest) s = answerBits n rest s
  | [], _, _ => rfl
  | a :: clear, rest, none_ => by
    have off := none_ a List.mem_cons_self
    rw [List.cons_append, answerBits, if_neg (by simp [off]),
      answerBits_skip rest fun x hx => none_ x (List.mem_cons_of_mem _ hx)]

/-- A set bit whose frame the queue does not take stops the answering for 50 ms (01 R15). -/
theorem answerBits_stop {n b : Nat} {s : State} (rest : List Nat) (set : (demandOf s n).mask.getLsbD b = true)
    (full : 8 ≤ s.port.queue.length)
    (others : ∀ e ∈ s.port.queue,
      yieldingMirror e = false ∧ e.id ≠ (answerFrame s n (demandOf s n).index b).1) :
    answerBits n (b :: rest) s = modifyDemand n (fun d => { d with resume := b, wait := some (s.now + 50) }) s := by
  rw [answerBits, if_pos set, txOffer_full full (fun e he => (others e he).2) (fun e he => (others e he).1)]

/-- A set bit whose frame finds room is answered and cleared. -/
theorem answerBits_answer {n b : Nat} {s : State} (rest : List Nat) (set : (demandOf s n).mask.getLsbD b = true)
    (room : s.port.queue.length < 8) :
    answerBits n (b :: rest) s = answerBits n rest
      (modifyDemand n (fun d => { d with mask := d.mask &&& ~~~(1#6 <<< b) }) { s with
        port := (txOffer (answerFrame s n (demandOf s n).index b).1 (answerFrame s n (demandOf s n).index b).2 false
          s.port).2 }) := by
  have taken := txOffer_room room (answerFrame s n (demandOf s n).index b).1
    (answerFrame s n (demandOf s n).index b).2 false
  rw [answerBits, if_pos set]
  split <;> rename_i p offered
  · rw [offered]
  · rw [offered] at taken
    cases taken

theorem modifyDemand_port (n : Nat) (f : PendingDemand → PendingDemand) (s : State) :
    (modifyDemand n f s).port = s.port := (modifyDemand_only n f s).port (by decide)

/-- Answering touches neither the intake queue nor another station's demand, and keeps the journey index. -/
theorem answerBits_keeps {n : Nat} (station : isStation n = true) : ∀ (bits : List Nat) {s : State},
    s.bus.demands.length = 30 →
    (answerBits n bits s).port.intake = s.port.intake
    ∧ (∀ m, m ≠ n → demandOf (answerBits n bits s) m = demandOf s m)
    ∧ (demandOf (answerBits n bits s) n).index = (demandOf s n).index
  | [], s, whole => by
    refine ⟨by rw [answerBits, modifyDemand_port], fun m other => demandOf_modifyDemand_other other, ?_⟩
    rw [answerBits, demandOf_modifyDemand_same whole station]
  | b :: rest, s, whole => by
    rw [answerBits]
    split
    · split
      · rename_i p offered
        let answered : State := { s with port := p }
        let next := modifyDemand n (fun d => { d with mask := d.mask &&& ~~~(1#6 <<< b) }) answered
        have length : next.bus.demands.length = 30 := (lengths_modify answered n id _ id id).2.1.trans whole
        have intake : p.intake = s.port.intake := by
          have kept := txOffer_intake (answerFrame s n (demandOf s n).index b).1
            (answerFrame s n (demandOf s n).index b).2 false s.port
          rwa [offered] at kept
        obtain ⟨intake', others, index⟩ := answerBits_keeps station rest (s := next) length
        refine ⟨?_, fun m other => (others m other).trans (demandOf_modifyDemand_other other), index.trans ?_⟩
        · rw [intake', modifyDemand_port]
          exact intake
        · exact (congrArg PendingDemand.index (demandOf_modifyDemand_same (s := answered) whole station)).trans rfl
      · refine ⟨by rw [modifyDemand_port], fun m other => demandOf_modifyDemand_other other, ?_⟩
        rw [demandOf_modifyDemand_same whole station]
    · exact answerBits_keeps station rest whole

theorem getLsbD_clearBit (mask : BitVec 6) {a b : Nat} (ha : a < 6) (hb : b < 6) :
    (mask &&& ~~~(1#6 <<< b)).getLsbD a = (mask.getLsbD a && !decide (a = b)) := by
  have one : (1#6 <<< b).getLsbD a = decide (a = b) := by
    interval_cases a <;> interval_cases b <;> decide
  rw [BitVec.getLsbD_and, BitVec.getLsbD_not, one]
  simp [ha]

/-- With room for all the bits in turn, each that is set is answered by its frame and cleared (01 R15). -/
theorem answerBits_room {n : Nat} (station : isStation n = true) : ∀ (bits : List Nat) {s : State},
    s.bus.demands.length = 30 → (∀ b ∈ bits, b < 6) → bits.Nodup → s.port.queue.length + bits.length ≤ 8 →
    let t := answerBits n bits s
    let frame (b : Nat) := answerFrame s n (demandOf s n).index b
    (∀ a < 6, (demandOf t n).mask.getLsbD a = ((demandOf s n).mask.getLsbD a && !decide (a ∈ bits)))
    ∧ (demandOf t n).resume = 0 ∧ (demandOf t n).wait = none
    ∧ (∀ b ∈ bits, (demandOf s n).mask.getLsbD b = true → Carried (frame b).1 (frame b).2 t.port)
    ∧ ∀ id slots, Carried id slots s.port → (∀ b ∈ bits, id ≠ (frame b).1) → Carried id slots t.port
  | [], s, whole, _, _, _ => by
    have demand : demandOf (answerBits n [] s) n = { demandOf s n with resume := 0, wait := none } :=
      demandOf_modifyDemand_same whole station
    have port : (answerBits n [] s).port = s.port := modifyDemand_port _ _ _
    dsimp only
    rw [demand, port]
    simp
  | b :: rest, s, whole, inside, apart, room => by
    obtain ⟨absent, apart⟩ := List.nodup_cons.mp apart
    have hb := inside b List.mem_cons_self
    have insideRest : ∀ a ∈ rest, a < 6 := fun a ha => inside a (List.mem_cons_of_mem _ ha)
    rw [List.length_cons] at room
    intro t frame
    by_cases set : (demandOf s n).mask.getLsbD b = true
    · have space : s.port.queue.length < 8 := by omega
      let answered : State := { s with port := (txOffer (frame b).1 (frame b).2 false s.port).2 }
      let next := modifyDemand n (fun d => { d with mask := d.mask &&& ~~~(1#6 <<< b) }) answered
      have isNext : t = answerBits n rest next := answerBits_answer rest set space
      have port : next.port = (txOffer (frame b).1 (frame b).2 false s.port).2 := modifyDemand_port _ _ _
      have demand : demandOf next n = { demandOf s n with mask := (demandOf s n).mask &&& ~~~(1#6 <<< b) } :=
        demandOf_modifyDemand_same (s := answered) whole station
      have alike : AnswersAlike s next :=
        AnswersAlike.trans (t := answered) rfl (modifyDemand_alike n _ answered)
      have frames : ∀ a, answerFrame next n (demandOf s n).index a = frame a := answerFrame_alike alike n _
      have length := txOffer_length (frame b).1 (frame b).2 false s.port
      obtain ⟨mask, resume, wait, answers, keeps⟩ := answerBits_room station rest (s := next)
        ((lengths_modify answered n id _ id id).2.1.trans whole) insideRest apart (by rw [port]; omega)
      simp only [demand, frames] at mask answers keeps
      rw [isNext]
      refine ⟨fun a ha => ?_, resume, wait, fun a ha setA => ?_, fun id slots held others => ?_⟩
      · rw [mask a ha, getLsbD_clearBit _ ha hb]
        simp [Bool.and_assoc]
      · rcases List.mem_cons.mp ha with rfl | later
        · refine keeps _ _ ?_ fun c hc => answerFrame_id_ne s n _ hb (insideRest c hc) (by rintro rfl; exact absent hc)
          rw [port]
          exact txOffer_carried (txOffer_room space _ _ _)
        · have differ : a ≠ b := by
            rintro rfl
            exact absent later
          exact answers a later (by rw [getLsbD_clearBit _ (insideRest a later) hb]; simp [setA, differ])
      · refine keeps id slots ?_ fun c hc => others c (List.mem_cons_of_mem _ hc)
        rw [port]
        exact txOffer_keeps space (others b List.mem_cons_self) held _ _
    · have isRest : t = answerBits n rest s := if_neg set
      obtain ⟨mask, resume, wait, answers, keeps⟩ := answerBits_room station rest whole insideRest apart (by omega)
      rw [isRest]
      refine ⟨fun a ha => ?_, resume, wait, fun a ha setA => ?_, fun id slots held others => ?_⟩
      · rw [mask a ha]
        by_cases same : a = b
        · subst same
          simp [set]
        · simp [same]
      · rcases List.mem_cons.mp ha with rfl | later
        · exact absurd setA set
        · exact answers a later setA
      · exact keeps id slots held fun c hc => others c (List.mem_cons_of_mem _ hc)

/-! ### The order of answering -/

/-- The order of answering holds each of the six bits once. -/
theorem bitsFrom_spec {resume : Nat} (inside : resume < 6) :
    (bitsFrom resume).length = 6 ∧ (bitsFrom resume).Nodup ∧ (∀ b ∈ bitsFrom resume, b < 6)
      ∧ ∀ b < 6, b ∈ bitsFrom resume := by
  revert resume
  decide

/-- The place of a bit in the order of answering (01 R15, entry 12). -/
def placeFrom (resume b : Nat) : Nat := (b + 6 - resume) % 6

theorem bitsFrom_split {resume b : Nat} (inside : resume < 6) (hb : b < 6) :
    bitsFrom resume = (bitsFrom resume).take (placeFrom resume b) ++ b :: (bitsFrom resume).drop (placeFrom resume b + 1)
      ∧ ∀ a ∈ (bitsFrom resume).take (placeFrom resume b), a < 6 ∧ placeFrom resume a < placeFrom resume b := by
  revert b
  revert resume
  decide

/-- Answering in a queue with room for six frames: every bit set is answered, and the demand is done. -/
theorem answerBits_all {n : Nat} {s : State} {resume : Nat} (station : isStation n = true)
    (whole : s.bus.demands.length = 30) (inside : resume < 6) (room : s.port.queue.length ≤ 2) :
    let t := answerBits n (bitsFrom resume) s
    demandOf t n = { mask := 0, index := (demandOf s n).index, resume := 0, wait := none }
    ∧ ∀ b < 6, (demandOf s n).mask.getLsbD b = true →
        Carried (answerFrame s n (demandOf s n).index b).1 (answerFrame s n (demandOf s n).index b).2 t.port := by
  intro t
  obtain ⟨length, apart, low, every⟩ := bitsFrom_spec inside
  obtain ⟨mask, start, wait, answers, _⟩ := answerBits_room station (bitsFrom resume) whole low apart (by omega)
  have index := (answerBits_keeps station (bitsFrom resume) whole).2.2
  have cleared : (demandOf t n).mask = 0 := BitVec.eq_of_getLsbD_eq fun a ha => by
    rw [mask a ha]
    simp [every a ha]
  refine ⟨?_, fun b hb => answers b (every b hb)⟩
  rw [← index, ← cleared, ← start, ← wait]

/-- Answering in a queue full of other frames: it stops at the first bit set in the order. -/
theorem answerBits_none {n b : Nat} {s : State} {resume : Nat} (inside : resume < 6) (hb : b < 6)
    (set : (demandOf s n).mask.getLsbD b = true) (full : 8 ≤ s.port.queue.length)
    (others : ∀ e ∈ s.port.queue, yieldingMirror e = false ∧ e.id ≠ (answerFrame s n (demandOf s n).index b).1)
    (first : ∀ a < 6, placeFrom resume a < placeFrom resume b → (demandOf s n).mask.getLsbD a = false) :
    answerBits n (bitsFrom resume) s
      = modifyDemand n (fun d => { d with resume := b, wait := some (s.now + 50) }) s := by
  obtain ⟨split, before⟩ := bitsFrom_split inside hb
  rw [split, answerBits_skip _ fun a ha => first a (before a ha).1 (before a ha).2]
  exact answerBits_stop _ set full others

/-! ### What the answers carry -/

/-- The least of rising numbers by a measure, the lowest of them among equals. -/
theorem foldl_least (f : Nat → Int) : ∀ (l : List Nat) (best : Nat), (best :: l).Pairwise (· < ·) →
    let r := l.foldl (fun best i => if f i < f best then i else best) best
    r ∈ best :: l ∧ ∀ j ∈ best :: l, f r ≤ f j ∧ (j < r → f r < f j)
  | [], best, _ => by simp
  | i :: rest, best, rising => by
    obtain ⟨above, risingRest⟩ := List.pairwise_cons.mp rising
    obtain ⟨aboveI, rest'⟩ := List.pairwise_cons.mp risingRest
    have below : best < i := above i List.mem_cons_self
    intro r
    by_cases less : f i < f best
    · have isR : r = rest.foldl (fun best i => if f i < f best then i else best) i := by
        simp only [r, List.foldl_cons, if_pos less]
      obtain ⟨here, least⟩ := foldl_least f rest i risingRest
      rw [← isR] at here least
      have top := (least i List.mem_cons_self).1
      refine ⟨List.mem_cons_of_mem _ here, fun j hj => ?_⟩
      rcases List.mem_cons.mp hj with rfl | later
      · exact ⟨by omega, fun _ => by omega⟩
      · exact least j later
    · have isR : r = rest.foldl (fun best i => if f i < f best then i else best) best := by
        simp only [r, List.foldl_cons, if_neg less]
      obtain ⟨here, least⟩ := foldl_least f rest best
        (List.pairwise_cons.mpr ⟨fun j hj => above j (List.mem_cons_of_mem _ hj), rest'⟩)
      rw [← isR] at here least
      obtain ⟨top, strict⟩ := least best List.mem_cons_self
      refine ⟨?_, fun j hj => ?_⟩
      · rcases List.mem_cons.mp here with same | later
        · exact same ▸ List.mem_cons_self
        · exact List.mem_cons_of_mem _ (List.mem_cons_of_mem _ later)
      · rcases List.mem_cons.mp hj with rfl | later
        · exact ⟨top, strict⟩
        · rcases List.mem_cons.mp later with rfl | later
          · exact ⟨by omega, fun passes => by have := strict (by omega); omega⟩
          · exact least j (List.mem_cons_of_mem _ later)

/-- The item named in SERVICE STATUS has the least remaining km, and the lowest number among equals (06 R107). -/
theorem nearestItem_spec (s : State) : nearestItem s ∈ itemNumbers ∧ ∀ j ∈ itemNumbers,
    (itemOf s (nearestItem s)).km ≤ (itemOf s j).km
      ∧ (j < nearestItem s → (itemOf s (nearestItem s)).km < (itemOf s j).km) := by
  have start : nearestItem s
      = [2, 3, 4, 5, 6, 7, 8].foldl (fun best i => if (itemOf s i).km < (itemOf s best).km then i else best) 1 := by
    simp [nearestItem, itemNumbers]
  rw [start]
  exact foldl_least (fun i => (itemOf s i).km) [2, 3, 4, 5, 6, 7, 8] 1 (by decide)

theorem itemStatesWord_eq : ∀ items : List Item, itemStatesWord items
    = ((List.range items.length).map (fun j => 4 ^ j * itemCode (items.getD j .unloaded).state)).sum
  | [] => rfl
  | i :: rest => by
    have shift : ∀ l : List Nat, (l.map (fun j => 4 ^ (j + 1) * itemCode (rest.getD j .unloaded).state)).sum
        = 4 * (l.map (fun j => 4 ^ j * itemCode (rest.getD j .unloaded).state)).sum := fun l => by
      rw [← List.sum_map_mul_left]
      simp only [pow_succ]
      congr 1
      exact List.map_congr_left fun j _ => by ring
    rw [itemStatesWord, itemStatesWord_eq rest, List.length_cons, List.range_succ_eq_map, List.map_cons, List.sum_cons,
      List.map_map, ← shift]
    simp [Function.comp_def]

theorem itemStatesWord_items {s : State} (whole : s.service.items.length = 8) :
    itemStatesWord s.service.items = (itemNumbers.map (fun j => 4 ^ (j - 1) * itemCode (itemOf s j).state)).sum := by
  rw [itemStatesWord_eq, whole]
  rfl

theorem tripSummarySlots_eq (s : State) (b : Bool) : tripSummarySlots s b
    = [numSlot (if b then 1 else 0), numSlot ((selectedTrip s b).distance / 10),
       if (selectedTrip s b).distance < 10 then none
       else numSlot (min 999 (((selectedTrip s b).fuel * 10 + (selectedTrip s b).distance)
         / (2 * (selectedTrip s b).distance))),
       if (selectedTrip s b).seconds < 60 then none
       else numSlot (min 999 ((selectedTrip s b).distance * 360 / (selectedTrip s b).seconds)),
       numSlot ((selectedTrip s b).seconds / 60), numSlot (min 65535 ((selectedTrip s b).fuel / 200))] := by
  have economy : (avgConsumption (selectedTrip s b)).map wordOf = if (selectedTrip s b).distance < 10 then none
      else numSlot (min 999 (((selectedTrip s b).fuel * 10 + (selectedTrip s b).distance)
        / (2 * (selectedTrip s b).distance))) := by
    unfold avgConsumption
    split <;> rfl
  have speed : (avgSpeed (selectedTrip s b)).map wordOf = if (selectedTrip s b).seconds < 60 then none
      else numSlot (min 999 ((selectedTrip s b).distance * 360 / (selectedTrip s b).seconds)) := by
    unfold avgSpeed
    split <;> rfl
  rw [← economy, ← speed]
  rfl

end Sys2Proof.Machine

open Sys2Proof Sys2Proof.Machine

/-- Settles O38: the head is merged, and the bits are answered one after another, each frame as the present state
builds it. -/
theorem demandIsMergedAndAnswered : Obligations.DemandIsMergedAndAnswered := by
  refine ⟨?taken, ?frames⟩
  case taken =>
    intro s n mask index rest awake_ whole station head
    have demands := demands_length_of_banksWhole whole
    let merged := modifyDemand n (mergeDemand mask index) (dropHead s)
    have run : exec .demand s = .next (takeDemand n mask index (dropHead s)) := by
      have front : intakeHead s = some ⟨n, .demand mask index⟩ := by simp [intakeHead, awake_, head]
      change Host.Outcome.next _ = _
      rw [front]
    have isWait : takeDemand n mask index (dropHead s)
        = if runs (demandOf s n).wait then merged else answerBits n (bitsFrom 0) merged := rfl
    have demand : demandOf merged n = mergeDemand mask index (demandOf s n) :=
      demandOf_modifyDemand_same (s := dropHead s) demands station
    have length : merged.bus.demands.length = 30 := (lengths_modify (dropHead s) n id _ id id).2.1.trans demands
    have port : merged.port = { s.port with intake := rest } := by
      have kept : merged.port = (dropHead s).port := modifyDemand_port _ _ _
      simp [kept, dropHead, head]
    have others : ∀ m, m ≠ n → demandOf merged m = demandOf s m := fun m other =>
      demandOf_modifyDemand_other (s := dropHead s) other
    have alike : AnswersAlike s merged :=
      AnswersAlike.trans (t := dropHead s) rfl (modifyDemand_alike n _ (dropHead s))
    obtain ⟨intake, keeps, sameIndex⟩ := answerBits_keeps station (bitsFrom 0) length
    have only : OnlyIn [.bus, .port] s (takeDemand n mask index (dropHead s)) :=
      ((dropHead_only s).mono (by decide)).trans (takeDemand_only _ _ _ _)
    refine ⟨_, run, ?_⟩
    rw [isWait] at only ⊢
    by_cases waits : runs (demandOf s n).wait = true
    · rw [if_pos waits] at only ⊢
      refine ⟨by rw [port], by rw [demand]; rfl, fun _ => ⟨by rw [demand]; rfl, port⟩, fun still => ?_, fun b still => ?_,
        others, only⟩
      · rw [waits] at still
        cases still
      · rw [waits] at still
        cases still
    · rw [if_neg waits] at only ⊢
      have index' : (demandOf (answerBits n (bitsFrom 0) merged) n).index = (demandOf merged n).index := sameIndex
      refine ⟨by rw [intake, port], by rw [index', demand]; rfl, fun still => absurd still waits, fun _ room => ?_,
        fun b _ full others' hb set first => ?_, fun m other => (keeps m other).trans (others m other), only⟩
      · obtain ⟨done, answers⟩ := answerBits_all (resume := 0) station length (by decide) (by rw [port]; exact room)
        rw [index']
        simp only [answerFrame_alike alike] at answers
        refine ⟨by rw [done], fun b hb set => answers b hb ?_⟩
        rw [demand]
        exact set
      · rw [index'] at others' ⊢
        have stops := answerBits_none (n := n) (b := b) (s := merged) (resume := 0) (by decide) hb
          (by rw [demand]; exact set) (by rw [port]; exact full)
          (by rw [port, answerFrame_alike alike]; exact others')
          (fun a ha before => by
            rw [demand]
            refine first a ?_
            unfold placeFrom at before
            omega)
        rw [stops, modifyDemand_port, port, demandOf_modifyDemand_same length station, demand]
        refine ⟨rfl, ?_⟩
        have now : merged.now = s.now := (modifyDemand_only n _ (dropHead s)).now
        rw [now]
        rfl
  case frames =>
    intro s n index whole word
    refine ⟨rfl, fun b trip => ?_, ?_, ?_, ?_⟩
    · rcases trip with rfl | rfl
      · exact congrArg (Prod.mk _) (tripSummarySlots_eq s false)
      · exact congrArg (Prod.mk _) (tripSummarySlots_eq s true)
    · obtain ⟨here, least⟩ := nearestItem_spec s
      refine ⟨nearestItem s, here, least, ?_⟩
      have states : itemStatesWord s.service.items = _ := itemStatesWord_items (items_length_of_banksWhole whole)
      have codes : ∀ x : ItemState, itemCode x = (match x with
          | .counting => 0
          | .soon => 1
          | .due => 2
          | .overdue => 3) := fun x => by cases x <;> rfl
      simp only [answerFrame, serviceStatusSlots, states, codes]
      rfl
    · simp only [answerFrame, chimeStatusSlots]
      cases soundingRequest s with
      | none => rfl
      | some r => rcases r with ⟨source, pattern, _, _, _, _⟩; cases source <;> cases pattern <;> rfl
    · simp only [answerFrame, journeyRecordSlots]
      cases s.journey.ring[index]? with
      | none => rfl
      | some r => cases r <;> rfl

/-- Settles O47: an owner's offer is the queue's decision on its frame, and the answering goes on from its waiting
bit. -/
theorem owedFramesAreOfferedAgain : Obligations.OwedFramesAreOfferedAgain := by
  refine ⟨?answers, ?owed⟩
  case answers =>
    intro n s may whole station waits inside place
    have demands := demands_length_of_banksWhole whole
    have run : exec (.ownerReoffer (.answers n)) s = .next (answerBits n (bitsFrom (demandOf s n).resume) s) := by
      have on : runs (demandOf s n).wait = true := by simpa [runs, Option.isSome_iff_ne_none] using waits
      change Host.Outcome.next _ = _
      rw [if_pos may, reoffer, if_pos on]
    refine ⟨_, run, answerBits_all station demands inside, fun b hb full others set first => ?_,
      (answerBits_keeps station _ demands).2.1, answerBits_only _ _ _⟩
    rw [answerBits_none inside hb set full others first, demandOf_modifyDemand_same demands station]
    exact ⟨modifyDemand_port _ _ _, rfl⟩
  case owed =>
    intro s what id slots may owed notAnswers frame absent
    have listed : s.port.owed.any (fun o => o.1 = what) = true := by
      obtain ⟨d, here⟩ := owed
      exact List.any_eq_true.mpr ⟨_, here, by simp⟩
    have run : exec (.ownerReoffer what) s = .next (offerOwned what s) := by
      change Host.Outcome.next _ = _
      rw [if_pos may]
      cases what
      case answers n => exact absurd rfl (notAnswers n)
      all_goals exact congrArg Host.Outcome.next (if_pos listed)
    refine ⟨fun room => ?_, fun full kept => ?_⟩
    · rw [run, offerOwned_eq may frame, txOffer_joins room absent]
      rfl
    · rw [run, offerOwned_eq may frame, txOffer_full full absent kept]
      rfl
end

section
/-! PROOFS. Station timers: the lamp word of the mirror (01 TABLE 1-11), and the statement about the stale, roster,
mirror and transfer stop timers (O48). -/

namespace Sys2Proof.Machine

/-! ### The stale timer -/

theorem expireStale_running {k : ReportKind} {b : Nat} {s : State} (bound : (entryIn s k).bound = some b)
    (on : (entryIn s k).staleTimer ≠ none) : expireStale k s = offerOwned (.staleDemand b) (staleEffects k
      { s with bus := setEntry k (staleEntry s k) s.bus }) := by
  have run : runs (entryIn s k).staleTimer = true := by simpa [runs, Option.isSome_iff_ne_none] using on
  simp [expireStale, bound, run]

/-- The end of hush queues one CHIME STATUS at most. -/
theorem staleEffects_length (k : ReportKind) (s : State) :
    (staleEffects k s).port.queue.length ≤ s.port.queue.length + 1 := by
  cases k
  case rearConsole =>
    have decided : (arbiterDecide s).port = s.port := (arbiterDecide_only s).port (by decide)
    have length := offerOwned_length .chimeStatus (arbiterDecide s)
    rw [decided] at length
    change (reportSource s (arbiterDecide s)).port.queue.length ≤ _
    unfold reportSource
    split
    · rw [decided]
      omega
    · exact length
  all_goals exact Nat.le_succ _

theorem expireStale_entries {k : ReportKind} {b : Nat} {s : State} (bound : (entryIn s k).bound = some b)
    (on : (entryIn s k).staleTimer ≠ none) (k' : ReportKind) :
    entryIn (expireStale k s) k' = if k' = k then staleEntry s k else entryIn s k' := by
  have bus : (expireStale k s).bus = setEntry k (staleEntry s k) s.bus := by
    rw [expireStale_running bound on, (offerOwned_only _ _).bus (by decide), (staleEffects_only _ _).bus (by decide)]
  unfold entryIn
  rw [bus]
  split
  · subst_vars
    exact entryOf_setEntry_same _ _ _
  · exact entryOf_setEntry_other _ _ ‹_›

/-- With room for it beside a CHIME STATUS, the DEMAND of an entry gone stale is queued (01 R6). -/
theorem expireStale_carried {k : ReportKind} {b : Nat} {s : State} (bound : (entryIn s k).bound = some b)
    (on : (entryIn s k).staleTimer ≠ none) (may : mayQueue s = true) (room : s.port.queue.length ≤ 6) :
    Carried { kind := .demand, target := b, selector := none } [some 1, none] (expireStale k s).port := by
  let marked : State := { s with bus := setEntry k (staleEntry s k) s.bus }
  have effects := staleEffects_only k marked
  have still : mayQueue (staleEffects k marked) = true :=
    (mayQueue_congr (effects.power (by decide)) (effects.straps (by decide))).trans may
  have length : (staleEffects k marked).port.queue.length ≤ s.port.queue.length + 1 := staleEffects_length k marked
  rw [expireStale_running bound on]
  exact offerOwned_carried still rfl (length.trans_lt (by omega))

/-! ### The lamp word -/

/-- The lamp word from a lamp up is a number shifted to it, whose bits are the lamps that follow. -/
theorem lampWordFrom_bits (s : State) : ∀ count n : Nat, ∃ w, lampWordFrom s n count = 2 ^ n * w
    ∧ ∀ i, w.testBit i = (decide (i < count) && lampLit s (n + i))
  | 0, n => ⟨0, rfl, fun i => by simp⟩
  | count + 1, n => by
    obtain ⟨w, word, bits⟩ := lampWordFrom_bits s count (n + 1)
    refine ⟨(if lampLit s n then 1 else 0) + 2 * w, ?_, fun i => ?_⟩
    · rw [lampWordFrom, word]
      split <;> ring
    · cases i with
      | zero =>
        rw [Nat.testBit_zero]
        cases lampLit s n <;> simp
      | succ i =>
        have half : ((if lampLit s n then 1 else 0) + 2 * w) / 2 = w := by
          split <;> omega
        rw [Nat.testBit_succ, half, bits, Nat.add_right_comm n 1 i, Nat.add_assoc n i 1]
        simp

theorem lampWord_testBit (s : State) (l : Nat) : (lampWord s).testBit l = (decide (l < 12) && lampLit s l) := by
  obtain ⟨w, word, bits⟩ := lampWordFrom_bits s 12 0
  rw [lampWord, word, Nat.pow_zero, Nat.one_mul, bits, Nat.zero_add]

/-- The entries of a lamp (07 TABLE 7-2). -/
theorem lampEntries_eq {l : Nat} (low : l < 12) : lampEntries l = lampOwners.getD l [] := by
  revert l
  decide

/-- A lamp is lit while lamps are proved, and by an entry of it in ACTIVE, NOTED or CLEARING (07 R123, R124). -/
theorem lampLit_iff {s : State} {l : Nat} (on : awake s = true) (low : l < 12) : lampLit s l = true ↔
    (s.power.mode = .run ∧ s.warn.provingTimer ≠ none)
      ∨ ∃ n ∈ lampOwners.getD l [], (warnEntry s n).status = .active ∨ (warnEntry s n).status = .noted
          ∨ (warnEntry s n).status = .clearing := by
  simp [lampLit, on, lampEntries_eq low, provingLamps, holdsLamp, runs, Option.isSome_iff_ne_none, or_assoc]

/-- A bit of the mirror's lamp word is set while its lamp is lit (01 TABLE 1-11). -/
theorem lampWord_bit {s : State} (on : awake s = true) (l : Nat) (word : l < 16) :
    (wordOf (lampWord s)).getLsbD l = true ↔ l < 12 ∧ ((s.power.mode = .run ∧ s.warn.provingTimer ≠ none)
      ∨ ∃ n ∈ lampOwners.getD l [], (warnEntry s n).status = .active ∨ (warnEntry s n).status = .noted
          ∨ (warnEntry s n).status = .clearing) := by
  rw [wordOf, BitVec.getLsbD_ofNat, lampWord_testBit]
  simp only [word, decide_true, Bool.true_and, Bool.and_eq_true, decide_eq_true_eq]
  exact and_congr_right fun low => lampLit_iff on low

/-! ### The mirror -/

theorem mirrorPeriod_running {s : State} (on : s.bus.mirrorTimer ≠ none) : exec .mirrorTimerExpiry s
    = .next (if mirrorDue s then offerPeriodicMirror { s with bus := { s.bus with mirrorTimer := some (s.now + 500) } }
      else { s with bus := { s.bus with mirrorTimer := some (s.now + 500) } }) := by
  have run : runs s.bus.mirrorTimer = true := by simpa [runs, Option.isSome_iff_ne_none] using on
  exact congrArg Host.Outcome.next (if_pos run)

theorem stopPeriod_running {s : State} (on : s.fuel.stopTimer ≠ none) : exec .transferStopTimerExpiry s
    = .next (if raised (warnEntry s 7) then
        offerOwned .transferStop { s with fuel := { s.fuel with stopTimer := some (s.now + 5000) } }
      else { s with fuel := { s.fuel with stopTimer := some (s.now + 5000) } }) := by
  have run : runs s.fuel.stopTimer = true := by simpa [runs, Option.isSome_iff_ne_none] using on
  exact congrArg Host.Outcome.next (if_pos run)

/-- A mirror of the schedule that finds the queue full is dropped (10 R159). -/
theorem offerPeriodicMirror_full {s : State} (full : 8 ≤ s.port.queue.length)
    (absent : ∀ e ∈ s.port.queue, e.id ≠ broadcastId .clusterMirror) : (offerPeriodicMirror s).port = s.port := by
  unfold offerPeriodicMirror
  split
  · simp [txOffer, txPresent_false_iff.mpr absent, Nat.not_lt.mpr full, Config.transmitCapacity]
  · rfl

theorem offerPeriodicMirror_joins {s : State} (may : mayQueue s = true) (room : s.port.queue.length < 8)
    (absent : ∀ e ∈ s.port.queue, e.id ≠ broadcastId .clusterMirror) : (offerPeriodicMirror s).port.queue
      = s.port.queue ++ [newTx (broadcastId .clusterMirror) (mirrorSlots s) true s.port.nextOrder] := by
  rw [offerPeriodicMirror, if_pos may, txOffer_joins room absent]

end Sys2Proof.Machine

open Sys2Proof Sys2Proof.Machine

/-- Settles O48: each timer runs afresh and makes its offer, and a mirror's slots are its figures, the lamp word bit by
bit. -/
theorem stationTimersAskAndReport : Obligations.StationTimersAskAndReport := by
  refine ⟨⟨?stale, ?roster⟩, ?mirror, ?stop, ?slots⟩
  case stale =>
    intro k b s bound on
    have entries := expireStale_entries bound on
    have entry : ∀ k', entryIn (settled (expireStale k s)) k' = entryIn (expireStale k s) k' := fun k' =>
      congrArg (entryOf · k') (settled_bus _)
    have only : OnlyIn (mayChange (.staleTimerExpiry k)) s (settled (expireStale k s)) := by
      have kept : OnlyIn (settledBlocks ++ [.bus, .fuel, .chime, .port]) s (expireStale k s) :=
        (expireStale_only k s).mono (by decide)
      exact kept.settled (by decide) (by decide)
    have fuel : (settled (expireStale k s)).fuel
        = (staleEffects k { s with bus := setEntry k (staleEntry s k) s.bus }).fuel := by
      rw [settled_fuel, expireStale_running bound on, (offerOwned_only _ _).fuel (by decide)]
    refine ⟨settled (expireStale k s), rfl, ?_, fun k' other => ?_, fun may room => ?_, ?_, ?_, only⟩
    · rw [entry, entries, if_pos rfl]
      rfl
    · rw [entry, entries, if_neg other]
    · rw [settled_port]
      exact expireStale_carried bound on may room
    · rintro rfl
      rw [fuel]
      exact ⟨rfl, rfl⟩
    · rintro rfl
      rw [fuel]
      exact ⟨rfl, rfl⟩
  case roster =>
    intro n s whole station live on
    have run : runs (rosterOf s n).timer = true := by simpa [runs, Option.isSome_iff_ne_none] using on
    refine ⟨modifyRoster n expireRoster s, rfl, ?_, fun m other => rosterOf_modifyRoster_other other,
      modifyRoster_only _ _ s⟩
    rw [rosterOf_modifyRoster_same (roster_length_of_banksWhole whole) station, expireRoster]
    simp [live, run]
  case mirror =>
    intro s on
    let next : State := { s with bus := { s.bus with mirrorTimer := some (s.now + 500) } }
    have offered := offerPeriodicMirror_only next
    refine ⟨_, mirrorPeriod_running on, ?_, fun idle => ?_, fun due may room absent => ?_, fun full absent => ?_, ?_⟩
    · split
      · exact offered.bus (by decide)
      · rfl
    · rw [if_neg (by simp [idle])]
    · rw [if_pos due]
      exact offerPeriodicMirror_joins (s := next) may room absent
    · split
      · exact offerPeriodicMirror_full (s := next) full absent
      · rfl
    · have ran : OnlyIn [.bus, .port] s next := (only_bus s _).mono (by decide)
      exact .ite (ran.trans (offered.mono (by decide))) ran
  case stop =>
    intro s on
    let next : State := { s with fuel := { s.fuel with stopTimer := some (s.now + 5000) } }
    have offered := offerOwned_only .transferStop next
    refine ⟨_, stopPeriod_running on, ?_, fun low => ?_, fun b high bound may room => ?_, ?_⟩
    · split
      · exact offered.fuel (by decide)
      · rfl
    · rw [if_neg (by simp [low])]
    · rw [if_pos high]
      have frame : ownedFrame next .transferStop = some ({ kind := .transferStop, target := b, selector := none }, []) :=
        congrArg (Option.map _) bound
      exact offerOwned_carried (s := next) may frame room
    · have ran : OnlyIn [.fuel, .port] s next := (only_fuel s _).mono (by decide)
      exact .ite (ran.trans (offered.mono (by decide))) ran
  case slots =>
    intro s awake_ units
    refine ⟨wordOf (lampWord s), ?_, lampWord_bit awake_⟩
    have range : (rangeKm s).map (fun r => wordOf (inUnits s.straps.imperial r))
        = (usableFuel s).map (fun u => wordOf (inUnits s.straps.imperial (min 1999 (u * 100 / s.trip.rangeBasis)))) := by
      rw [rangeKm, Option.map_map]
      rfl
    rw [mirrorSlots, range]
    rfl
end

section
/-! PROOFS. Intake: no operation of the warnings, the chime set, the transmit queue or the keys changes the intake
queue (10 R158). -/

namespace Sys2Proof.Machine

/-! ### Folds -/

/-- A fold of steps that each keep an observation keeps it. -/
theorem foldl_keeps {α β : Type} {p : State → β} {f : State → α → State} (h : ∀ t a, p (f t a) = p t) :
    ∀ (l : List α) (s : State), p (l.foldl f s) = p s
  | [], _ => rfl
  | a :: rest, s => (foldl_keeps h rest (f s a)).trans (h s a)

/-! ### The transmit queue -/

@[simp] theorem offerOwned_intake (what : Reoffer) (s : State) :
    (offerOwned what s).port.intake = s.port.intake := by
  rcases offerOwned_cases what s with ⟨_, same⟩ | ⟨_, _, same⟩ | ⟨id, slots, _, _, _, same⟩ | ⟨id, slots, _, _, _, same⟩
  · rw [same]
  · rw [same]
    rfl
  · rw [same]
    exact txOffer_intake id slots false s.port
  · rw [same]
    exact txOffer_intake id slots false s.port

@[simp] theorem offerPeriodicMirror_intake (s : State) : (offerPeriodicMirror s).port.intake = s.port.intake := by
  unfold offerPeriodicMirror
  split
  · exact txOffer_intake _ _ _ _
  · rfl

@[simp] theorem answerBits_intake (n : Nat) : ∀ (bits : List Nat) (s : State),
    (answerBits n bits s).port.intake = s.port.intake
  | [], s => by rw [answerBits, modifyDemand_port]
  | b :: rest, s => by
    unfold answerBits
    split
    · split
      · rename_i p offered
        have kept := txOffer_intake (answerFrame s n (demandOf s n).index b).1
          (answerFrame s n (demandOf s n).index b).2 false s.port
        rw [offered] at kept
        rw [answerBits_intake n rest, modifyDemand_port]
        exact kept
      · rw [modifyDemand_port]
    · exact answerBits_intake n rest s

@[simp] theorem takeDemand_intake (n : Nat) (m : BitVec 6) (i : Option Nat) (s : State) :
    (takeDemand n m i s).port.intake = s.port.intake := by
  unfold takeDemand
  split <;> simp [modifyDemand_port]

@[simp] theorem beginAttempt_intake (s : State) : (beginAttempt s).port.intake = s.port.intake := by
  unfold beginAttempt
  repeat' split
  all_goals rfl

@[simp] theorem countFault_intake (s : State) : (countFault s).port.intake = s.port.intake := by
  unfold countFault
  split <;> rfl

/-! ### The chime set -/

@[simp] theorem reportSource_intake (s t : State) : (reportSource s t).port.intake = t.port.intake := by
  unfold reportSource
  split
  · rfl
  · exact offerOwned_intake _ t

theorem withArbiter_intake {f : State → State} (h : ∀ s, OnlyIn [.chime] s (f s)) (s : State) :
    (withArbiter f s).port.intake = s.port.intake := by
  rw [withArbiter, reportSource_intake, (arbiterDecide_only _).port (by decide), (h s).port (by decide)]

@[simp] theorem chimePost_intake (src : ChimeSource) (pat : ChimePattern) (prio reps : Nat) (s : State) :
    (chimePost src pat prio reps s).2.port.intake = s.port.intake := by
  rcases chimePost_cases src pat prio reps s with ⟨_, same⟩ | ⟨_, _, same⟩ | ⟨_, _, _, same⟩ | ⟨w, _, _, _, _, _, same⟩
    | ⟨_, _, _, same⟩ <;> rw [same]
  · exact withArbiter_intake (replaceRequest_only src pat prio reps) s
  · exact withArbiter_intake (joinRequest_only src pat prio reps) s
  · exact withArbiter_intake (fun t => (removeRequest_only w.source t).trans (joinRequest_only src pat prio reps _)) s

@[simp] theorem withdrawChime_intake (src : ChimeSource) (s : State) :
    (withdrawChime src s).port.intake = s.port.intake := by
  unfold withdrawChime
  split
  · exact withArbiter_intake (removeRequest_only src) s
  · rfl

@[simp] theorem hushChanged_intake (s : State) : (hushChanged s).port.intake = s.port.intake :=
  withArbiter_intake (fun t => .refl _ t) s

@[simp] theorem postChime_intake (src : ChimeSource) (pat : ChimePattern) (prio reps : Nat) (s : State) :
    (postChime src pat prio reps s).2.port.intake = s.port.intake := by
  have post := chimePost_intake src pat prio reps s
  unfold postChime
  split <;> rename_i posted <;> rw [posted] at post
  · exact post
  · exact post
  · rw [(chimeDropped_only _ _).port (by decide)]
    exact post

@[simp] theorem pressNoted_intake (s : State) : (pressNoted s).port.intake = s.port.intake := by
  rw [pressNoted, keyClick, postChime_intake, (wakeDisplay_only s).port (by decide)]

@[simp] theorem peerChime_intake (source : Nat) (pattern : ChimePattern) (reps : Nat) (s : State) :
    (peerChime source pattern reps s).port.intake = s.port.intake := by
  unfold peerChime
  split <;> simp

@[simp] theorem rearCall_intake (s : State) : (rearCall s).port.intake = s.port.intake := by
  rw [rearCall, (postNote_only _ _ _ _ _).port (by decide), postChime_intake]

@[simp] theorem elementOver_intake (s : State) : (elementOver s).port.intake = s.port.intake := by
  unfold elementOver
  split
  · rw [reportSource_intake, (endElement_only _ s).port (by decide)]
  · rfl

/-! ### The warnings -/

@[simp] theorem modifyWarn_intake (n : Nat) (f : WarnEntry → WarnEntry) (s : State) :
    (modifyWarn n f s).port.intake = s.port.intake := by
  rw [(modifyWarn_only n f s).port (by decide)]

@[simp] theorem removeRecord_intake (o : MsgOrigin) (s : State) : (removeRecord o s).port.intake = s.port.intake := by
  rw [(removeRecord_only o s).port (by decide)]

@[simp] theorem afterEntry7_intake (before after : Bool) (s : State) :
    (afterEntry7 before after s).port.intake = s.port.intake := by
  unfold afterEntry7
  repeat' split
  · exact offerOwned_intake _ _
  · rfl
  · rfl

@[simp] theorem changeWarn_intake (n : Nat) (f : WarnEntry → WarnEntry) (s : State) :
    (changeWarn n f s).port.intake = s.port.intake := by
  unfold changeWarn
  split <;> simp

@[simp] theorem postWarnChime_intake (n : Nat) (s : State) : (postWarnChime n s).port.intake = s.port.intake := by
  unfold postWarnChime
  split
  · rename_i pat reps _
    have post := postChime_intake (.warning n) pat (warnPriority n) reps s
    split <;> rename_i taken <;> rw [taken] at post <;> simpa using post
  · exact modifyWarn_intake _ _ s

@[simp] theorem postOutstanding_intake (n : Nat) (s : State) : (postOutstanding n s).port.intake = s.port.intake := by
  let chimed := if (warnEntry s n).chimeOut then postWarnChime n s else s
  have chime : chimed.port.intake = s.port.intake := by
    dsimp only [chimed]
    split <;> simp
  have message : OnlyIn [.warn, .msg, .disp, .service] chimed
      (if (warnEntry chimed n).msgOut then postWarnMessage n chimed else chimed) :=
    .ite (postWarnMessage_only n chimed) (.refl _ chimed)
  exact (modifyWarn_intake n _ _).trans ((congrArg Port.intake (message.port (by decide))).trans chime)

@[simp] theorem enterActive_intake (n c : Nat) (s : State) : (enterActive n c s).port.intake = s.port.intake := by
  unfold enterActive
  split <;> simp

@[simp] theorem enterIdle_intake (n : Nat) (s : State) : (enterIdle n s).port.intake = s.port.intake := by
  simp [enterIdle]

@[simp] theorem acknowledge_intake (n : Nat) (s : State) : (acknowledge n s).port.intake = s.port.intake := by
  unfold acknowledge
  dsimp only
  split <;> simp

@[simp] theorem evaluatedTrue_intake (n : Nat) (s : State) : (evaluatedTrue n s).port.intake = s.port.intake := by
  unfold evaluatedTrue returnToPrior
  dsimp only
  repeat' split
  all_goals simp

@[simp] theorem evaluatedFalse_intake (n : Nat) (s : State) : (evaluatedFalse n s).port.intake = s.port.intake := by
  unfold evaluatedFalse enterClearing
  dsimp only
  repeat' split
  all_goals simp

@[simp] theorem evaluate_intake (s : State) (n : Nat) : (evaluate s n).port.intake = s.port.intake := by
  unfold evaluate
  dsimp only
  repeat' split
  all_goals simp

theorem gateEntry_intake (s : State) (n : Nat) : (gateEntry s n).port.intake = s.port.intake := by
  unfold gateEntry
  split <;> simp

@[simp] theorem applyGates_intake (s : State) : (applyGates s).port.intake = s.port.intake := by
  unfold applyGates
  exact foldl_keeps (p := fun t => t.port.intake) gateEntry_intake warnNumbers s

/-! ### Power states -/

/-- A wake start and a warm restart empty the intake queue (10 TABLE 10-8). -/
@[simp] theorem wakeBlocks_intake (warm : Bool) (kind : Nat) (s : State) :
    (wakeBlocks warm kind s).port.intake = [] := by
  simp [wakeBlocks, emptyChimes, wakePort]

@[simp] theorem endDip_intake (s : State) : (endDip s).port.intake = s.port.intake := by
  exact (congrArg Port.intake ((dipFreesWriter_only _).port (by decide))).trans (hushChanged_intake _)

@[simp] theorem rosterRefresh_intake (s : State) : (rosterRefresh s).port.intake = s.port.intake := by
  simp [rosterRefresh]

@[simp] theorem expireStale_intake (k : ReportKind) (s : State) : (expireStale k s).port.intake = s.port.intake := by
  unfold expireStale staleEffects
  repeat' split
  all_goals simp

end Sys2Proof.Machine
end

section
/-! PROOFS. Bounds: the figures that the manual keeps in ranges, block by block, the relation of two states that
keeps each block's ranges, and what the store, the service items, the journey, the distance, the fuel, the clock and
the load do to it (02 R20, 03 R46, R58, 04 R62 to R80, 05 R84 to R94, 06 R96 to R105). -/

namespace Sys2Proof.Machine

/-! ### The ranges, block by block -/

/-- The pulse residue is below the pulses of a distance step, or 0 before the straps are sampled (04 R62). -/
def residueWithin (s : State) : Prop :=
  if strapped s then s.trip.pulseResidue < pulsesPerStep s.straps.pulseSel else s.trip.pulseResidue = 0

/-- The fuel residue and the sender watch (03 R46, R58). -/
def fuelCountsWithin (f : Fuel) : Prop := f.residue < 200 ∧ f.senderWatch ≤ 65535

/-- The journey's residue, the open journey and the ring (05 R84 to R88). -/
def journeyCountsWithin (j : JourneyUnit) : Prop :=
  j.residue < 200 ∧ (∀ o ∈ j.openJourney, journeyWithin o = true) ∧ j.ring.length ≤ Config.ringCapacity

/-- The hours residue and the remainders of the items (06 R96, R98). -/
def itemCountsWithin (x : Service) : Prop := x.hoursResidue < 360 ∧ ∀ i ∈ x.items, itemWithin i = true

/-- The clock's minutes and seconds (04 R78). -/
def clockFiguresWithin (c : Clock) : Prop := c.minutes ≤ 1439 ∧ c.seconds ≤ 59

theorem countersWithin_iff {s : State} : countersWithin s = true ↔ residueWithin s ∧ fuelCountsWithin s.fuel
    ∧ journeyCountsWithin s.journey ∧ s.trip.segCount ≤ 4294967295 ∧ itemCountsWithin s.service := by
  have residue : (if strapped s then decide (s.trip.pulseResidue < pulsesPerStep s.straps.pulseSel)
      else decide (s.trip.pulseResidue = 0)) = true ↔ residueWithin s := by
    unfold residueWithin
    split <;> exact decide_eq_true_iff
  simp only [countersWithin, Bool.and_eq_true, decide_eq_true_eq, residue, List.all_eq_true, Option.all_eq_true,
    fuelCountsWithin, journeyCountsWithin, itemCountsWithin]
  tauto

theorem clockWithin_iff {s : State} :
    clockWithin s = true ↔ clockFiguresWithin s.clock ∧ clockSetsLegal s.port = true := by
  simp only [clockWithin, Bool.and_eq_true, decide_eq_true_eq, clockFiguresWithin]

theorem tripsWithin_iff {t : TripComputer} : tripsWithin t = true ↔ tripWithin t.tripA = true
    ∧ tripWithin t.tripB = true ∧ t.odometer ≤ 9999999 ∧ t.segSteps ≤ 9 ∧ 30 ≤ t.rangeBasis ∧ t.rangeBasis ≤ 999
    ∧ limitLegal t.speedLimit = true := by
  simp only [tripsWithin, Bool.and_eq_true, decide_eq_true_eq, and_assoc]

theorem tripWithin_iff {t : Trip} :
    tripWithin t = true ↔ t.distance ≤ 99999 ∧ t.fuel ≤ 4294967295 ∧ t.seconds ≤ 359999 := by
  simp only [tripWithin, Bool.and_eq_true, decide_eq_true_eq, and_assoc]

theorem journeyWithin_iff {j : Journey} : journeyWithin j = true ↔
    j.distance ≤ 65535 ∧ j.fuel ≤ 65535 ∧ j.elapsed ≤ 65535 ∧ j.waiting ≤ 65535 := by
  simp only [journeyWithin, Bool.and_eq_true, decide_eq_true_eq, and_assoc]

theorem itemWithin_iff {i : Item} : itemWithin i = true ↔
    (-9999 ≤ i.km ∧ i.km ≤ 30000) ∧ ∀ h ∈ i.hours, -9999 ≤ h ∧ h ≤ 15000 := by
  simp only [itemWithin, Bool.and_eq_true, decide_eq_true_eq, Option.all_eq_true, Option.mem_def]

theorem gaugesWithin_iff {g : Gauges} :
    gaugesWithin g = true ↔ ∀ x, (channelOf g x).position ≤ (gaugeSpec x).sweep := by
  simp only [gaugesWithin, Bool.and_eq_true, decide_eq_true_eq]
  constructor
  · rintro ⟨⟨⟨⟨⟨h0, h1⟩, h2⟩, h3⟩, h4⟩, h5⟩ x
    cases x <;> assumption
  · exact fun h => ⟨⟨⟨⟨⟨h .g0, h .g1⟩, h .g2⟩, h .g3⟩, h .g4⟩, h .g5⟩

/-! ### The relation -/

/-- The ranges of each block that hold of `s` hold of `t`; those of the clock where the intake queue of `s` sets
minutes of the day only. -/
structure RangesKept (s t : State) : Prop where
  gauges : gaugesWithin s.gauges = true → gaugesWithin t.gauges = true
  trip : tripsWithin s.trip = true → tripsWithin t.trip = true
  residue : residueWithin s → residueWithin t
  count : s.trip.segCount ≤ 4294967295 → t.trip.segCount ≤ 4294967295
  fuel : fuelCountsWithin s.fuel → fuelCountsWithin t.fuel
  journey : journeyCountsWithin s.journey → journeyCountsWithin t.journey
  service : itemCountsWithin s.service → itemCountsWithin t.service
  clock : clockSetsLegal s.port = true → clockFiguresWithin s.clock → clockFiguresWithin t.clock
  intake : clockSetsLegal s.port = true → clockSetsLegal t.port = true

theorem RangesKept.refl (s : State) : RangesKept s s := ⟨id, id, id, id, id, id, id, fun _ => id, id⟩

theorem RangesKept.trans {s t u : State} (h : RangesKept s t) (k : RangesKept t u) : RangesKept s u :=
  ⟨k.gauges ∘ h.gauges, k.trip ∘ h.trip, k.residue ∘ h.residue, k.count ∘ h.count, k.fuel ∘ h.fuel,
    k.journey ∘ h.journey, k.service ∘ h.service, fun legal => k.clock (h.intake legal) ∘ h.clock legal,
    k.intake ∘ h.intake⟩

theorem RangesKept.ite {c : Prop} [Decidable c] {s t u : State} (h : RangesKept s t) (k : RangesKept s u) :
    RangesKept s (if c then t else u) := by
  split <;> assumption

/-- The ranges are kept, and the PWM frame in progress goes on as it began (02 R37). -/
structure FiguresKept (s t : State) : Prop where
  frame : t.gauges.frame = s.gauges.frame
  ranges : RangesKept s t

theorem FiguresKept.refl (s : State) : FiguresKept s s := ⟨rfl, .refl s⟩

theorem FiguresKept.trans {s t u : State} (h : FiguresKept s t) (k : FiguresKept t u) : FiguresKept s u :=
  ⟨k.frame.trans h.frame, h.ranges.trans k.ranges⟩

theorem FiguresKept.ite {c : Prop} [Decidable c] {s t u : State} (h : FiguresKept s t) (k : FiguresKept s u) :
    FiguresKept s (if c then t else u) := by
  split <;> assumption

theorem FiguresKept.foldl {α : Type} {f : State → α → State} (h : ∀ t a, FiguresKept t (f t a)) :
    ∀ (l : List α) (s : State), FiguresKept s (l.foldl f s)
  | [], s => .refl s
  | a :: rest, s => (h s a).trans (FiguresKept.foldl h rest (f s a))

theorem residueWithin_congr {s t : State} (mode : t.power.mode = s.power.mode) (straps : t.straps = s.straps)
    (residue : t.trip.pulseResidue = s.trip.pulseResidue) : residueWithin s → residueWithin t := by
  simp only [residueWithin, strapped, mode, straps, residue]
  exact id

/-- The pulse residue is below the pulses of a distance step, whether the straps are sampled or not. -/
theorem residueWithin.lt {s : State} (h : residueWithin s) (sel : BitVec 2)
    (same : strapped s = true → sel = s.straps.pulseSel) :
    s.trip.pulseResidue < pulsesPerStep sel := by
  unfold residueWithin at h
  split at h
  · rwa [same ‹_›]
  · have := pulsesPerStep_ge sel
    omega

/-- Once the straps are sampled, a residue within its range stays there in every power state (12 R171). -/
theorem residueWithin.strapped {s t : State} (h : residueWithin s) (on : strapped t = true)
    (straps : t.straps = s.straps) (residue : t.trip.pulseResidue = s.trip.pulseResidue) : residueWithin t := by
  unfold residueWithin
  rw [if_pos on, straps, residue]
  exact h.lt _ fun _ => rfl

theorem clockSetsLegal_congr {p q : Port} (same : q.intake = p.intake) :
    clockSetsLegal p = true → clockSetsLegal q = true := by
  simp only [clockSetsLegal, same, imp_self]

/-- The blocks none of whose figures has a range here. -/
def rangeFree : Block → Bool
  | .power | .straps | .gauges | .trip | .fuel | .journey | .service | .clock | .port => false
  | _ => true

/-- What a change of one block must keep: the ranges of that block's figures, the mode that they rest on, and the
straps. -/
def BlockKept (s t : State) : Block → Prop
  | .power => t.power.mode = s.power.mode
  | .straps => t.straps = s.straps
  | .gauges => (gaugesWithin s.gauges = true → gaugesWithin t.gauges = true) ∧ t.gauges.frame = s.gauges.frame
  | .trip => (tripsWithin s.trip = true → tripsWithin t.trip = true) ∧ t.trip.pulseResidue = s.trip.pulseResidue
      ∧ (s.trip.segCount ≤ 4294967295 → t.trip.segCount ≤ 4294967295)
  | .fuel => fuelCountsWithin s.fuel → fuelCountsWithin t.fuel
  | .journey => journeyCountsWithin s.journey → journeyCountsWithin t.journey
  | .service => itemCountsWithin s.service → itemCountsWithin t.service
  | .clock => clockFiguresWithin s.clock → clockFiguresWithin t.clock
  | .port => clockSetsLegal s.port = true → clockSetsLegal t.port = true
  | _ => True

section
variable {bs : List Block} {s t : State}

/-- An operation that keeps to some blocks keeps every range when it keeps those of the blocks named, and the others
that it touches have none. -/
theorem FiguresKept.of_blocks (only : OnlyIn bs s t) (named : List Block)
    (free : bs.all (fun b => decide (b ∈ named) || rangeFree b) = true) (kept : ∀ b ∈ named, BlockKept s t b) :
    FiguresKept s t := by
  have touched : ∀ b, rangeFree b = false → b ∈ bs → BlockKept s t b := fun b ranged inside =>
    kept b (by simpa [ranged] using List.all_eq_true.mp free b inside)
  have keep : ∀ {β : Type} (P : β → Prop) {b : Block} {x y : β}, (b ∉ bs → y = x) → (b ∈ bs → P x → P y) →
      P x → P y := by
    intro β P b x y same changed hx
    by_cases inside : b ∈ bs
    · exact changed inside hx
    · exact same inside ▸ hx
  refine ⟨keep (fun x => x.frame = s.gauges.frame) only.gauges (fun h _ => (touched .gauges rfl h).2) rfl,
    keep (fun x => gaugesWithin x = true) only.gauges fun h => (touched .gauges rfl h).1,
    keep (fun x => tripsWithin x = true) only.trip fun h => (touched .trip rfl h).1, ?_,
    keep (fun x => x.segCount ≤ 4294967295) only.trip fun h => (touched .trip rfl h).2.2,
    keep fuelCountsWithin only.fuel (touched .fuel rfl), keep journeyCountsWithin only.journey (touched .journey rfl),
    keep itemCountsWithin only.service (touched .service rfl),
    fun _ => keep clockFiguresWithin only.clock (touched .clock rfl),
    keep (fun x => clockSetsLegal x = true) only.port (touched .port rfl)⟩
  have mode : t.power.mode = s.power.mode := by
    by_cases inside : Block.power ∈ bs
    · exact touched .power rfl inside
    · rw [only.power inside]
  have straps : t.straps = s.straps := by
    by_cases inside : Block.straps ∈ bs
    · exact touched .straps rfl inside
    · exact only.straps inside
  have residue : t.trip.pulseResidue = s.trip.pulseResidue := by
    by_cases inside : Block.trip ∈ bs
    · exact (touched .trip rfl inside).2.1
    · rw [only.trip inside]
  exact residueWithin_congr mode straps residue

theorem FiguresKept.of_quiet (only : OnlyIn bs s t) (free : bs.all (fun b => decide (b ∈ []) || rangeFree b) = true) :
    FiguresKept s t := .of_blocks only [] free fun _ h => absurd h List.not_mem_nil

theorem FiguresKept.of_block (b : Block) (only : OnlyIn bs s t)
    (free : bs.all (fun x => decide (x ∈ [b]) || rangeFree x) = true) (kept : BlockKept s t b) : FiguresKept s t :=
  .of_blocks only [b] free (List.forall_mem_singleton.mpr kept)

theorem FiguresKept.of_power (only : OnlyIn bs s t)
    (free : bs.all (fun b => decide (b ∈ [.power]) || rangeFree b) = true)
    (mode : t.power.mode = s.power.mode) : FiguresKept s t := .of_block .power only free mode

theorem FiguresKept.of_gauges (only : OnlyIn bs s t)
    (free : bs.all (fun b => decide (b ∈ [.gauges]) || rangeFree b) = true)
    (kept : gaugesWithin s.gauges = true → gaugesWithin t.gauges = true)
    (frame : t.gauges.frame = s.gauges.frame) : FiguresKept s t := .of_block .gauges only free ⟨kept, frame⟩

theorem FiguresKept.of_trip (only : OnlyIn bs s t)
    (free : bs.all (fun b => decide (b ∈ [.trip]) || rangeFree b) = true)
    (kept : (tripsWithin s.trip = true → tripsWithin t.trip = true) ∧ t.trip.pulseResidue = s.trip.pulseResidue
      ∧ (s.trip.segCount ≤ 4294967295 → t.trip.segCount ≤ 4294967295)) : FiguresKept s t :=
  .of_block .trip only free kept

theorem FiguresKept.of_fuel (only : OnlyIn bs s t)
    (free : bs.all (fun b => decide (b ∈ [.fuel]) || rangeFree b) = true)
    (kept : fuelCountsWithin s.fuel → fuelCountsWithin t.fuel) : FiguresKept s t := .of_block .fuel only free kept

theorem FiguresKept.of_journey (only : OnlyIn bs s t)
    (free : bs.all (fun b => decide (b ∈ [.journey]) || rangeFree b) = true)
    (kept : journeyCountsWithin s.journey → journeyCountsWithin t.journey) : FiguresKept s t :=
  .of_block .journey only free kept

theorem FiguresKept.of_service (only : OnlyIn bs s t)
    (free : bs.all (fun b => decide (b ∈ [.service]) || rangeFree b) = true)
    (kept : itemCountsWithin s.service → itemCountsWithin t.service) : FiguresKept s t :=
  .of_block .service only free kept

theorem FiguresKept.of_clock (only : OnlyIn bs s t)
    (free : bs.all (fun b => decide (b ∈ [.clock]) || rangeFree b) = true)
    (kept : clockFiguresWithin s.clock → clockFiguresWithin t.clock) : FiguresKept s t :=
  .of_block .clock only free kept

theorem FiguresKept.of_port (only : OnlyIn bs s t)
    (free : bs.all (fun b => decide (b ∈ [.port]) || rangeFree b) = true)
    (kept : clockSetsLegal s.port = true → clockSetsLegal t.port = true) : FiguresKept s t :=
  .of_block .port only free kept

end

/-- What the warnings and the posts reach of the figures, they keep. -/
theorem FiguresKept.of_warned {s t : State} (only : OnlyIn warnBlocks s t) (kept : CountersKept s t)
    (intake : t.port.intake = s.port.intake) : FiguresKept s t := by
  have items : itemCountsWithin s.service → itemCountsWithin t.service :=
    fun h => ⟨kept.hours ▸ h.1, kept.items ▸ h.2⟩
  exact .of_blocks only [.service, .fuel, .port] rfl (List.forall_mem_cons.mpr ⟨items, List.forall_mem_cons.mpr
    ⟨fun h => kept.fuel ▸ h, List.forall_mem_singleton.mpr (clockSetsLegal_congr intake)⟩⟩)

end Sys2Proof.Machine
end

section
/-! PROOFS. Bounds, unit by unit: the store and the service items (11 R168, 06 R96 to R105), the journey (05 R84 to
R94), distance and fuel (04 R62 to R76, 03 R46, R58), the clock (04 R78 to R80) and the load keep the ranges. -/

namespace Sys2Proof.Machine

/-! ### The store -/

theorem mem_modifyAt {α : Type} {f : α → α} {y : α} : ∀ {i : Nat} {l : List α}, y ∈ modifyAt i f l →
    y ∈ l ∨ ∃ x ∈ l, y = f x
  | _, [], h => by simp [modifyAt] at h
  | 0, x :: rest, h => by
    rcases List.mem_cons.mp h with rfl | h
    · exact .inr ⟨x, List.mem_cons_self, rfl⟩
    · exact .inl (List.mem_cons_of_mem _ h)
  | i + 1, x :: rest, h => by
    rcases List.mem_cons.mp h with rfl | h
    · exact .inl List.mem_cons_self
    · rcases mem_modifyAt h with old | ⟨z, hz, new⟩
      · exact .inl (List.mem_cons_of_mem _ old)
      · exact .inr ⟨z, List.mem_cons_of_mem _ hz, new⟩

theorem modifyItem_bounds {f : Item → Item} (within : ∀ x, itemWithin x = true → itemWithin (f x) = true) (i : Nat)
    (s : State) : FiguresKept s (modifyItem i f s) := by
  refine .of_service (modifyItem_only i f s) rfl (fun h => ?_)
  obtain ⟨hours, items⟩ := h
  unfold modifyItem
  split
  · refine ⟨hours, fun y hy => ?_⟩
    rcases mem_modifyAt hy with old | ⟨x, hx, rfl⟩
    · exact items y old
    · exact within x (items x hx)
  · exact ⟨hours, items⟩

theorem markTaken_bounds (r : StoreRecord) (s : State) : FiguresKept s (markTaken r s) := by
  cases r
  case odometer =>
    exact ⟨rfl, id, id, id, id, id, id, id, fun _ => id, id⟩
  case openSlot => exact .of_journey (only_journey s _) rfl id
  case header => exact .of_journey (only_journey s _) rfl id
  case position => exact .of_journey (only_journey s _) rfl id
  case item i => exact modifyItem_bounds (by exact fun _ h => h) i s

theorem takeRecord_bounds (s : State) (r : StoreRecord) : FiguresKept s (takeRecord s r) := by
  rcases takeRecord_cases s r with ⟨_, _, _, _, taken⟩ | left
  · rw [taken]
    exact (FiguresKept.of_quiet (only_nsp s _) rfl).trans (markTaken_bounds r _)
  · rw [left]
    exact .refl s

theorem kickWriter_bounds (s : State) : FiguresKept s (kickWriter s) := .of_quiet (kickWriter_only s) rfl

theorem offerRecord_bounds (r : StoreRecord) (s : State) : FiguresKept s (offerRecord r s) :=
  (takeRecord_bounds s r).trans (kickWriter_bounds _)

theorem reofferAll_bounds (s : State) : FiguresKept s (reofferAll s) := .foldl takeRecord_bounds _ s

theorem markOdometer_bounds (s : State) : FiguresKept s (markOdometer s) := by
  refine FiguresKept.trans ?_ (offerRecord_bounds .odometer _)
  exact .of_trip (only_trip s _) rfl ⟨id, rfl, id⟩

theorem markOpenSlot_bounds (s : State) : FiguresKept s (markOpenSlot s) := by
  refine FiguresKept.trans ?_ (offerRecord_bounds .openSlot _)
  exact .of_journey (only_journey s _) rfl id

theorem completeWrite_bounds (s : State) : FiguresKept s (completeWrite s) := by
  have store : ∀ e rest, FiguresKept s (storeHead e rest s) := fun e rest => by
    refine FiguresKept.trans ?_ (kickWriter_bounds _)
    refine FiguresKept.trans ?_ (.ite (reofferAll_bounds _) (.refl _))
    exact ⟨rfl, id, id, id, id, id, id, id, fun _ => id, id⟩
  unfold completeWrite
  split
  · exact .ite (.refl s) (store _ _)
  · exact .refl s

/-! ### Service items -/

theorem itemOf_within {s : State} (within : itemCountsWithin s.service) (i : Nat) : itemWithin (itemOf s i) = true := by
  unfold itemOf
  split
  · by_cases reach : i - 1 < s.service.items.length
    · rw [List.getD_eq_getElem _ _ reach]
      exact within.2 _ (List.getElem_mem reach)
    · rw [List.getD_eq_default _ _ (Nat.le_of_not_lt reach)]
      rfl
  · rfl

theorem markItem_bounds (i : Nat) (s : State) : FiguresKept s (markItem i s) := by
  unfold markItem
  split
  · exact modifyItem_bounds (by exact fun _ h => h) i s
  · refine FiguresKept.trans ?_ (offerRecord_bounds (.item i) _)
    exact modifyItem_bounds (by exact fun _ h => h) i s

theorem itemMoved_bounds {km : Int} {hours : Option Int} (kmIn : -9999 ≤ km ∧ km ≤ 30000)
    (hoursIn : ∀ h ∈ hours, -9999 ≤ h ∧ h ≤ 15000) (i : Nat) (m : Bool) (s : State) :
    FiguresKept s (itemMoved i km hours m s) :=
  (modifyItem_bounds (fun _ _ => itemWithin_iff.mpr ⟨kmIn, hoursIn⟩) i s).trans (.ite (markItem_bounds i _) (.refl _))

theorem countKm_bounds (s : State) (i : Nat) : FiguresKept s (countKm s i) := by
  unfold countKm
  split
  · rename_i above
    refine .of_service (itemMoved_only_items i _ _ _ s) rfl (fun h => ?_)
    obtain ⟨km, hours⟩ := itemWithin_iff.mp (itemOf_within h i)
    exact (itemMoved_bounds ⟨by omega, by omega⟩ hours i _ s).ranges.service h
  · exact .refl s

theorem wholeKmMark_bounds (s : State) : FiguresKept s (wholeKmMark s) := .foldl countKm_bounds _ s

theorem countHours_bounds (s : State) (i : Nat) : FiguresKept s (countHours s i) := by
  refine .of_service (countHours_only_items s i) rfl (fun h => ?_)
  obtain ⟨km, hours⟩ := itemWithin_iff.mp (itemOf_within h i)
  unfold countHours
  split
  · rename_i old _ has _
    split
    · rename_i above
      have range := hours old has
      refine (itemMoved_bounds km (fun h hh => ?_) i _ s).ranges.service h
      cases hh
      exact ⟨by omega, by omega⟩
    · exact h
  · exact h

theorem countTenths_bounds : ∀ (n : Nat) (s : State), FiguresKept s (countTenths n s)
  | 0, s => .refl s
  | n + 1, s => (FiguresKept.foldl countHours_bounds itemNumbers s).trans (countTenths_bounds n _)

theorem runSeconds_bounds (d : Nat) (s : State) : FiguresKept s (runSeconds d s) := by
  refine FiguresKept.trans ?_ (countTenths_bounds _ _)
  exact .of_service (only_service s _) rfl (fun h => ⟨Nat.mod_lt _ (Nat.succ_pos _), h.2⟩)

/-- What keeps to the posts of messages and keeps the counters keeps the ranges. -/
theorem FiguresKept.of_posted {s t : State} (only : OnlyIn [.warn, .msg, .disp, .service] s t)
    (kept : CountersKept s t) : FiguresKept s t :=
  .of_warned (only.mono (by decide)) kept (by rw [only.port (by decide)])

theorem endReminders_kept (s : State) : CountersKept s (endReminders s) := by
  refine CountersKept.trans ?_ (CountersKept.of_only (removeRecord_only .reminder _) (by decide) (by decide))
  exact ⟨rfl, rfl, rfl⟩

theorem cursorAfterReset_bounds (i : Nat) (s : State) : FiguresKept s (cursorAfterReset i s) := by
  refine .of_posted (cursorAfterReset_only i s) ?_
  unfold cursorAfterReset
  split
  · split
    · exact setCursor_kept _ s
    · exact endReminders_kept s
  · exact .refl s

theorem postNote_bounds (o : MsgOrigin) (x : Text) (prio : Nat) (mx : Option Nat) (s : State) :
    FiguresKept s (postNote o x prio mx s) :=
  .of_posted (postNote_only o x prio mx s) (postMessage_kept o x prio mx s)

theorem kmInterval_le (variant : BitVec 2) (i : Nat) : kmInterval variant i ≤ 30000 := by
  unfold kmInterval
  repeat' split
  all_goals omega

theorem hoursInterval_le {variant : BitVec 2} {i h : Nat} (interval : hoursInterval variant i = some h) :
    h ≤ 15000 := by
  unfold hoursInterval at interval
  repeat' split at interval
  all_goals cases interval <;> omega

theorem resetItem_bounds (s : State) (i : Nat) : FiguresKept s (resetItem s i) := by
  refine FiguresKept.trans ?_ (cursorAfterReset_bounds i _)
  refine FiguresKept.trans (modifyItem_bounds (fun _ _ => itemWithin_iff.mpr ⟨?_, fun h hh => ?_⟩) i s)
    (markItem_bounds i _)
  · have := kmInterval_le s.straps.variant i
    dsimp only
    omega
  · cases interval : hoursInterval s.straps.variant i with
    | none => simp [interval] at hh
    | some n =>
      have hours : (n : Int) = h := by simpa [interval] using hh
      have := hoursInterval_le interval
      omega

theorem serviceResetOp_bounds (i : Nat) (s : State) : FiguresKept s (serviceResetOp i s) :=
  .ite ((FiguresKept.foldl resetItem_bounds itemNumbers s).trans (postNote_bounds _ _ _ _ _))
    ((resetItem_bounds s i).trans (postNote_bounds _ _ _ _ _))

/-! ### The journey -/

theorem journeyMinute_bounds (s : State) : FiguresKept s (journeyMinute s) := by
  unfold journeyMinute
  split
  · exact .refl s
  · rename_i j isOpen
    have counted : FiguresKept s { s with journey := { s.journey with openJourney := some {
        j with elapsed := addSat 65535 j.elapsed 1,
                 waiting := if minuteWaits s then addSat 65535 j.waiting 1 else j.waiting } } } := by
      refine .of_journey (only_journey s _) rfl (fun ⟨residue, within, ring⟩ => ⟨residue, fun o ho => ?_, ring⟩)
      cases ho
      obtain ⟨distance, fuel, _, waiting⟩ := journeyWithin_iff.mp (within j isOpen)
      refine journeyWithin_iff.mpr ⟨distance, fuel, addSat_le _ _ _, ?_⟩
      dsimp only
      split
      · exact addSat_le _ _ _
      · exact waiting
    exact .ite (counted.trans (markOpenSlot_bounds _)) counted

theorem journeyStep_bounds (s : State) : FiguresKept s (journeyStep s) := by
  refine .of_journey (only_journey s _) rfl (fun ⟨residue, within, ring⟩ => ⟨residue, fun o ho => ?_, ring⟩)
  obtain ⟨j, isOpen, rfl⟩ := Option.map_eq_some_iff.mp ho
  obtain ⟨_, fuel, elapsed, waiting⟩ := journeyWithin_iff.mp (within j isOpen)
  exact journeyWithin_iff.mpr ⟨addSat_le _ _ _, fuel, elapsed, waiting⟩

theorem journeyFuel_bounds (d : Nat) (s : State) : FiguresKept s (journeyFuel d s) := by
  unfold journeyFuel
  split
  · exact .refl s
  · rename_i j isOpen
    refine .of_journey (only_journey s _) rfl
        (fun ⟨_, within, ring⟩ => ⟨Nat.mod_lt _ (Nat.succ_pos _), fun o ho => ?_, ring⟩)
    cases ho
    obtain ⟨distance, _, elapsed, waiting⟩ := journeyWithin_iff.mp (within j isOpen)
    exact journeyWithin_iff.mpr ⟨distance, addSat_le _ _ _, elapsed, waiting⟩

theorem openJourneyOp_bounds (s : State) : FiguresKept s (openJourneyOp s) := by
  refine FiguresKept.trans (FiguresKept.trans ?_ (markOpenSlot_bounds _)) (postNote_bounds _ _ _ _ _)
  refine .of_journey (only_journey s _) rfl (fun ⟨_, _, ring⟩ => ⟨Nat.succ_pos _, fun o ho => ?_, ring⟩)
  cases ho
  rfl

theorem closeJourneyOp_bounds (j : Journey) (s : State) : FiguresKept s (closeJourneyOp j s) := by
  refine FiguresKept.trans ?_ (postNote_bounds _ _ _ _ _)
  refine FiguresKept.trans ?_ (offerRecord_bounds .openSlot _)
  refine FiguresKept.trans (FiguresKept.trans ?_ (offerRecord_bounds (.position (ringPositionOf j.number)) _))
    (offerRecord_bounds .header _)
  exact .of_journey (only_journey s _) rfl
      (fun _ => ⟨Nat.succ_pos _, fun _ ho => (by cases ho), enterRing_length_le _ _⟩)

theorem clearJourneys_bounds (s : State) : FiguresKept s (clearJourneys s) := by
  refine FiguresKept.trans (FiguresKept.trans ?_ (.foldl (fun t p => offerRecord_bounds (.position p) t) _ _))
    (postNote_bounds _ _ _ _ _)
  exact .of_journey (only_journey s _) rfl (fun ⟨residue, within, _⟩ => ⟨residue, within, Nat.zero_le _⟩)

/-! ### Distance -/

theorem odometerStep_bounds (s : State) : FiguresKept s (odometerStep s) := by
  unfold odometerStep
  split
  · rename_i below
    refine FiguresKept.trans (t := { s with trip := { s.trip with odometer := s.trip.odometer + 1 } }) ?_ ?_
    · refine .of_trip (only_trip s _) rfl ⟨fun h => ?_, rfl, id⟩
      obtain ⟨a, b, _, rest⟩ := tripsWithin_iff.mp h
      exact tripsWithin_iff.mpr ⟨a, b, below, rest⟩
    · exact .ite (FiguresKept.trans (.ite (wholeKmMark_bounds _) (.refl _)) (markOdometer_bounds _))
        (.ite (wholeKmMark_bounds _) (.refl _))
  · exact .refl s

theorem tripStep_within {t : Trip} (within : tripWithin t = true) : tripWithin (tripStep t) = true := by
  obtain ⟨distance, fuel, seconds⟩ := tripWithin_iff.mp within
  refine tripWithin_iff.mpr ⟨?_, fuel, seconds⟩
  rw [tripStep_distance distance]
  omega

theorem segmentConsumption_range (n : Nat) : 30 ≤ segmentConsumption n ∧ segmentConsumption n ≤ 999 :=
  clampNat_range _ (by decide)

/-- The blend of C stays between C and the segment. -/
theorem blendBasis_range {c seg : Nat} (basis : 30 ≤ c ∧ c ≤ 999) (segment : 30 ≤ seg ∧ seg ≤ 999) :
    30 ≤ blendBasis c seg ∧ blendBasis c seg ≤ 999 := by
  rw [blendBasis_eq]
  split
  · omega
  · split <;> omega

theorem tripsStep_bounds (s : State) : FiguresKept s (tripsStep s) := by
  refine .of_trip (only_trip s _) rfl ⟨fun h => ?_, ?_, fun h => ?_⟩
  · obtain ⟨a, b, odometer, steps, low, high, limit⟩ := tripsWithin_iff.mp h
    have basis := blendBasis_range ⟨low, high⟩ (segmentConsumption_range s.trip.segCount)
    unfold tripsStep segmentStep
    split
    · exact tripsWithin_iff.mpr ⟨tripStep_within a, tripStep_within b, odometer, Nat.zero_le _, basis.1, basis.2, limit⟩
    · rename_i inside
      exact tripsWithin_iff.mpr ⟨tripStep_within a, tripStep_within b, odometer, by dsimp only at inside ⊢; omega, low,
        high, limit⟩
  · rw [tripsStep, segmentStep_others]
  · unfold tripsStep segmentStep
    split
    · exact Nat.zero_le _
    · exact h

theorem watchStep_bounds (s : State) : FiguresKept s (watchStep s) :=
  .of_fuel (only_fuel s _) rfl (fun h => ⟨h.1, addSat_le _ _ _⟩)

theorem distanceStep_bounds (s : State) : FiguresKept s (distanceStep s) :=
  (((odometerStep_bounds s).trans (tripsStep_bounds _)).trans (journeyStep_bounds _)).trans (watchStep_bounds _)

theorem distanceSteps_bounds : ∀ (n : Nat) (s : State), FiguresKept s (distanceSteps n s)
  | 0, s => .refl s
  | n + 1, s => (distanceStep_bounds s).trans (distanceSteps_bounds n _)

/-- Pulses are counted once the straps are sampled. -/
theorem pulseDelta_bounds {s : State} (on : strapped s = true) (d : Nat) : FiguresKept s (pulseDelta d s) := by
  refine FiguresKept.trans (t := pulsesFilled d s) ⟨rfl, id, id, fun _ => ?_, id, id, id, id, fun _ => id, id⟩
      (distanceSteps_bounds _ _)
  have := pulsesPerStep_ge s.straps.pulseSel
  exact (if_pos on).mpr (Nat.mod_lt _ (by omega))

/-! ### Fuel -/

theorem tripFuel_within {t : Trip} (within : tripWithin t = true) (d : Nat) : tripWithin (tripFuel d t) = true := by
  obtain ⟨distance, _, seconds⟩ := tripWithin_iff.mp within
  exact tripWithin_iff.mpr ⟨distance, addSat_le _ _ _, seconds⟩

theorem deadReckon_bounds (d : Nat) (s : State) : FiguresKept s (deadReckon d s) := by
  unfold deadReckon
  split
  · exact .refl s
  · exact .of_fuel (only_fuel s _) rfl (fun h => ⟨Nat.mod_lt _ (Nat.succ_pos _), h.2⟩)

theorem fuelDelta_bounds (d : Nat) (s : State) : FiguresKept s (fuelDelta d s) := by
  refine FiguresKept.trans (FiguresKept.trans ?_ (journeyFuel_bounds d _)) (deadReckon_bounds d _)
  refine .of_trip (only_trip s _) rfl ⟨fun h => ?_, rfl, fun _ => addSat_le _ _ _⟩
  obtain ⟨a, b, rest⟩ := tripsWithin_iff.mp h
  exact tripsWithin_iff.mpr ⟨tripFuel_within a d, tripFuel_within b d, rest⟩

theorem issue_bounds {f : Nat → State → State} {s : State} (d : Nat) (h : FiguresKept s (f d s)) :
    FiguresKept s (issue f d s) := .ite (.refl s) h

theorem sampleMain_bounds (ready : Bool) (slot : Slot) (s : State) : FiguresKept s (sampleMain ready slot s) := by
  unfold sampleMain
  split
  · exact .of_fuel (only_fuel s _) rfl (fun h => ⟨h.1, Nat.zero_le _⟩)
  · exact .refl s

theorem sampleAux_bounds (ready : Bool) (slot : Slot) (s : State) : FiguresKept s (sampleAux ready slot s) := by
  refine .of_fuel (sampleAux_only ready slot s) rfl ?_
  unfold sampleAux
  repeat' split
  all_goals exact id

theorem followPump_bounds (s : State) : FiguresKept s (followPump s) := by
  refine .of_fuel (followPump_only s) rfl ?_
  unfold followPump
  repeat' split
  all_goals exact id

theorem followStandstill_bounds (v : Slot) (s : State) : FiguresKept s (followStandstill v s) := by
  refine .of_fuel (followStandstill_only v s) rfl ?_
  unfold followStandstill clearStandstill
  repeat' split
  all_goals exact id

theorem correctionStep_bounds (s : State) : FiguresKept s (correctionStep s) := by
  have filter : FiguresKept s (filterMainStep s) := by
    refine .of_fuel (filterMainStep_only s) rfl ?_
    unfold filterMainStep
    repeat' split
    all_goals exact id
  have main : FiguresKept s (correctMain s) := by
    have corrected : FiguresKept s
        (if snaps s then { s with fuel := { s.fuel with mainEst := some (ringAverage s.fuel.mainRing) } }
         else filterMainStep s) := .ite (.of_fuel (only_fuel s _) rfl id) filter
    exact .ite (corrected.trans (.of_fuel (only_fuel _ _) rfl id)) corrected
  exact main.trans (.ite (.of_fuel (only_fuel _ _) rfl id) (.refl _))

/-! ### The clock and the periods -/

theorem setClock_bounds {m : Nat} (legal : m ≤ 1439) (s : State) : FiguresKept s (setClock m s) :=
  .of_clock (only_clock s _) rfl (fun h => ⟨legal, h.2⟩)

theorem clockPeriod_bounds (s : State) : FiguresKept s (clockPeriod s) := by
  have tick : ∀ t, FiguresKept t (minuteTick t) := fun t => by
    refine FiguresKept.trans (.ite (.refl t) ?_) (journeyMinute_bounds _)
    exact .of_clock (only_clock t _) rfl (fun h => ⟨Nat.le_of_lt_succ (Nat.mod_lt _ (Nat.succ_pos _)), h.2⟩)
  unfold clockPeriod clockSecondOp
  dsimp only
  split
  · refine FiguresKept.trans ?_ (tick _)
    exact .of_clock (only_clock s _) rfl (fun h => ⟨h.1, Nat.zero_le _⟩)
  · exact .of_clock (only_clock s _) rfl (fun h => ⟨h.1, by dsimp only; omega⟩)

theorem secondPeriod_bounds (s : State) : FiguresKept s (secondPeriod s) := by
  have second : ∀ t, tripWithin t = true → tripWithin (tripSecond t) = true := fun t within => by
    obtain ⟨distance, fuel, _⟩ := tripWithin_iff.mp within
    exact tripWithin_iff.mpr ⟨distance, fuel, addSat_le _ _ _⟩
  refine .of_trip (only_trip s _) rfl ⟨fun h => ?_, rfl, id⟩
  obtain ⟨a, b, rest⟩ := tripsWithin_iff.mp h
  exact tripsWithin_iff.mpr ⟨second _ a, second _ b, rest⟩

theorem nextLimit_legal {n : Nat} (legal : limitLegal n = true) : limitLegal (nextLimit n) = true := by
  simp only [limitLegal, Bool.or_eq_true, Bool.and_eq_true, decide_eq_true_eq] at legal ⊢
  unfold nextLimit
  split
  · omega
  · split <;> omega

/-- A step of the value being set keeps the minutes of the day and the legal limits (04 R79, R80). -/
theorem stepValue_bounds (s : State) : FiguresKept s (stepValue s) := by
  have blink : ∀ t, FiguresKept t (restartBlink t) := fun t => .of_quiet (only_disp t _) rfl
  unfold stepValue
  split
  · exact .refl s
  · exact (setClock_bounds (by omega) s).trans (blink _)
  · refine FiguresKept.trans ?_ (blink _)
    refine .of_clock (only_clock s _) rfl (fun h => ⟨?_, h.2⟩)
    have minutes : clockMinutes s.clock ≤ 1439 := by
      unfold clockMinutes
      split
      · exact Nat.zero_le _
      · exact h.1
    dsimp only [minutesStep, setClock]
    omega
  · refine FiguresKept.trans ?_ (blink _)
    refine .of_trip (only_trip s _) rfl ⟨fun h => ?_, rfl, id⟩
    obtain ⟨a, b, odometer, steps, low, high, limit⟩ := tripsWithin_iff.mp h
    exact tripsWithin_iff.mpr ⟨a, b, odometer, steps, low, high, nextLimit_legal limit⟩

/-! ### The load -/

theorem slotValue_le {m : List (Nat × Word)} {slot v : Nat} (found : slotValue m slot = some v) : v ≤ 9999999 := by
  unfold slotValue at found
  dsimp only at found
  split at found
  · rename_i good
    simp only [Bool.and_eq_true, decide_eq_true_eq] at good
    cases found
    exact good.1
  · cases found

theorem bestSlot_le {m : List (Nat × Word)} : ∀ {slots : List Nat} {best : Nat × Nat},
    bestSlot m slots = some best → best.2 ≤ 9999999
  | [], _, h => by cases h
  | slot :: rest, best, h => by
    unfold bestSlot at h
    split at h
    · rename_i v other w value later
      split at h <;> cases h
      · exact slotValue_le value
      · exact bestSlot_le later
    · rename_i v value _
      cases h
      exact slotValue_le value
    · exact bestSlot_le h

theorem loadOdometer_bounds (m : Option (List (Nat × Word))) (s : State) : FiguresKept s (loadOdometer m s) := by
  have loaded : ∀ v, v ≤ 9999999 → tripsWithin s.trip = true →
      tripsWithin { s.trip with odometer := v, odoDirty := false } = true := fun v range h => by
    obtain ⟨a, b, _, rest⟩ := tripsWithin_iff.mp h
    exact tripsWithin_iff.mpr ⟨a, b, range, rest⟩
  unfold loadOdometer
  split
  · rename_i slot v found
    obtain ⟨memory, _, best⟩ := Option.bind_eq_some_iff.mp found
    exact ⟨rfl, id, loaded v (bestSlot_le best), id, id, id, id, id, fun _ => id, id⟩
  · exact ⟨rfl, id, loaded 0 (Nat.zero_le _), id, id, id, id, id, fun _ => id, id⟩

/-- A stored record is admitted within the ranges of the remainders (06 R102). -/
theorem storedItem_within {variant : BitVec 2} {i : Nat} {ws : List Word} {km : Int} {hours : Option Int}
    (stored : storedItem variant i ws = some (km, hours)) :
    (-9999 ≤ km ∧ km ≤ 30000) ∧ ∀ h ∈ hours, -9999 ≤ h ∧ h ≤ 15000 := by
  unfold storedItem at stored
  split at stored
  · split at stored
    · rename_i admitted
      simp only [Bool.and_eq_true, decide_eq_true_eq] at admitted
      split at stored
      · split at stored <;> cases stored
        exact ⟨admitted.2, fun _ h => by cases h⟩
      · split at stored
        · rename_i range
          simp only [Bool.and_eq_true, decide_eq_true_eq] at range
          cases stored
          refine ⟨admitted.2, fun _ h => ?_⟩
          cases h
          exact range
        · cases stored
    · cases stored
  · cases stored

theorem loadItem_bounds (m : Option (List (Nat × Word))) (s : State) (i : Nat) : FiguresKept s (loadItem m s i) := by
  unfold loadItem
  split
  · rename_i km hours found
    obtain ⟨memory, _, stored⟩ := Option.bind_eq_some_iff.mp found
    exact modifyItem_bounds (fun _ _ => itemWithin_iff.mpr (storedItem_within stored)) i s
  · refine FiguresKept.trans ?_ (modifyItem_bounds (fun _ _ => ?_) i _)
    · exact .of_quiet (only_faults s _) rfl
    · refine itemWithin_iff.mpr ⟨by dsimp only; omega, fun h hh => ?_⟩
      obtain ⟨n, _, rfl⟩ := Option.map_eq_some_iff.mp hh
      decide

theorem journeyOfWords_within (ws : List Word) : journeyWithin (journeyOfWords ws) = true := by
  have word : ∀ w : Word, w.toNat ≤ 65535 := fun w => by
    have := w.isLt
    omega
  exact journeyWithin_iff.mpr ⟨word _, word _, word _, word _⟩

theorem loadOpen_within {m : Option (List (Nat × Word))} {last : Nat} {j : Journey}
    (loaded : (loadOpen m last).1 = some j) : journeyWithin j = true := by
  unfold loadOpen at loaded
  dsimp only at loaded
  repeat' split at loaded
  all_goals cases loaded
  exact journeyOfWords_within _

theorem loadRing_length_le (m : Option (List (Nat × Word))) (last : Nat) :
    (loadRing m last).1.length ≤ Config.ringCapacity := by
  unfold loadRing
  repeat' split
  · exact Nat.zero_le _
  · exact Nat.zero_le _
  · exact ringWalk_length_le _ _ _ _

theorem loadJourney_bounds (m : Option (List (Nat × Word))) (s : State) : FiguresKept s (loadJourney m s) :=
  ⟨rfl, id, id, id, id, id, fun _ => ⟨Nat.succ_pos _, fun _ h => loadOpen_within h, loadRing_length_le _ _⟩,
      id, fun _ => id, id⟩

theorem finishLoad_bounds (m : Option (List (Nat × Word))) (s : State) : FiguresKept s (finishLoad m s) := by
  have loaded := ((loadOdometer_bounds m s).trans (.foldl (loadItem_bounds m) itemNumbers _)).trans
    (loadJourney_bounds m _)
  have listening : ∀ t x,
      FiguresKept t { t with power := { t.power with mode := .starting .listen, startTimer := x } } :=
    fun t x => ⟨rfl, id, id, fun h => h.strapped rfl rfl rfl, id, id, id, id, fun _ => id, id⟩
  unfold finishLoad
  dsimp only
  exact (loaded.trans (listening _ _)).trans (.foldl (fun t i => offerRecord_bounds (.item i) t) itemNumbers _)

/-- The load ends alike whether it is completed or fails, after a change of the store port and the flags. -/
theorem load_bounds (m : Option (List (Nat × Word))) (s : State) (n : Nsp) (f : Faults) :
    FiguresKept s (finishLoad m { s with faults := f, nsp := n }) := by
  refine FiguresKept.trans ?_ (finishLoad_bounds m { s with faults := f, nsp := n })
  exact ⟨rfl, id, id, id, id, id, id, id, fun _ => id, id⟩

end Sys2Proof.Machine
end

section
/-! PROOFS. Bounds, command by command: the gauges, the changes of power state, the keys and the frames heard keep the
ranges, and with them every command and every step; the statement about the figures (O11). -/

namespace Sys2Proof.Machine

/-! ### Gauges -/

/-- A channel's step ends within its sweep, wherever the pointer goes. -/
theorem channelStep_within {g : Gauge} {c : Channel} (within : c.position ≤ (gaugeSpec g).sweep) (target : Option Nat) :
    (channelStep g target c).position ≤ (gaugeSpec g).sweep := by
  unfold channelStep
  split
  case h_5 =>
    split
    · exact within
    · exact moveBy_le _ _ _ _
  case h_3 => exact within
  all_goals exact moveBy_le _ _ _ _

theorem dampingPeriod_frame (s : State) : (dampingPeriod s).gauges.frame = s.gauges.frame := by
  unfold dampingPeriod startCoilOff
  dsimp only
  repeat' split
  all_goals rfl

theorem dampingPeriod_bounds (s : State) : FiguresKept s (dampingPeriod s) := by
  refine .of_gauges (dampingPeriod_only s) rfl (fun h => ?_) (dampingPeriod_frame s)
  have moved : gaugesWithin (stepChannels s).gauges = true := gaugesWithin_iff.mpr fun x => by
    rw [stepChannels, channelOf_mapChannels]
    exact channelStep_within (gaugesWithin_iff.mp h x) _
  unfold dampingPeriod startCoilOff
  dsimp only
  split
  · split <;> exact moved
  · exact h

/-! ### Power states -/

theorem applyGates_bounds (s : State) : FiguresKept s (applyGates s) :=
  .of_warned (applyGates_only s) (applyGates_kept s) (applyGates_intake s)

theorem offerOwned_bounds (what : Reoffer) (s : State) : FiguresKept s (offerOwned what s) :=
  .of_port (offerOwned_only what s) rfl (clockSetsLegal_congr (offerOwned_intake what s))

theorem runBegun_bounds (s : State) : FiguresKept s (runBegun s) :=
  ⟨rfl, id, id, fun h => h.strapped rfl rfl rfl, id, id, id, id, fun _ => id, id⟩

theorem watchBegun_bounds {g : Gauges} {s : State} (gauges : gaugesWithin s.gauges = true → gaugesWithin g = true)
    (frame : g.frame = s.gauges.frame) :
    FiguresKept s (watchBegun g s) :=
  ⟨frame, gauges, id, fun h => h.strapped rfl rfl rfl, id, id, id, id, fun _ => id, id⟩

theorem enterRun_bounds (s : State) : FiguresKept s (enterRun s) := (runBegun_bounds s).trans (applyGates_bounds _)

theorem startInto_bounds (toRun : Bool) (s : State) : FiguresKept s (startInto toRun s) :=
  .ite (enterRun_bounds s) ((watchBegun_bounds (g := gaugesGathering s) id rfl).trans (applyGates_bounds _))

theorem offerStores_bounds (s : State) : FiguresKept s (offerStores s) := by
  have moved : ∀ t i, FiguresKept t (markMoved t i) := fun t i => .ite (markItem_bounds i t) (.refl t)
  unfold offerStores
  dsimp only
  exact ((markOdometer_bounds s).trans (.ite (markOpenSlot_bounds _) (.refl _))).trans (.foldl moved itemNumbers _)

theorem enterWatch_bounds (s : State) : FiguresKept s (enterWatch s) := by
  have parked : FiguresKept s (watchBegun (gaugesParking s) s) := watchBegun_bounds id rfl
  have reminders := FiguresKept.of_posted (endReminders_only (watchBegun (gaugesParking s) s)) (endReminders_kept _)
  exact ((parked.trans reminders).trans (applyGates_bounds _)).trans (offerStores_bounds _)

theorem enterSleep_bounds (s : State) : FiguresKept s (enterSleep s) :=
  ⟨rfl, fun _ => rfl, id, fun h => h.strapped rfl rfl rfl, id, id, id, id, fun _ => id, fun _ => rfl⟩

theorem wakeBlocks_bounds (warm : Bool) (kind : Nat) (s : State) : FiguresKept s (wakeBlocks warm kind s) := by
  let emptied : State := emptyMessages (emptyChimes { s with port := wakePort warm s.port })
  have only : OnlyIn [.chime, .msg, .port] s emptied := by
    have port : OnlyIn [.chime, .msg, .port] s { s with port := wakePort warm s.port } :=
      (only_port s _).mono (by decide)
    exact (port.trans ((emptyChimes_only _).mono (by decide))).trans ((emptyMessages_only _).mono (by decide))
  have none_ : emptied.port.intake = [] := wakeBlocks_intake warm kind s
  have quiet : FiguresKept s emptied := .of_port only rfl (fun _ => by simp [clockSetsLegal, none_])
  exact quiet.trans ⟨rfl, fun _ => rfl, id, id, id, id, id, id, fun _ => id, id⟩

theorem wakeStart_bounds (toRun : Bool) (s : State) : FiguresKept s (wakeStart toRun s) :=
  ((((wakeBlocks_bounds false 1 s).trans (startInto_bounds toRun _)).trans (reofferAll_bounds _)).trans
    (kickWriter_bounds _)).trans (offerOwned_bounds .presence _)

theorem warmRestart_bounds (s : State) : FiguresKept s (warmRestart s) :=
  ((wakeBlocks_bounds true 2 s).trans (startInto_bounds _ _)).trans (offerOwned_bounds .presence _)

theorem rosterRefresh_bounds (s : State) : FiguresKept s (rosterRefresh s) := by
  have offered : ∀ t, (offerOwned .rollCall (hushChanged t)).fuel = t.fuel := fun t =>
    ((offerOwned_only _ _).fuel (by decide)).trans ((hushChanged_only t).fuel (by decide))
  have fuel : fuelCountsWithin s.fuel → fuelCountsWithin (rosterRefresh s).fuel := by
    unfold rosterRefresh
    rw [offered]
    exact id
  exact .of_blocks (rosterRefresh_only s) [.fuel, .port] rfl (List.forall_mem_cons.mpr
    ⟨fuel, List.forall_mem_singleton.mpr (clockSetsLegal_congr (rosterRefresh_intake s))⟩)

theorem beginDip_bounds (s : State) : FiguresKept s (beginDip s) := by
  let silenced : State := silenceForDip { s with power := { s.power with dip := true } }
  have silent : OnlyIn [.chime, .port] { s with power := { s.power with dip := true } } silenced := silenceForDip_only _
  have before : FiguresKept s { s with power := { s.power with dip := true } } :=
    .of_power (only_power s _) rfl rfl
  have intake : silenced.port.intake = s.port.intake := reportSource_intake _ _
  have after : FiguresKept { s with power := { s.power with dip := true } } silenced :=
    .of_port silent rfl (clockSetsLegal_congr intake)
  exact ((before.trans after).trans (.of_quiet (only_nsp silenced (dipStopsWriter silenced.nsp)) rfl)).trans
      (applyGates_bounds _)

theorem dipInput_bounds (i : DipInput) (s : State) : FiguresKept s (dipInput i s) := by
  have active : FiguresKept s { s with power := setDipInput i s.power } :=
    .of_power (only_power s _) rfl (by cases i <;> rfl)
  exact .ite active (active.trans (beginDip_bounds _))

theorem endDip_bounds (s : State) : FiguresKept s (endDip s) := by
  have kept : ∀ t, (dipFreesWriter (withArbiter id t)).power = t.power := fun t =>
    ((dipFreesWriter_only _).power (by decide)).trans ((withArbiter_only (fun u => .refl _ u) t).power (by decide))
  have mode : (endDip s).power.mode = s.power.mode := by rw [endDip, kept]
  exact .of_blocks (endDip_only s) [.power, .port] rfl (List.forall_mem_cons.mpr
    ⟨mode, List.forall_mem_singleton.mpr (clockSetsLegal_congr (endDip_intake s))⟩)

theorem setIgn_bounds (on : Bool) (s : State) : FiguresKept s (setIgn on s) :=
  .of_power (only_power s _) rfl rfl

/-! ### The end of a command -/

theorem settled_bounds (s : State) : FiguresKept s (settled s) := .of_power (settled_only s) rfl (settled_mode s)

theorem FiguresKept.settled {s t : State} (h : FiguresKept s t) : FiguresKept s (settled t) :=
  h.trans (settled_bounds t)

/-! ### Warnings, chimes and messages -/

theorem setCursor_bounds (next : Option Nat) (s : State) : FiguresKept s (setCursor next s) :=
  .of_posted (setCursor_only next s) (setCursor_kept next s)

theorem postOutstanding_bounds (n : Nat) (s : State) : FiguresKept s (postOutstanding n s) :=
  .of_warned ((postOutstanding_only n s).mono (by decide)) (postOutstanding_kept n s) (postOutstanding_intake n s)

theorem evaluate_bounds (s : State) (n : Nat) : FiguresKept s (evaluate s n) :=
  .of_warned (evaluate_only s n) (evaluate_kept s n) (evaluate_intake s n)

theorem evaluateReport_bounds (k : ReportKind) (s : State) : FiguresKept s (evaluateReport k s) :=
  .foldl evaluate_bounds _ s

theorem removeRecord_bounds (o : MsgOrigin) (s : State) : FiguresKept s (removeRecord o s) :=
  .of_quiet (removeRecord_only o s) rfl

theorem departRecord_bounds (o : MsgOrigin) (s : State) : FiguresKept s (departRecord o s) := by
  unfold departRecord
  split
  · refine (removeRecord_bounds .reminder s).trans ?_
    unfold advanceReminder
    split
    · exact setCursor_bounds _ _
    · exact .refl _
  · exact removeRecord_bounds o s

theorem acknowledge_kept (n : Nat) (s : State) : CountersKept s (acknowledge n s) := by
  unfold acknowledge
  dsimp only
  refine .ite ?_ (.refl s)
  exact ((changeWarn_kept _ _ s).trans (.of_only (withdrawChime_only _ _) (by decide) (by decide))).trans
    (.of_only (removeRecord_only _ _) (by decide) (by decide))

theorem noteRecord_bounds (o : MsgOrigin) (s : State) : FiguresKept s (noteRecord o s) := by
  unfold noteRecord
  split
  · rename_i n
    exact (FiguresKept.of_warned (acknowledge_only n s) (acknowledge_kept n s) (acknowledge_intake n s)).trans
      (departRecord_bounds _ _)
  · exact departRecord_bounds o s

theorem noteAction_bounds (s : State) : FiguresKept s (noteAction s) := by
  unfold noteAction
  split
  · exact noteRecord_bounds _ s
  · exact .of_quiet (moveReview_only s) rfl
  · exact .of_quiet (openReview_only s) rfl
  · exact (FiguresKept.of_quiet (leaveSetMode_only s) rfl).trans (.of_quiet (openReview_only _) rfl)

theorem peerChime_bounds (source : Nat) (pattern : ChimePattern) (reps : Nat) (s : State) :
    FiguresKept s (peerChime source pattern reps s) := by
  refine .of_port (bs := [.warn, .chime, .port]) ?_ rfl (clockSetsLegal_congr (peerChime_intake _ _ _ s))
  unfold peerChime
  split
  · exact (withdrawChime_only _ s).mono (by decide)
  · exact postChime_only _ _ _ _ s

theorem elementOver_bounds (s : State) : FiguresKept s (elementOver s) := by
  refine .of_port (bs := [.chime, .port]) ?_ rfl (clockSetsLegal_congr (elementOver_intake s))
  unfold elementOver
  split
  · exact ((endElement_only _ s).mono (by decide)).trans ((reportSource_only s _).mono (by decide))
  · exact .refl _ s

/-! ### Keys -/

theorem holdKey_bounds (k : Key) (v : KeyState) (s : State) : FiguresKept s (holdKey k v s) :=
    .of_quiet (holdKey_only k v s) rfl

theorem pressNoted_bounds (s : State) : FiguresKept s (pressNoted s) :=
  .of_port (pressNoted_only s) rfl (clockSetsLegal_congr (pressNoted_intake s))

theorem acceptPress_bounds {act : State → State} (acts : ∀ t, FiguresKept t (act t)) (k : Key)
    (holds : State → KeyAction) (s : State) : FiguresKept s (acceptPress k holds act s) := by
  have woken : ∀ x, FiguresKept s { s with keys := x } := fun x => .of_quiet (only_keys s x) rfl
  unfold acceptPress
  refine .ite (.ite ?_ ?_) (.refl s)
  · exact ((woken _).trans (pressNoted_bounds _)).trans (holdKey_bounds _ _ _)
  · exact (((pressNoted_bounds s).trans (.of_quiet (keepSetMode_only _) rfl)).trans (acts _)).trans
      (holdKey_bounds _ _ _)

theorem acceptRelease_bounds {act : KeyAction → State → State} (acts : ∀ a t, FiguresKept t (act a t)) (k : Key)
    (s : State) : FiguresKept s (acceptRelease k act s) := by
  unfold acceptRelease
  split
  · exact .ite ((holdKey_bounds _ _ s).trans (acts _ _)) (.refl s)
  · exact .refl s

theorem resetAction_bounds (s : State) : FiguresKept s (resetAction s) := by
  unfold resetAction
  split
  · exact .refl s
  · exact .refl s
  · exact .of_quiet (closeReview_only s) rfl
  · exact stepValue_bounds s

theorem journeyShort_bounds (a : KeyAction) (s : State) : FiguresKept s (journeyShort a s) := by
  unfold journeyShort
  split
  · exact .ite (.of_quiet (setReadout_only _ s) rfl) (openJourneyOp_bounds s)
  · exact .refl s

theorem journeyLong_bounds (s : State) : FiguresKept s (journeyLong s) := by
  unfold journeyLong
  split
  · exact closeJourneyOp_bounds _ s
  · exact openJourneyOp_bounds s

theorem tripResetOp_bounds (b : Bool) (s : State) : FiguresKept s (tripResetOp b s) := by
  refine .of_trip (tripResetOp_only b s) rfl ⟨fun h => ?_, by unfold tripResetOp; split <;> rfl, fun h => ?_⟩
  · obtain ⟨a, b, rest⟩ := tripsWithin_iff.mp h
    unfold tripResetOp
    split
    · exact tripsWithin_iff.mpr ⟨a, rfl, rest⟩
    · exact tripsWithin_iff.mpr ⟨rfl, b, rest⟩
  · unfold tripResetOp
    split <;> exact h

/-! ### Frames heard -/

theorem noteHeard_bounds (h : Heard) (s : State) : FiguresKept s (noteHeard h s) :=
  .of_power (noteHeard_only h s) rfl (noteHeard_mode h s)

theorem strapped_of_receives {s : State} (on : receives s = true) : strapped s = true := by
  unfold receives at on
  unfold strapped
  split at on <;> simp_all

/-- A frame is heard by a part that receives, whose straps are sampled. -/
theorem hearFrame_bounds {handle : State → State} (handles : ∀ t, strapped t = true → FiguresKept t (handle t))
    (fits : Bool) (h : Heard) (s : State) : FiguresKept s (hearFrame fits h handle s) := by
  unfold hearFrame hearing
  by_cases on : receives s = true
  · have straps : strapped (noteHeard h s) = true := by
      simpa [strapped] using strapped_of_receives on
    simp only [on, Bool.not_true, Bool.false_eq_true, if_false]
    split
    · exact .refl s
    · exact .refl s
    · exact .of_quiet (noteClash_only s) rfl
    · exact (noteHeard_bounds h s).trans (handles _ straps)
  · simp only [on, Bool.not_false, if_true]
    exact .refl s

theorem consumers_bounds (k : ReportKind) (h : Heard) (d e : Nat) (c : Bool) {s : State} (on : strapped s = true) :
    FiguresKept s (consumers k h d e c s) := by
  cases k
  case engine =>
    exact ((FiguresKept.of_quiet (followEngine_only _ _ s) rfl).trans (applyGates_bounds _)).trans
        (evaluateReport_bounds _ _)
  case fuelFlow =>
    exact (issue_bounds d (fuelDelta_bounds d s)).trans (issue_bounds e (runSeconds_bounds e _))
  case chassis =>
    have pulsed := issue_bounds (f := pulseDelta) d (pulseDelta_bounds on d)
    exact ((((pulsed.trans (followStandstill_bounds _ _)).trans (.of_quiet (holdSpeed_only _ _) rfl)).trans
      (.of_quiet (takeGateSpeed_only _ _ _) rfl)).trans (applyGates_bounds _)).trans (evaluateReport_bounds _ _)
  case tank => exact ((sampleMain_bounds _ _ s).trans (sampleAux_bounds _ _ _)).trans (followPump_bounds _)
  case bodyDoors => exact evaluateReport_bounds _ s
  case bodyLamps => exact evaluateReport_bounds _ s
  case rearConsole =>
    have call : FiguresKept s (rearCall s) := .of_warned ((rearCall_only s).mono (by decide))
      ((CountersKept.of_only (postChime_only _ _ _ _ s) (by decide) (by decide)).trans (postMessage_kept _ _ _ _ _))
      (rearCall_intake s)
    exact FiguresKept.trans (.ite call (.refl s))
      (.of_port (hushChanged_only _) rfl (clockSetsLegal_congr (hushChanged_intake _)))

theorem offerReport_bounds (k : ReportKind) (h : Heard) {s : State} (on : strapped s = true) :
    FiguresKept s (offerReport k h s) := by
  unfold offerReport
  split
  · have entry : FiguresKept s { s with bus := setEntry k (acceptedEntry s k h) s.bus } := .of_quiet (only_bus s _) rfl
    exact entry.trans (consumers_bounds k h _ _ _ on)
  · exact .of_quiet (markRival_only k _ s) rfl
  · exact .refl s

theorem parseDemand_not_clockSet (mask : Word) (index : Slot) (m : Nat) :
    parseDemand mask index ≠ some (.clockSet m) := by
  unfold parseDemand
  repeat' split
  all_goals simp

theorem parseChime_not_clockSet (pattern reps : Word) (m : Nat) : parseChime pattern reps ≠ some (.clockSet m) := by
  unfold parseChime
  repeat' split
  all_goals simp

theorem parseNotice_not_clockSet (text seconds : Word) (m : Nat) : parseNotice text seconds ≠ some (.clockSet m) := by
  unfold parseNotice
  split <;> simp

theorem parseRestart_not_clockSet (action : Word) (m : Nat) : parseRestart action ≠ some (.clockSet m) := by
  unfold parseRestart
  split <;> simp

/-- A CLOCK SET is parsed from one slot with minutes of the day alone (10 TABLE 10-5, third row). -/
theorem parseCommand_clockSet {k : FrameKind} {slots : List Slot} {m : Nat}
    (parse : parseCommand k slots = some (.clockSet m)) : m ≤ 1439 := by
  cases k
  case clockSet =>
    rcases slots with _ | ⟨_ | minutes, _ | _⟩
    case cons.some.nil =>
      have parsed : (if minutes.toNat ≤ 1439 then some (Command.clockSet minutes.toNat) else none)
        = some (.clockSet m) := parse
      split at parsed <;> cases parsed
      assumption
    all_goals cases parse
  case demand =>
    rcases slots with _ | ⟨_ | mask, _ | ⟨index, _ | _⟩⟩
    case cons.some.cons.nil => exact absurd parse (parseDemand_not_clockSet mask index m)
    all_goals cases parse
  case chimeRequest =>
    rcases slots with _ | ⟨_ | pattern, _ | ⟨_ | reps, _ | _⟩⟩
    case cons.some.cons.some.nil => exact absurd parse (parseChime_not_clockSet pattern reps m)
    all_goals cases parse
  case notice =>
    rcases slots with _ | ⟨_ | text, _ | ⟨_ | seconds, _ | _⟩⟩
    case cons.some.cons.some.nil => exact absurd parse (parseNotice_not_clockSet text seconds m)
    all_goals cases parse
  case serviceReset =>
    rcases slots with _ | ⟨_ | item, _ | _⟩
    case cons.some.nil =>
      have parsed : (if item.toNat ≤ 8 then some (Command.serviceReset item.toNat) else none)
        = some (.clockSet m) := parse
      split at parsed <;> cases parsed
    all_goals cases parse
  case journeyClear => rcases slots with _ | _ <;> cases parse
  case restartRequest =>
    rcases slots with _ | ⟨_ | action, _ | _⟩
    case cons.some.nil => exact absurd parse (parseRestart_not_clockSet action m)
    all_goals cases parse
  all_goals cases parse

/-- A CLOCK SET is taken into the intake queue with minutes of the day (10 TABLE 10-5). -/
theorem decideAnswer_clockSet {s : State} {kind : Byte} {h : Heard} {m : Nat}
    (taken : (decideAnswer s kind h).2 = some (.clockSet m)) : m ≤ 1439 := by
  unfold decideAnswer at taken
  split at taken
  · cases taken
  · rename_i k _
    split at taken
    · cases taken
    · split at taken
      · cases taken
      · split at taken
        · cases taken
        · rename_i c parse
          repeat' split at taken
          all_goals cases taken
          exact parseCommand_clockSet parse

theorem answerHeard_bounds (kind : Byte) (h : Heard) (s : State) : FiguresKept s (answerHeard kind h s) := by
  refine .of_port (answerHeard_only kind h s) rfl (fun legal => ?_)
  unfold answerHeard
  split
  · simp only [clockSetsLegal, List.all_append, Bool.and_eq_true] at legal ⊢
    refine ⟨legal, ?_⟩
    cases taken : (decideAnswer s kind h).2 with
    | none => rfl
    | some c =>
      cases c
      case clockSet => simpa using decideAnswer_clockSet taken
      all_goals rfl
  · exact legal

theorem dropHead_bounds (s : State) : FiguresKept s (dropHead s) := by
  refine .of_port (dropHead_only s) rfl (fun legal => ?_)
  simp only [clockSetsLegal, List.all_eq_true] at legal ⊢
  exact fun e he => legal e (List.mem_of_mem_drop he)

/-- The CLOCK SET at the head of a legal intake queue sets minutes of the day. -/
theorem intakeHead_clockSet {s : State} {source m : Nat} (head : intakeHead s = some ⟨source, .clockSet m⟩)
    (legal : clockSetsLegal s.port = true) : m ≤ 1439 := by
  unfold intakeHead at head
  split at head
  · have here := List.all_eq_true.mp legal _ (List.mem_of_head? head)
    simpa using here
  · cases head

end Sys2Proof.Machine
end

section
/-! PROOFS. Bounds of every command and every step, and the statement about the figures (O11). -/

namespace Sys2Proof.Machine

/-! ### Power commands -/

theorem supply_ranges {s t : State} (gauges : t.gauges = Gauges.cold) (trip : t.trip = TripComputer.cold)
    (fuel : t.fuel = Fuel.cold) (journey : t.journey = JourneyUnit.cold) (service : t.service = Service.cold)
    (clock : t.clock.minutes = 0 ∧ t.clock.seconds = 0) (port : t.port = Port.cold) (off : strapped t = false) :
    RangesKept s t := by
  refine ⟨fun _ => ?_, fun _ => ?_, fun _ => ?_, fun _ => ?_, fun _ => ?_,
    fun _ => ?_, fun _ => ?_, fun _ _ => ?_, fun _ => ?_⟩
  · rw [gauges]
    decide
  · rw [trip]
    decide
  · rw [residueWithin, off, trip]
    rfl
  · rw [trip]
    decide
  · rw [fuel]
    exact ⟨by decide, by decide⟩
  · rw [journey]
    exact ⟨by decide, fun _ h => (by cases h), by decide⟩
  · rw [service]
    exact ⟨by decide, by decide⟩
  · rw [clockFiguresWithin, clock.1, clock.2]
    exact ⟨by decide, by decide⟩
  · rw [port]
    decide

/-- The straps are sampled with no pulse in the residue. -/
theorem sampleStraps_bounds {s : State} (settling : s.power.mode = .starting .settle) (p : StrapPins) :
    FiguresKept s (sampleStraps p s) := by
  refine ⟨rfl, id, id, fun h => ?_, id, id, id, id, fun _ => id, id⟩
  have := pulsesPerStep_ge p.pk
  have unsampled : strapped s = false := by simp [strapped, settling]
  have zero : s.trip.pulseResidue = 0 := by simpa [residueWithin, unsampled] using h
  have sampled : residueWithin (sampleStraps p s) ↔ s.trip.pulseResidue < pulsesPerStep p.pk := Iff.rfl
  rw [sampled]
  omega

theorem endListen_bounds (s : State) : FiguresKept s (endListen s) := by
  have ended : FiguresKept s { s with power := { s.power with startTimer := none, lastStart := 0 } } :=
    .of_power (only_power s _) rfl rfl
  exact (ended.trans (startInto_bounds _ _)).trans (offerOwned_bounds .presence _)

theorem ignitionOn_bounds (s : State) : FiguresKept s (ignitionOn s) := by
  have set := setIgn_bounds true s
  unfold ignitionOn
  split
  · exact .refl s
  · exact set
  · exact set
  · exact (set.trans (enterRun_bounds _)).settled
  · exact (set.trans (wakeStart_bounds true _)).settled

theorem ignitionOff_bounds (s : State) : FiguresKept s (ignitionOff s) := by
  have set := setIgn_bounds false s
  unfold ignitionOff
  split
  · exact .refl s
  · exact set
  · exact set
  · exact set
  · exact (set.trans (enterWatch_bounds _)).settled

theorem pulseOnLine_bounds (s : State) : FiguresKept s (pulseOnLine s) := .of_port (only_port s _) rfl id

theorem pulseHeard_bounds (s : State) : FiguresKept s (pulseHeard s) := by
  unfold pulseHeard
  split
  · exact .refl s
  · exact ((pulseOnLine_bounds s).trans (wakeStart_bounds _ _)).settled
  · exact pulseOnLine_bounds s
  · exact pulseOnLine_bounds s
  · exact pulseOnLine_bounds s

theorem keyWakes_bounds (key : Key) (s : State) : FiguresKept s (keyWakes key s) := by
  have wanted : ∀ t : State, FiguresKept t { t with
      port := { t.port with wakeWanted := t.straps.address.isSome },
      keys := { t.keys with waking := some (key, t.now + 30) } } :=
    fun t => ⟨rfl, id, id, id, id, id, id, id, fun _ => id, id⟩
  exact (wakeStart_bounds false s).trans (wanted _)

/-! ### Every command -/

/-- The commands of the Power Supervisor and of the store port. -/
theorem load_command_bounds (whole : Bool) (s : State) :
    FiguresKept s (if s.power.mode = .starting .load then (if whole then completeLoad s else failLoad s) else s) :=
  .ite (.ite (load_bounds _ _ _ _) (load_bounds _ _ _ _)) (.refl s)

theorem answerOperation_bounds (answer : StoreAnswer) (s : State) : FiguresKept s (answerOperation answer s) := by
  refine .ite ?_ (.of_quiet (answerWrite_only answer s) rfl)
  unfold answerLoad
  split
  · exact ⟨rfl, id, id, id, id, id, id, id, fun _ => id, id⟩
  · exact .ite (.of_quiet (only_nsp s _) rfl) (load_bounds _ _ _ _)
  · exact .refl s

theorem correctionPeriod_bounds (s : State) : FiguresKept s (correctionPeriod s) := by
  have next : FiguresKept s { s with fuel := { s.fuel with corrTimer := startFor s 1000 } } :=
    .of_fuel (only_fuel s _) rfl id
  exact .ite next (next.trans (correctionStep_bounds _))

theorem expireStale_bounds (k : ReportKind) (s : State) : FiguresKept s (expireStale k s) := by
  have effects : ∀ t : State, fuelCountsWithin t.fuel → fuelCountsWithin (staleEffects k t).fuel := fun t h => by
    unfold staleEffects
    split
    · exact h
    · exact h
    · rw [(hushChanged_only t).fuel (by decide)]
      exact h
    · exact h
  have fuel : fuelCountsWithin s.fuel → fuelCountsWithin (expireStale k s).fuel := by
    unfold expireStale
    split
    · split
      · rw [(offerOwned_only _ _).fuel (by decide)]
        exact fun h => effects _ h
      · exact id
    · exact id
  exact .of_blocks (expireStale_only k s) [.fuel, .port] rfl (List.forall_mem_cons.mpr
    ⟨fuel, List.forall_mem_singleton.mpr (clockSetsLegal_congr (expireStale_intake k s))⟩)

theorem stopPeriod_bounds (s : State) : FiguresKept s (stopPeriod s) := by
  have next : FiguresKept s { s with fuel := { s.fuel with stopTimer := startFor s 5000 } } :=
    .of_fuel (only_fuel s _) rfl id
  exact .ite (next.trans (offerOwned_bounds _ _)) next

theorem mirrorPeriod_bounds (s : State) : FiguresKept s (mirrorPeriod s) := by
  have next : FiguresKept s { s with bus := { s.bus with mirrorTimer := startFor s 500 } } :=
      .of_quiet (only_bus s _) rfl
  exact .ite (next.trans (.of_port (offerPeriodicMirror_only _) rfl
      (clockSetsLegal_congr (offerPeriodicMirror_intake _)))) next

theorem reoffer_bounds (what : Reoffer) (s : State) : FiguresKept s (reoffer what s) := by
  unfold reoffer
  split
  · exact .ite (.of_port (answerBits_only _ _ s) rfl (clockSetsLegal_congr (answerBits_intake _ _ s)))
      (.refl s)
  · exact .ite (offerOwned_bounds _ s) (.refl s)

theorem endAttempt_bounds (act : TxEntry → Option TxEntry) (s : State) : FiguresKept s (endAttempt act s) :=
  .of_port (endAttempt_only act s) rfl id

theorem markSentWhole_bounds (k : FrameKind) (s : State) : FiguresKept s (markSentWhole k s) :=
  .of_port (markSentWhole_only k s) rfl id

theorem closeSlot_bounds (e : TxEntry) (answer : Option Answer) (s : State) : FiguresKept s (closeSlot e answer s) := by
  have ended := (endAttempt_bounds (answerAct s.now answer) s).trans (markSentWhole_bounds e.id.kind _)
  exact .ite (ended.trans (.of_quiet (modifyRoster_only _ _ _) rfl)) ended

theorem showTimeOver_bounds (s : State) : FiguresKept s (showTimeOver s) := by
  unfold showTimeOver
  split
  · exact departRecord_bounds _ s
  · exact .refl s

theorem repost_bounds (s : State) : FiguresKept s (repost s) := by
  unfold repost
  split
  · exact .ite (.of_posted (postReminder_only _ s) (postReminder_kept _ s)) (.refl s)
  · exact .refl s

theorem endProving_bounds (s : State) : FiguresKept s (endProving s) :=
  FiguresKept.trans (.of_quiet (only_warn s _) rfl) (setCursor_bounds _ _)

theorem evaluationPeriod_bounds (s : State) : FiguresKept s (evaluationPeriod s) :=
  FiguresKept.trans (.of_quiet (only_warn s _) rfl) (.foldl evaluate_bounds _ _)

theorem endWindow_bounds (s : State) : FiguresKept s (endWindow s) :=
  FiguresKept.trans (.of_quiet (only_warn s _) rfl) (applyGates_bounds _)

theorem samplerPeriod_bounds (s : State) : FiguresKept s (samplerPeriod s) :=
  .of_trip (only_trip s _) rfl ⟨id, rfl, id⟩

/-- A CLOCK SET sets minutes of the day where the intake queue holds no others (04 R79). -/
theorem clockSet_bounds (s : State) : FiguresKept s (match intakeHead s with
    | some ⟨_, .clockSet minutes⟩ => settled (setClock minutes (dropHead s))
    | _ => s) := by
  split
  · rename_i source m head
    refine FiguresKept.settled ⟨rfl, id, id, id, id, id, id, id, fun legal within => ?_,
      (dropHead_bounds s).ranges.intake⟩
    exact ⟨intakeHead_clockSet head legal, within.2⟩
  · exact .refl s

theorem completeTransfer_bounds (s : State) : FiguresKept s (completeTransfer s) := by
  unfold completeTransfer
  split
  · exact .ite (.of_quiet (only_disp s _) rfl) (.of_quiet (only_disp s _) rfl)
  · exact .refl s

/-- Every command but the supply's loss and return keeps the ranges of every block and the PWM frame. -/
theorem exec_bounds (c : Instr) (s : State) (up : ∀ a b, c ≠ .standbySupplyUp a b)
    (loss : ∀ cut, c ≠ .standbySupplyLoss cut) : ∃ t, exec c s = .next t ∧ FiguresKept s t := by
  cases c
  case standbySupplyUp crank lowv => exact absurd rfl (up crank lowv)
  case standbySupplyLoss cut => exact absurd rfl (loss cut)
  case settleEnd pins =>
    refine ⟨_, rfl, ?_⟩
    split
    · exact sampleStraps_bounds ‹_› pins
    · exact .refl s
  case loadComplete whole => exact ⟨_, rfl, load_command_bounds whole s⟩
  case listenEnd => exact ⟨_, rfl, .ite (endListen_bounds s).settled (.refl s)⟩
  case ignOn => exact ⟨_, rfl, ignitionOn_bounds s⟩
  case ignOff => exact ⟨_, rfl, ignitionOff_bounds s⟩
  case sleepTimerExpiry => exact ⟨_, rfl, .ite (enterSleep_bounds s).settled (.refl s)⟩
  case wakePulseHeard => exact ⟨_, rfl, pulseHeard_bounds s⟩
  case keyWake key => exact ⟨_, rfl, .ite (keyWakes_bounds key s).settled (.refl s)⟩
  case supplyDipBegin input => exact ⟨_, rfl, .ite (dipInput_bounds input s).settled (.refl s)⟩
  case dipInputsClear => exact ⟨_, rfl, .ite (.of_power (only_power s _) rfl rfl) (.refl s)⟩
  case supplyDipEnd => exact ⟨_, rfl, .ite (endDip_bounds s).settled (.refl s)⟩
  case restartRequestRosterRefresh =>
    refine ⟨_, rfl, ?_⟩
    split
    · exact ((dropHead_bounds s).trans (rosterRefresh_bounds _)).settled
    · exact .refl s
  case restartRequestWarmRestart =>
    refine ⟨_, rfl, ?_⟩
    split
    · exact ((dropHead_bounds s).trans (warmRestart_bounds _)).settled
    · exact .refl s
  case reportArrival kind frame =>
    exact ⟨_, rfl, (hearFrame_bounds (fun _ on => offerReport_bounds kind frame on) _ frame s).settled⟩
  case rollCall frame =>
    exact ⟨_, rfl, hearFrame_bounds (fun t _ => offerOwned_bounds .presence t) _ frame s⟩
  case presence frame =>
    exact ⟨_, rfl, hearFrame_bounds (fun t _ => .of_quiet (heardPresence_only frame t) rfl) _ frame s⟩
  case otherFrameHeard kind target frame =>
    exact ⟨_, rfl, .ite (hearFrame_bounds (fun t _ => .refl t) _ frame s) (.refl s)⟩
  case ownAddressFrameHeard => exact ⟨_, rfl, .ite (.of_quiet (noteClash_only s) rfl) (.refl s)⟩
  case frameDiscarded cause =>
    refine ⟨_, rfl, .ite ?_ (.refl s)⟩
    cases cause
    case wakePulse => exact pulseOnLine_bounds s
    all_goals exact .refl s
  case addressedFrameAnswer kind frame =>
    exact ⟨_, rfl, hearFrame_bounds (fun t _ => answerHeard_bounds kind frame t) _ frame s⟩
  case demand =>
    refine ⟨_, rfl, ?_⟩
    split
    · exact (dropHead_bounds s).trans (.of_port (takeDemand_only _ _ _ _) rfl
        (clockSetsLegal_congr (takeDemand_intake _ _ _ _)))
    · exact .refl s
  case chimeRequest =>
    refine ⟨_, rfl, ?_⟩
    split
    · exact ((dropHead_bounds s).trans (peerChime_bounds _ _ _ _)).settled
    · exact .refl s
  case notice =>
    refine ⟨_, rfl, ?_⟩
    split
    · exact ((dropHead_bounds s).trans (postNote_bounds _ _ _ _ _)).settled
    · exact .refl s
  case serviceReset =>
    refine ⟨_, rfl, ?_⟩
    split
    · exact .ite ((dropHead_bounds s).trans (serviceResetOp_bounds _ _)).settled (dropHead_bounds s)
    · exact .refl s
  case journeyClear =>
    refine ⟨_, rfl, ?_⟩
    split
    · exact .ite ((dropHead_bounds s).trans (clearJourneys_bounds _)).settled (dropHead_bounds s)
    · exact .refl s
  case clockSet => exact ⟨_, rfl, clockSet_bounds s⟩
  case attemptBegin =>
    exact ⟨_, rfl, .of_port (beginAttempt_only s) rfl (clockSetsLegal_congr (beginAttempt_intake s))⟩
  case lostArbitration =>
    refine ⟨_, rfl, ?_⟩
    split
    · exact endAttempt_bounds some s
    · exact .refl s
  case readbackFault =>
    refine ⟨_, rfl, ?_⟩
    split
    · exact (endAttempt_bounds some s).trans (.of_port (countFault_only _) rfl
        (clockSetsLegal_congr (countFault_intake _)))
    · exact .refl s
  case lineFaultPauseExpiry => exact ⟨_, rfl, .of_port (only_port s _) rfl id⟩
  case broadcastSentWhole =>
    refine ⟨_, rfl, ?_⟩
    split
    · exact .ite ((endAttempt_bounds _ s).trans (markSentWhole_bounds _ _)) (.refl s)
    · exact .refl s
  case answerSlotClose run =>
    refine ⟨_, rfl, ?_⟩
    split
    · exact .ite (.refl s) (closeSlot_bounds _ _ s)
    · exact .refl s
  case retryDelayExpiry id' => exact ⟨_, rfl, .of_port (only_port s _) rfl id⟩
  case ownerReoffer what => exact ⟨_, rfl, .ite (reoffer_bounds what s) (.refl s)⟩
  case holdOffExpiry => exact ⟨_, rfl, .of_port (only_port s _) rfl id⟩
  case wakePulseSend => exact ⟨_, rfl, .ite (.of_port (only_port s _) rfl id) (.refl s)⟩
  case staleTimerExpiry kind => exact ⟨_, rfl, (expireStale_bounds kind s).settled⟩
  case rosterTimerExpiry station => exact ⟨_, rfl, .of_quiet (modifyRoster_only station expireRoster s) rfl⟩
  case mirrorTimerExpiry => exact ⟨_, rfl, .ite (mirrorPeriod_bounds s) (.refl s)⟩
  case dampingStep => exact ⟨_, rfl, .ite (dampingPeriod_bounds s) (.refl s)⟩
  case coilOffTimerExpiry => exact ⟨_, rfl, .ite (.of_gauges (only_gauges s _) rfl id rfl) (.refl s)⟩
  case correctionTimerExpiry => exact ⟨_, rfl, .ite (correctionPeriod_bounds s).settled (.refl s)⟩
  case standstillTimerExpiry => exact ⟨_, rfl, .ite (.of_fuel (only_fuel s _) rfl id) (.refl s)⟩
  case pumpTimerExpiry => exact ⟨_, rfl, .ite (.of_fuel (only_fuel s _) rfl id) (.refl s)⟩
  case transferStopTimerExpiry => exact ⟨_, rfl, .ite (stopPeriod_bounds s) (.refl s)⟩
  case tripSecondTimerExpiry => exact ⟨_, rfl, .ite (secondPeriod_bounds s).settled (.refl s)⟩
  case instantSamplerExpiry => exact ⟨_, rfl, .ite (samplerPeriod_bounds s).settled (.refl s)⟩
  case clockSecond => exact ⟨_, rfl, .ite (clockPeriod_bounds s).settled (.refl s)⟩
  case modePress => exact ⟨_, rfl, (acceptPress_bounds (fun t => .of_quiet (modeAction_only t) rfl) _ _ s).settled⟩
  case selectPress => exact ⟨_, rfl, (acceptPress_bounds (fun t => .of_quiet (selectAction_only t) rfl) _ _ s).settled⟩
  case resetPress => exact ⟨_, rfl, (acceptPress_bounds resetAction_bounds _ _ s).settled⟩
  case notePress => exact ⟨_, rfl, (acceptPress_bounds noteAction_bounds _ _ s).settled⟩
  case journeyPress => exact ⟨_, rfl,
      (acceptPress_bounds (fun t => .of_quiet (journeyAction_only t) rfl) _ _ s).settled⟩
  case journeyRelease => exact ⟨_, rfl, (acceptRelease_bounds journeyShort_bounds _ s).settled⟩
  case journeyLongPress =>
    refine ⟨_, rfl, ?_⟩
    split
    · exact .ite ((holdKey_bounds _ _ s).trans (journeyLong_bounds _)).settled (.refl s)
    · exact .refl s
  case tripReset =>
    refine ⟨_, rfl, ?_⟩
    split
    · exact .ite ((holdKey_bounds _ _ s).trans (tripResetOp_bounds _ _)).settled (.refl s)
    · exact .refl s
  case serviceResetPress =>
    refine ⟨_, rfl, ?_⟩
    split
    · exact .ite ((holdKey_bounds _ _ s).trans (.ite (serviceResetOp_bounds _ _) (.refl _))).settled (.refl s)
    · exact .refl s
  case setModeTimeout => exact ⟨_, rfl, .ite (FiguresKept.of_quiet (leaveSetMode_only s) rfl).settled (.refl s)⟩
  case blinkTimerExpiry => exact ⟨_, rfl, .ite (FiguresKept.of_quiet (only_disp s _) rfl).settled (.refl s)⟩
  case journeyReadoutAlternate => exact ⟨_, rfl, .ite (FiguresKept.of_quiet (only_disp s _) rfl).settled (.refl s)⟩
  case displayTimerExpiry => exact ⟨_, rfl, .ite (FiguresKept.of_quiet (only_disp s _) rfl).settled (.refl s)⟩
  case displayTransferComplete => exact ⟨_, rfl, completeTransfer_bounds s⟩
  case minimumShowTimeExpiry =>
    exact ⟨_, rfl, .ite (FiguresKept.trans (.of_quiet (only_msg s _) rfl)
        (.of_quiet (select_only _) rfl)).settled (.refl s)⟩
  case maximumShowTimeExpiry => exact ⟨_, rfl, .ite (showTimeOver_bounds s).settled (.refl s)⟩
  case reminderRepostTimerExpiry => exact ⟨_, rfl, .ite (repost_bounds s).settled (.refl s)⟩
  case evaluationTimerExpiry => exact ⟨_, rfl, .ite (evaluationPeriod_bounds s).settled (.refl s)⟩
  case reOfferTimerExpiry entry => exact ⟨_, rfl, .ite (postOutstanding_bounds entry s).settled (.refl s)⟩
  case reChimeTimerExpiry entry => exact ⟨_, rfl, .of_quiet (modifyWarn_only entry rechimeFalls s) rfl⟩
  case reviewTimerExpiry => exact ⟨_, rfl, .ite (FiguresKept.of_quiet (moveReview_only s) rfl).settled (.refl s)⟩
  case flashTimerExpiry => exact ⟨_, rfl, .ite (.of_quiet (only_warn s _) rfl) (.refl s)⟩
  case lampProvingExpiry => exact ⟨_, rfl, .ite (endProving_bounds s).settled (.refl s)⟩
  case windowTimerExpiry => exact ⟨_, rfl, .ite (endWindow_bounds s).settled (.refl s)⟩
  case staleGraceExpiry => exact ⟨_, rfl, .ite (.of_quiet (only_warn s _) rfl) (.refl s)⟩
  case engineRunningTimerExpiry => exact ⟨_, rfl, .ite (.of_quiet (only_warn s _) rfl) (.refl s)⟩
  case elementEnd => exact ⟨_, rfl, .ite (elementOver_bounds s).settled (.refl s)⟩
  case busyPollRetry answer => exact ⟨_, rfl, (answerOperation_bounds answer s).settled⟩
  case failedWriteWaitExpiry => exact ⟨_, rfl, (FiguresKept.of_quiet (endWriteWait_only s) rfl).settled⟩
  case writeComplete => exact ⟨_, rfl, (completeWrite_bounds s).settled⟩
  case keyRelease key => exact ⟨_, rfl, .ite (.refl s) (acceptRelease_bounds (fun _ t => .refl t) key s)⟩
  case wakePulseEnd =>
    refine ⟨_, rfl, ?_⟩
    split
    · exact .refl s
    · exact .refl s
    all_goals exact .of_port (only_port s _) rfl id

/-- Every command keeps the ranges of every block. -/
theorem exec_ranges (c : Instr) (s : State) : ∃ t, exec c s = .next t ∧ RangesKept s t := by
  by_cases up : ∃ crank lowv, c = .standbySupplyUp crank lowv
  · obtain ⟨crank, lowv, rfl⟩ := up
    exact ⟨_, rfl, .ite (.refl s) (supply_ranges rfl rfl rfl rfl rfl ⟨rfl, rfl⟩ rfl rfl)⟩
  by_cases loss : ∃ cut, c = .standbySupplyLoss cut
  · obtain ⟨cut, rfl⟩ := loss
    exact ⟨_, rfl, .ite (supply_ranges rfl rfl rfl rfl rfl ⟨rfl, rfl⟩ rfl rfl) (.refl s)⟩
  obtain ⟨t, carried, kept⟩ := exec_bounds c s (fun a b same => up ⟨a, b, same⟩) (fun cut same => loss ⟨cut, same⟩)
  exact ⟨t, carried, kept.ranges⟩

theorem step_ranges {s t : State} (stepped : step s = .next t) : RangesKept s t := by
  unfold step at stepped
  split at stepped
  · cases stepped
    exact ⟨id, id, id, id, id, id, id, fun _ => id, id⟩
  · rename_i c rest _
    obtain ⟨u, carried, kept⟩ := exec_ranges c { s with pending := rest }
    rw [carried] at stepped
    cases stepped
    refine RangesKept.trans ?_ kept
    exact ⟨id, id, id, id, id, id, id, fun _ => id, id⟩

end Sys2Proof.Machine

open Sys2Proof Sys2Proof.Machine

/-- Settles O11: every operation keeps the ranges of each block, so every command and every step does. -/
theorem figuresStayWithinTheirRanges : Obligations.FiguresStayWithinTheirRanges := by
  refine ⟨fun s t within stepped => ?_, fun s t within stepped => ?_, fun s t within stepped => ?_,
    fun s t within stepped => ?_⟩
  · exact (step_ranges stepped).trip within
  · obtain ⟨clock, intake⟩ := clockWithin_iff.mp within
    exact clockWithin_iff.mpr ⟨(step_ranges stepped).clock intake clock, (step_ranges stepped).intake intake⟩
  · exact (step_ranges stepped).gauges within
  · have kept := step_ranges stepped
    obtain ⟨residue, fuel, journey, count, service⟩ := countersWithin_iff.mp within
    exact countersWithin_iff.mpr
      ⟨kept.residue residue, kept.fuel fuel, kept.journey journey, kept.count count, kept.service service⟩
end

section
/-! PROOFS. The front command (O1) and the damping step of the pointers (02 R24 to R30, R39; O49). -/

namespace Sys2Proof.Machine

/-! ### Targets -/

/-- A curve's value is at most the greatest of its points. -/
theorem curveAt_le {top : Nat} (x : Nat) : ∀ {l : List (Nat × Nat)}, (∀ q ∈ l, q.2 ≤ top) → curveAt l x ≤ top
  | [], _ => Nat.zero_le _
  | [(_, _)], within => within _ (List.mem_singleton_self _)
  | (x0, p0) :: (x1, p1) :: rest, within => by
    have first : p0 ≤ top := within (x0, p0) (by simp)
    have second : p1 ≤ top := within (x1, p1) (by simp)
    have later : curveAt ((x1, p1) :: rest) x ≤ top := curveAt_le x fun q hq => within q (List.mem_cons_of_mem _ hq)
    have part : x < x1 → (x - x0) * (p1 - p0) / (x1 - x0) ≤ p1 - p0 := fun inside =>
      Nat.div_le_of_le_mul (Nat.mul_le_mul_right _ (by omega))
    unfold curveAt
    split
    · exact first
    · split
      · have := part ‹_›
        omega
      · exact later

theorem gaugeCurve_le (straps : Straps) (g : Gauge) : ∀ q ∈ gaugeCurve straps g, q.2 ≤ (gaugeSpec g).sweep := by
  cases g
  case g0 | g1 | g4 =>
    dsimp only [gaugeCurve]
    split <;> decide
  all_goals simp [gaugeCurve, gaugeSpec]

/-- No target lies beyond its channel's sweep (02 R22, R24). -/
theorem gaugeTarget_le (straps : Straps) (g : Gauge) (v : Nat) : gaugeTarget straps g v ≤ (gaugeSpec g).sweep := by
  unfold gaugeTarget
  split
  · change clampNat 0 256 _ ≤ 256
    unfold clampNat
    omega
  · exact curveAt_le _ (gaugeCurve_le straps _)

theorem targetNow_le {s : State} {g : Gauge} {target : Nat} (now : targetNow s g = some target) :
    target ≤ (gaugeSpec g).sweep := by
  obtain ⟨v, _, rfl⟩ := Option.map_eq_some_iff.mp now
  exact gaugeTarget_le _ _ _

/-! ### Pointer steps -/

/-- The filter's step over a positive difference (00 "Filters"). -/
theorem filterStep_natCast {d : Nat} (w : Nat) (positive : 0 < d) : filterStep (d : Int) w = (max 1 (d / w) : Nat) := by
  unfold filterStep
  rw [← Int.ofNat_tdiv]
  generalize d / w = q
  split <;> omega

/-- The step of a tracking pointer, as the manual writes it (02 R26). -/
theorem trackStep_eq {g : Gauge} {target p : Nat} (aim : target ≤ (gaugeSpec g).sweep)
    (within : p ≤ (gaugeSpec g).sweep) :
    trackStep g target p =
      if p < target then p + min (gaugeSpec g).slew (max 1 ((target - p) / 2 ^ (gaugeSpec g).shift))
      else if target < p then p - min (gaugeSpec g).slew (max 1 ((p - target) / 2 ^ (gaugeSpec g).shift))
      else p := by
  unfold trackStep moveBy clampInt
  generalize (gaugeSpec g).sweep = sweep at aim within
  generalize (gaugeSpec g).slew = slew
  generalize 2 ^ (gaugeSpec g).shift = w
  split
  · have up : ((target : Int) - p) = ((target - p : Nat) : Int) := by omega
    have small : (target - p) / w ≤ target - p := Nat.div_le_self _ _
    rw [up, filterStep_natCast w (by omega)]
    omega
  · split
    · have down : ((target : Int) - p) = -((p - target : Nat) : Int) := by omega
      have small : (p - target) / w ≤ p - target := Nat.div_le_self _ _
      rw [down, filterStep_neg, filterStep_natCast w (by omega)]
      omega
    · have still : ((target : Int) - p) = 0 := by omega
      rw [still, filterStep_zero]
      omega

/-- The step of a falling pointer (02 R27). -/
theorem fallStep_eq {g : Gauge} {p : Nat} (slew : Nat) (within : p ≤ (gaugeSpec g).sweep) :
    fallStep g slew p = p - slew := by
  unfold fallStep moveBy clampInt
  omega

/-! ### The period -/

theorem startCoilOff_channel (s : State) (g : Gauge) :
    channelOf (startCoilOff s).gauges g = channelOf s.gauges g := by
  unfold startCoilOff
  split <;> cases g <;> rfl

theorem dampingPeriod_channel (s : State) (g : Gauge) : channelOf (dampingPeriod s).gauges g =
    if dampingTaken s then channelStep g (targetNow s g) (channelOf s.gauges g) else channelOf s.gauges g := by
  have period : channelOf (dampingPeriod s).gauges g =
      channelOf (if dampingTaken s then startCoilOff (stepChannels s) else s).gauges g := by cases g <;> rfl
  rw [period]
  split
  · rw [startCoilOff_channel, stepChannels, channelOf_mapChannels]
  · rfl

theorem dampingPeriod_coilOn (s : State) : (dampingPeriod s).gauges.coilOn = s.gauges.coilOn := by
  unfold dampingPeriod startCoilOff
  repeat' split
  all_goals rfl

theorem allAtRest_startCoilOff (s : State) : allAtRest (startCoilOff s).gauges = allAtRest s.gauges := by
  unfold startCoilOff
  split <;> rfl

theorem startCoilOff_coilOffTimer (s : State) : (startCoilOff s).gauges.coilOffTimer =
    if s.power.mode = .watch && allAtRest s.gauges && !runs s.gauges.coilOffTimer then some (s.now + 1000)
    else s.gauges.coilOffTimer :=
  apply_ite (fun t : State => t.gauges.coilOffTimer) _ _ _

/-- The coil-off timer starts when a step in WATCH leaves every pointer at 0 (02 R39). -/
theorem dampingPeriod_coilOffTimer (s : State) : (dampingPeriod s).gauges.coilOffTimer =
    if dampingTaken s && s.power.mode = .watch && allAtRest (dampingPeriod s).gauges && s.gauges.coilOffTimer.isNone
    then some (s.now + 1000) else s.gauges.coilOffTimer := by
  have rest : allAtRest (dampingPeriod s).gauges =
      allAtRest (if dampingTaken s then startCoilOff (stepChannels s) else s).gauges := rfl
  rw [rest]
  by_cases taken : dampingTaken s = true
  · rw [if_pos taken, allAtRest_startCoilOff]
    have same : (dampingPeriod s).gauges.coilOffTimer = (startCoilOff (stepChannels s)).gauges.coilOffTimer := by
      rw [dampingPeriod, if_pos taken]
    rw [same, startCoilOff_coilOffTimer, taken, Bool.true_and, ← Option.not_isSome]
    rfl
  · have off : dampingTaken s = false := by simpa using taken
    simp [dampingPeriod, off]

end Sys2Proof.Machine

open Sys2Proof Sys2Proof.Machine

/-- Settles O1: both cases are those of `step`'s definition. -/
theorem stepRunsFrontCommand : Obligations.StepRunsFrontCommand := by
  refine ⟨fun c rest s => rfl, fun s idle => ?_⟩
  unfold step
  split
  · rfl
  · rename_i c rest waiting
    exact absurd (idle.symm.trans waiting) (by simp)

/-- Settles O49: a channel's step, mode by mode, with the pointer steps as the manual writes them. -/
theorem dampingStepMovesThePointers : Obligations.DampingStepMovesThePointers := by
  intro s on within toward
  refine ⟨dampingPeriod s, ?_, rfl, dampingPeriod_coilOn s, fun off g => ?_, fun taken g => ?_,
    dampingPeriod_coilOffTimer s, dampingPeriod_only s⟩
  · have running : runs s.gauges.dampTimer = true := Option.isSome_iff_ne_none.mpr on
    exact congrArg _ (if_pos running)
  · rw [dampingPeriod_channel, if_neg (by simp [off])]
  · rw [dampingPeriod_channel, if_pos taken]
    have inside : (channelOf s.gauges g).position ≤ (gaugeSpec g).sweep := gaugesWithin_iff.mp within g
    have tracks : ∀ target, targetNow s g = some target →
        trackStep g target (channelOf s.gauges g).position = toward g target (channelOf s.gauges g).position :=
      fun target now => trackStep_eq (targetNow_le now) inside
    dsimp only
    unfold channelStep
    cases mode : (channelOf s.gauges g).mode <;> cases now : targetNow s g
    case track.some target | hold.some target | rest.some target => simp only [tracks target now]
    case track.none => rfl
    all_goals simp only [fallStep_eq _ inside, restSlew]
end

section
/-! PROOFS. The timers that set one flag, the trip seconds and the sampler (02 R39, 03 R51, R55, 04 R68, R74, R75,
07 R113, R115, R122, R123; O51). -/

namespace Sys2Proof.Machine

/-- A command of a timer that runs takes its effect. -/
theorem ite_running {α : Type} {timer : Timer} {a b : α} (on : timer ≠ none) :
    (if runs timer = true then a else b) = a := if_pos (Option.isSome_iff_ne_none.mpr on)

theorem entries_length_of_banksWhole {s : State} (whole : banksWhole s = true) : s.warn.entries.length = 24 := by
  simp only [banksWhole, Bool.and_eq_true, decide_eq_true_eq] at whole
  obtain ⟨⟨⟨_, entries⟩, _⟩, _⟩ := whole
  exact entries

theorem rechimeFalls_running {e : WarnEntry} (on : e.rechimeTimer ≠ none) :
    rechimeFalls e = { e with rechimeDue := decide (e.status = .noted), rechimeTimer := none } := ite_running on

/-! ### The sampler -/

/-- The consumption is undefined until the ring is full (04 R74). -/
theorem instantValue_short {straps : Straps} {ring : List Sample} (short : ring.length < 8) :
    instantValue straps ring = none := by
  unfold instantValue
  split
  · exact if_pos (by simp [Config.instantRing, short])
  · rfl

section
variable {straps : Straps} {ring : List Sample} {old new : Sample} (head : ring.head? = some old)
  (last : ring.getLast? = some new) (full : 8 ≤ ring.length)
include head last full

/-- The consumption over the span of a full ring (04 R75). -/
theorem instantValue_full : instantValue straps ring =
    if (new.pulses - old.pulses).toNat < pulseConstant straps.pulseSel / 100 then none
    else if straps.imperial then
      if (new.counts - old.counts).toNat = 0 then none
      else some (min 999 (((new.pulses - old.pulses).toNat * 47040
        + pulseConstant straps.pulseSel * ((new.counts - old.counts).toNat / 2))
          / (pulseConstant straps.pulseSel * (new.counts - old.counts).toNat)))
    else some (min 999 (((new.counts - old.counts).toNat * pulseConstant straps.pulseSel
      + (new.pulses - old.pulses).toNat) / (2 * (new.pulses - old.pulses).toNat))) := by
  have whole : ¬ ring.length < Config.instantRing := Nat.not_lt.mpr full
  unfold instantValue
  rw [head, last]
  simp [whole]

end

theorem samplerPeriod_trip (s : State) :
    let ring := pushRing 8 s.trip.ring { pulses := s.trip.pulseTotal, counts := s.trip.countTotal }
    (samplerPeriod s).trip =
      { s.trip with ring := ring, instant := instantValue s.straps ring, samplerTimer := some (s.now + 250) } := rfl

end Sys2Proof.Machine

open Sys2Proof Sys2Proof.Machine

/-- Settles O51: the branch of each timer that runs, and the ring and the formulas of the sampler. -/
theorem runningTimersCount : Obligations.RunningTimersCount := by
  refine ⟨⟨fun s on => congrArg _ (ite_running on), fun s on => congrArg _ (ite_running on),
    fun s on => congrArg _ (ite_running on), fun s on => congrArg _ (ite_running on),
    fun s on => congrArg _ (ite_running on), fun s on => congrArg _ (ite_running on), fun s n whole number on => ?_⟩,
    fun s on => ?_, fun s on => ?_⟩
  · refine ⟨_, rfl, ?_, fun m other => warnEntry_modifyWarn_other other, modifyWarn_only n rechimeFalls s⟩
    rw [warnEntry_modifyWarn_same (entries_length_of_banksWhole whole) number, rechimeFalls_running on]
  · exact ⟨_, congrArg Host.Outcome.next (ite_running on), settled_from _⟩
  · intro sample ring
    have pushed : pushRing 8 s.trip.ring sample = ring := by
      rw [pushRing, List.drop_one]
    have last : ring.getLast? = some sample := by
      rw [← pushed, pushRing]
      split <;> simp
    have instant : (settled (samplerPeriod s)).trip.instant = instantValue s.straps ring := by
      rw [settled_trip, samplerPeriod_trip, ← pushed]
    refine ⟨_, congrArg Host.Outcome.next (ite_running on), ?_, fun short => ?_, fun old head full => ?_⟩
    · rw [instant, ← pushed]
      exact settled_from _
    · rw [instant, instantValue_short short]
    · intro k dp dc
      have value := instantValue_full (straps := s.straps) head last full
      rw [instant, value]
      refine ⟨fun few => if_pos few, fun enough metric => ?_, fun enough imperial none_ => ?_,
        fun enough imperial some_ => ?_⟩
      · rw [if_neg (Nat.not_lt.mpr enough), if_neg (by simp [metric])]
      · rw [if_neg (Nat.not_lt.mpr enough), if_pos imperial, if_pos none_]
      · rw [if_neg (Nat.not_lt.mpr enough), if_pos imperial, if_neg some_]
end

section
/-! PROOFS. Figures and outputs by their formulas (02 R34 to R37, 04 4.3, R77, 05 R93, 07 R111, R123, R124, 08 R128,
09 R140, 11 R165; O60). -/

namespace Sys2Proof.Machine

/-! ### Averages and readouts -/

theorem avgEconomy_eq (t : Trip) : avgEconomy t =
    if t.distance < 10 ∨ t.fuel = 0 then none else some (min 999 ((t.distance * 4704 + t.fuel / 2) / t.fuel)) := by
  simp only [avgEconomy, Bool.or_eq_true, decide_eq_true_eq]

/-- The consumption or the economy of a trip in tenths, with its legend (04 4.3). -/
theorem readoutChars_economy {s : State} (shown : s.disp.readout = 2) :
    readoutChars s = tripLetter s ++ (if s.straps.imperial then
        ((avgEconomy (shownTrip s)).map tenths).getD "--.-".toList ++ " MPG".toList
      else ((avgConsumption (shownTrip s)).map tenths).getD "--.-".toList ++ " L/100KM".toList) := by
  unfold readoutChars
  rw [shown]
  cases imperial : s.straps.imperial <;> rfl

/-- The average speed of a trip, with its legend (04 4.3). -/
theorem readoutChars_speed {s : State} (shown : s.disp.readout = 3) :
    readoutChars s = tripLetter s ++ (if s.straps.imperial then
        ((avgSpeed (shownTrip s)).map (fun v => digits (v * 10181 / 16384))).getD "---".toList ++ " MPH".toList
      else ((avgSpeed (shownTrip s)).map digits).getD "---".toList ++ " KM/H".toList) := by
  unfold readoutChars
  rw [shown]
  cases imperial : s.straps.imperial <;> rfl

/-- The range, with its legend (04 R77). -/
theorem readoutChars_range {s : State} (shown : s.disp.readout = 5) :
    readoutChars s = "RANGE ".toList ++ (if s.straps.imperial then
        ((rangeKm s).map (fun r => digits (r * 10181 / 16384))).getD "----".toList ++ " MI".toList
      else ((rangeKm s).map digits).getD "----".toList ++ " KM".toList) := by
  unfold readoutChars
  rw [shown]
  cases imperial : s.straps.imperial <;> rfl

/-! ### Tests and the header -/

theorem testTrue_mask (limit v : Nat) (release equal : Bool) (mask pattern : Word) :
    testTrue limit release (.mask mask pattern equal) v
      = if equal then decide (wordOf v &&& mask = pattern) else decide (wordOf v &&& mask ≠ pattern) := by
  cases equal <;> rfl

theorem loadHeader_some (m : List (Nat × Word)) : loadHeader (some m) =
    if readWord m 41 = 0xFFFF - readWord m 40 then ((readWord m 40).toNat, false)
    else (0, !decide (readWord m 40 = 0xFFFF ∧ readWord m 41 = 0xFFFF)) := by
  have erased : allErased (wordsAt m 40 2) = decide (readWord m 40 = 0xFFFF ∧ readWord m 41 = 0xFFFF) := by
    rw [Bool.decide_and]
    exact congrArg _ (Bool.and_true _)
  rw [loadHeader, erased]

/-- The offers at the end of the load leave the Journey Unit and the flags as the load read them (11 R170). -/
theorem finishLoad_journey (m : Option (List (Nat × Word))) (s : State) :
    (finishLoad m s).journey.lastNumber = (loadHeader m).1
      ∧ ((loadHeader m).2 = true → (finishLoad m s).faults.store = true) := by
  let loaded : State := loadJourney m (itemNumbers.foldl (loadItem m) (loadOdometer m s))
  let listening : State := { loaded with
    power := { loaded.power with mode := .starting .listen, startTimer := startFor s 250 } }
  have offers : OnlyIn [.service, .nsp] listening (finishLoad m s) :=
    OnlyIn.foldl (fun t i => offerRecord_item_only i t) itemNumbers listening
  rw [offers.journey (by decide), offers.faults (by decide)]
  refine ⟨rfl, fun damaged => ?_⟩
  change (_ || (loadHeader m).2 || _ || _) = true
  simp [damaged]

/-- The load ends with the header's last number and, when the header was damaged, the flag ST (05 R93). -/
theorem loadComplete_journey (ok : Bool) {s : State} (loading : s.power.mode = .starting .load) :
    ∃ t, exec (.loadComplete ok) s = .next t
      ∧ t.journey.lastNumber = (loadHeader (if ok then some s.nsp.memory else none)).1
      ∧ ((loadHeader (if ok then some s.nsp.memory else none)).2 = true → t.faults.store = true) := by
  refine ⟨if ok then completeLoad s else failLoad s, congrArg Host.Outcome.next (if_pos loading), ?_⟩
  cases ok
  · simp only [Bool.false_eq_true, if_false, failLoad]
    exact finishLoad_journey none _
  · simp only [if_true, completeLoad]
    exact finishLoad_journey (some s.nsp.memory) _

/-! ### Coils -/

/-- The quadrant of a field angle (02 TABLE 2-7). -/
theorem angleAt_quadrant (g : Gauge) (p : Nat) :
    angleAt g p / 256 = 0 ∨ angleAt g p / 256 = 1 ∨ angleAt g p / 256 = 2 ∨ angleAt g p / 256 = 3 := by
  unfold angleAt
  omega

/-- Duties and polarities of both coils by the quadrant (02 TABLE 2-7). -/
theorem coils_quadrant {theta q : Nat} (quadrant : theta / 256 = q) (four : q = 0 ∨ q = 1 ∨ q = 2 ∨ q = 3) :
    ((coilA theta).duty, (coilB theta).duty) =
        (if q % 2 = 0 then (waveAt (256 - theta % 256), waveAt (theta % 256))
          else (waveAt (theta % 256), waveAt (256 - theta % 256)))
      ∧ ((coilA theta).negative = true ↔ (coilA theta).duty ≠ 0 ∧ (q = 1 ∨ q = 2))
      ∧ ((coilB theta).negative = true ↔ (coilB theta).duty ≠ 0 ∧ (q = 2 ∨ q = 3)) := by
  unfold coilA coilB
  rw [quadrant]
  rcases four with rfl | rfl | rfl | rfl <;> exact ⟨rfl, by simp [coilDrive], by simp [coilDrive]⟩

/-- The coils of a gauge in a frame that began with the switch ON (02 R36, R37). -/
theorem frameCoils_on {f : PwmFrame} (on : f.on = true) (g : Gauge) :
    frameCoils f g = (coilA (angleAt g (framePosition f g)), coilB (angleAt g (framePosition f g))) := if_pos on

/-- A released coil's pin stays low (02 R37). -/
theorem coilPin_released {f : PwmFrame} (off : f.on = false) (g : Gauge) (step : Nat) :
    coilPin (frameCoils f g).1 step = false ∧ coilPin (frameCoils f g).2 step = false := by
  have released : frameCoils f g = (coilDrive 0 false, coilDrive 0 false) := if_neg (by simp [off])
  have low : coilPin (coilDrive 0 false) step = false := by
    unfold coilPin
    split
    · rfl
    · exact decide_eq_false (by change ¬ step ≤ 0; omega)
  rw [released]
  exact ⟨low, low⟩

/-- The entries of the quarter wave rise, table by table and from one to the next (02 R35). -/
theorem quarterWave_rises : quarterWave.IsChain (· ≤ ·) := by
  unfold quarterWave
  simp only [List.append_assoc, List.isChain_append]
  refine ⟨?_, ⟨?_, ⟨?_, ⟨?_, ⟨?_, ⟨?_, ⟨?_, ⟨?_, ?_, ?_⟩, ?_⟩, ?_⟩, ?_⟩, ?_⟩, ?_⟩, ?_⟩, ?_⟩ <;> decide

theorem quarterWave_length : quarterWave.length = 257 := by
  simp only [quarterWave, List.length_append]
  rfl

/-- The quarter wave rises (02 R35). -/
theorem waveAt_mono {k : Nat} (inside : k < 256) : waveAt k ≤ waveAt (k + 1) := by
  have long := quarterWave_length
  unfold waveAt
  rw [List.getD_eq_getElem _ _ (by omega), List.getD_eq_getElem _ _ (by omega)]
  exact List.isChain_iff_getElem.mp quarterWave_rises k (by omega)

theorem waveAt_last : waveAt 256 = 63 := by decide

/-- No command but the supply's loss and return changes the PWM frame in progress (02 R37). -/
theorem exec_frame (c : Instr) (s : State) (up : ∀ a b, c ≠ .standbySupplyUp a b)
    (loss : ∀ cut, c ≠ .standbySupplyLoss cut) :
    ∃ t, exec c s = .next t ∧ t.gauges.frame = s.gauges.frame ∧ ∀ g, gaugeCoils t g = gaugeCoils s g := by
  obtain ⟨t, carried, kept⟩ := exec_bounds c s up loss
  exact ⟨t, carried, kept.frame, fun g => congrArg (frameCoils · g) kept.frame⟩

/-! ### Lamps -/

/-- The entry's status holds its lamp unacknowledged, and the entry is one of those that flash (07 TABLE 7-2, R123). -/
def flashesLamp (s : State) (n : Nat) : Prop :=
  n ∈ [5, 7, 9, 11, 12, 21] ∧ ((warnEntry s n).status = .active
    ∨ ((warnEntry s n).status = .clearing ∧ (warnEntry s n).prior = .active))

theorem lampFlashes_iff {l n : Nat} (low : l < 12) (owner : n ∈ lampOwners.getD l []) :
    lampFlashes n = true ↔ n ∈ [5, 7, 9, 11, 12, 21] := by
  revert n
  revert l
  decide

theorem lampFlashing_iff {s : State} {l : Nat} (on : awake s = true) (low : l < 12)
    (proved : s.power.mode = .run → s.warn.provingTimer = none) :
    lampFlashing s l = true ↔ ∃ n ∈ lampOwners.getD l [], flashesLamp s n := by
  have unproved : provingLamps s = false := by
    unfold provingLamps
    by_cases run : s.power.mode = .run
    · simp [proved run, runs]
    · simp [run]
  simp only [lampFlashing, on, unproved, lampEntries_eq low, Bool.not_false, Bool.true_and, List.any_eq_true,
    Bool.and_eq_true]
  refine exists_congr fun n => and_congr_right fun owner => and_congr (lampFlashes_iff low owner) ?_
  simp [unacknowledged]

theorem lampOutput_asleep {s : State} {l : Nat} (asleep : awake s = false) : lampOutput s l = false := by
  simp [lampOutput, lampLit, asleep]

/-- While lamps are proved every lamp is driven, steady (07 R124). -/
theorem lampOutput_proving {s : State} {l : Nat} (run : s.power.mode = .run) (proving : s.warn.provingTimer ≠ none) :
    lampOutput s l = true := by
  have proved : provingLamps s = true := by simp [provingLamps, run, runs, Option.isSome_iff_ne_none, proving]
  simp [lampOutput, lampLit, lampFlashing, awake, run, proved]

/-- Outside lamp proving a lamp is driven by the entries that hold it, in the lit phase when one of them flashes it
(07 R123). -/
theorem lampOutput_iff {s : State} {l : Nat} (on : awake s = true) (low : l < 12)
    (proved : s.power.mode = .run → s.warn.provingTimer = none) : lampOutput s l = true ↔
      (∃ n ∈ lampOwners.getD l [], (warnEntry s n).status = .active ∨ (warnEntry s n).status = .noted
        ∨ (warnEntry s n).status = .clearing)
      ∧ ((∃ n ∈ lampOwners.getD l [], flashesLamp s n) → s.warn.flashLit = true) := by
  have unproved : ¬ (s.power.mode = .run ∧ s.warn.provingTimer ≠ none) := fun ⟨run, timer⟩ => timer (proved run)
  have phase : (!lampFlashing s l || s.warn.flashLit) = true ↔
      (lampFlashing s l = true → s.warn.flashLit = true) := by
    cases lampFlashing s l <;> simp
  rw [lampOutput, Bool.and_eq_true, phase, lampFlashing_iff on low proved, lampLit_iff on low,
    or_iff_right unproved]

/-! ### Chime -/

/-- The tone of an element (08 R128). -/
def elementTone (e : Element × Nat) : Option Nat :=
  match e.1 with
  | .high => some 2048
  | .low => some 4096
  | .gap => none

theorem chimeOutput_silent {s : State} (silent : awake s = false ∨ s.power.dip = true ∨ soundingRequest s = none) :
    chimeOutput s = none := by
  unfold chimeOutput
  rcases silent with asleep | dip | none_
  · rw [if_neg (by simp [asleep])]
  · rw [if_neg (by simp [dip])]
  · rw [none_]
    exact ite_self _

theorem chimeOutput_sounding {s : State} {r : ChimeRequest} (on : awake s = true) (steady : s.power.dip = false)
    (sounding : soundingRequest s = some r) :
    chimeOutput s = ((patternElements r.pattern).map elementTone).getD s.chime.element none := by
  have tone : chimeOutput s = elementTone (elementAt r.pattern s.chime.element) := by
    unfold chimeOutput
    rw [if_pos (by simp [on, steady]), sounding]
    rfl
  rw [tone, elementAt]
  exact (List.getD_map (patternElements r.pattern) (.gap, trailingGap r.pattern) elementTone).symm

/-! ### Lines -/

/-- The bits of an operation as the receiving end takes them (11 R165). -/
theorem takenBits_storeOperation (bytes : List (Byte × Bool)) :
    takenBits true (storeOperation bytes) = operationBits bytes ++ [false] := by
  have started : takenBits true (storeOperation bytes) = takenBits true
      (clockBits false (operationBits bytes) ++ stopMarker ((operationBits bytes).getLastD false)) := by
    rw [storeOperation, List.append_assoc]
    rfl
  rw [started, takenBits_clockBits]
  exact congrArg _ (by split <;> rfl)

theorem dataSteady_clockBits (bits : List Bool) (clock before : Bool) :
    dataSteady ⟨clock, before⟩ (clockBits before bits) = true := by
  induction bits generalizing clock before with
  | nil => rfl
  | cons b bs ih => cases clock <;> simp [clockBits, clockBit, dataSteady, ih]

theorem takenBits_imageTransfer (i : Image) :
    takenBits false ((imageTransfer i).map (fun l => l.lines)) = (imageBytes i).flatMap bitsOf := by
  have levels : (imageTransfer i).map (fun l => l.lines) = clockBits false (imageBits i)
      ++ [⟨false, (imageBits i).getLastD false⟩, ⟨false, false⟩, ⟨false, false⟩, ⟨false, false⟩] := by
    simp [imageTransfer, portRest, Function.comp_def]
  rw [levels, takenBits_clockBits]
  exact List.append_nil _

theorem imageTransfer_ends (i : Image) : (imageTransfer i).getLast? = some portRest
    ∧ ((imageTransfer i).filter (fun l => l.load)).length = 1 := by
  constructor
  · simp [imageTransfer]
  · simp [imageTransfer, portRest, List.filter_append]

end Sys2Proof.Machine

open Sys2Proof Sys2Proof.Machine

/-- Settles O60: the formula of each figure and of each line, and `exec_frame` for the frame in progress. -/
theorem figuresFollowTheirFormulas : Obligations.FiguresFollowTheirFormulas := by
  refine ⟨fun g c => by cases g <;> rfl, fun t => rfl, avgEconomy_eq, fun t => rfl, fun s => readoutChars_economy,
    fun s => readoutChars_speed, testTrue_mask, loadHeader_some, rfl, fun ok s loading => ?_⟩
  obtain ⟨t, carried, number, damaged⟩ := loadComplete_journey ok loading
  refine ⟨t, carried, number, damaged, fun s => rfl, fun s => readoutChars_range, fun f g on => ?_,
    fun f g step off => coilPin_released off g step, fun d => ⟨rfl, fun step driven => if_neg (by omega)⟩,
    fun k => waveAt_mono, rfl, waveAt_last, exec_frame, fun s lamp low => ?_, fun s => ?_, fun bytes => ?_,
    fun i => ⟨takenBits_imageTransfer i, imageTransfer_ends i⟩⟩
  · rw [frameCoils_on on]
    exact coils_quadrant rfl (angleAt_quadrant g _)
  · exact ⟨lampOutput_asleep, lampOutput_proving, fun on proved => lampOutput_iff on low proved⟩
  · refine ⟨chimeOutput_silent, fun r on steady sounding => ?_, rfl⟩
    rw [chimeOutput_sounding on steady sounding]
    cases r.pattern <;> rfl
  · exact ⟨takenBits_storeOperation bytes, dataSteady_clockBits _ _ _⟩
end

section
/-! PROOFS. Fuel estimation: the bounds of samples and averages (03 R43 to R45), the correction step as one equation of
the fuel unit (03 R47 to R52), and the statement about it (O50). -/

namespace Sys2Proof.Machine

/-! ### Samples and averages -/

/-- A calibrated volume lies between two points of its curve, so below any bound of them all. -/
theorem calibrate_le {points : List Nat} {top : Nat} (within : ∀ p ∈ points, p ≤ top) (raw : Nat) :
    calibrate points raw ≤ top := by
  have point : ∀ i, points.getD i 0 ≤ top := fun i => by
    by_cases reach : i < points.length
    · rw [List.getD_eq_getElem _ _ reach]
      exact within _ (List.getElem_mem reach)
    · rw [List.getD_eq_default _ _ (Nat.le_of_not_lt reach)]
      exact Nat.zero_le top
  have first := point (raw / 32)
  have second := point (raw / 32 + 1)
  unfold calibrate
  generalize points.getD (raw / 32) 0 = p at first
  generalize points.getD (raw / 32 + 1) 0 = q at second
  have part : (q - p) * (raw % 32) / 32 ≤ q - p :=
    Nat.div_le_of_le_mul ((Nat.mul_le_mul_left _ (Nat.mod_lt raw (by decide)).le).trans_eq (Nat.mul_comm _ _))
  omega

theorem ringAverage_le {ring : List Nat} {top : Nat} (within : ∀ v ∈ ring, v ≤ top) : ringAverage ring ≤ top :=
  Nat.div_le_of_le_mul (List.sum_le_card_nsmul ring top within)

/-! ### The main filter step -/

/-- The main filter step, as the manual writes it: its clamp never acts (03 R48). -/
theorem filterMain_eq {capacity m average : Nat} (weight : Nat) (estimate : m ≤ capacity)
    (target : average ≤ capacity) :
    filterMain capacity weight m average =
      if m < average then m + max 1 ((average - m) / weight)
      else if average < m then m - max 1 ((m - average) / weight)
      else m := by
  unfold filterMain clampInt
  split
  · have up : ((average : Int) - m) = ((average - m : Nat) : Int) := by omega
    have small : (average - m) / weight ≤ average - m := Nat.div_le_self _ _
    rw [up, filterStep_natCast weight (by omega)]
    omega
  · split
    · have down : ((average : Int) - m) = -((m - average : Nat) : Int) := by omega
      have small : (m - average) / weight ≤ m - average := Nat.div_le_self _ _
      rw [down, filterStep_neg, filterStep_natCast weight (by omega)]
      omega
    · have still : ((average : Int) - m) = 0 := by omega
      rw [still, filterStep_zero]
      omega

theorem filterMain_le (capacity weight m average : Nat) : filterMain capacity weight m average ≤ capacity := by
  have range := clampInt_range (lo := 0) (hi := capacity)
    ((m : Int) + filterStep ((average : Int) - m) weight) (by omega)
  unfold filterMain
  omega

/-! ### The correction step -/

/-- M after the main filter step (03 R48). -/
def filteredMain (s : State) : Option Nat :=
  if 4 ≤ s.fuel.mainRing.length then
    s.fuel.mainEst.map fun m =>
      filterMain (tankSpec s.straps.variant).mainCapacity (filterWeight s) m (ringAverage s.fuel.mainRing)
  else s.fuel.mainEst

/-- M after a correction step: snapped to the average, or filtered toward it (03 R47, R52). -/
def correctedMain (s : State) : Option Nat :=
  if snaps s then some (ringAverage s.fuel.mainRing) else filteredMain s

/-- X after a correction step (03 R50). -/
def correctedAux (s : State) : Option Nat :=
  if (tankSpec s.straps.variant).aux.isSome && 4 ≤ s.fuel.auxRing.length then some (ringAverage s.fuel.auxRing)
  else s.fuel.auxEst

theorem filterMainStep_fuel (s : State) : (filterMainStep s).fuel = { s.fuel with mainEst := filteredMain s } := by
  unfold filterMainStep filteredMain
  split
  · rename_i m estimate
    split
    · rw [estimate]
      rfl
    · rfl
  · rename_i undefined
    rw [undefined, Option.map_none, ite_self, ← undefined]

theorem correctMain_fuel (s : State) : (correctMain s).fuel = { s.fuel with
    mainEst := correctedMain s
    snapPending := s.fuel.snapPending && decide (s.fuel.mainRing.length ≠ 16) } := by
  let corrected : State :=
    if snaps s then { s with fuel := { s.fuel with mainEst := some (ringAverage s.fuel.mainRing) } }
    else filterMainStep s
  have fuel : corrected.fuel = { s.fuel with mainEst := correctedMain s } := by
    dsimp only [corrected]
    unfold correctedMain
    split
    · rfl
    · exact filterMainStep_fuel s
  have step : (correctMain s).fuel = if s.fuel.mainRing.length = 16 then { corrected.fuel with snapPending := false }
      else corrected.fuel := apply_ite State.fuel _ _ _
  rw [step, fuel]
  split <;> simp [*]

theorem correctionStep_fuel (s : State) : (correctionStep s).fuel = { s.fuel with
    mainEst := correctedMain s
    auxEst := correctedAux s
    snapPending := s.fuel.snapPending && decide (s.fuel.mainRing.length ≠ 16) } := by
  have straps : (correctMain s).straps = s.straps := (correctMain_only s).straps (by decide)
  unfold correctionStep correctAux correctedAux
  rw [correctMain_fuel, straps]
  split
  · rfl
  · exact correctMain_fuel s

/-- What the correction timer does to the fuel unit (03 R47). -/
theorem correctionPeriod_fuel (s : State) : (correctionPeriod s).fuel =
    if s.power.dip then { s.fuel with corrTimer := some (s.now + 1000) }
    else { s.fuel with
      corrTimer := some (s.now + 1000)
      mainEst := correctedMain s
      auxEst := correctedAux s
      snapPending := s.fuel.snapPending && decide (s.fuel.mainRing.length ≠ 16) } := by
  unfold correctionPeriod
  dsimp only
  split
  · rfl
  · exact correctionStep_fuel _

theorem correctionPeriod_only (s : State) : OnlyIn [.fuel] s (correctionPeriod s) :=
  .ite (only_fuel s _) ((only_fuel s _).trans (correctionStep_only _))

/-! ### The estimates after a step -/

/-- The snap test before the estimate is looked at (03 R52). -/
def snapTested (s : State) : Prop :=
  s.fuel.mainRing.length = 16 ∧ (s.fuel.snapPending = true ∨ s.fuel.standstill = true ∨ doorOpen s = true)

theorem snaps_iff {s : State} :
    snaps s = true ↔ snapTested s ∧ ∀ m ∈ s.fuel.mainEst, m + 50 < ringAverage s.fuel.mainRing := by
  have snap : snaps s = (decide (s.fuel.mainRing.length = 16)
      && (s.fuel.snapPending || s.fuel.standstill || doorOpen s)
      && s.fuel.mainEst.all fun m => decide (m + 50 < ringAverage s.fuel.mainRing)) := by
    unfold snaps
    cases s.fuel.mainEst <;> rfl
  rw [snap, snapTested]
  simp only [Bool.and_eq_true, Bool.or_eq_true, decide_eq_true_eq, Option.all_eq_true, Option.mem_def, or_assoc]

theorem correctedMain_snap {s : State} (tested : snapTested s)
    (below : ∀ m ∈ s.fuel.mainEst, m + 50 < ringAverage s.fuel.mainRing) :
    correctedMain s = some (ringAverage s.fuel.mainRing) := if_pos (snaps_iff.mpr ⟨tested, below⟩)

/-- Without a snap an undefined M stays undefined. -/
theorem correctedMain_undefined {s : State} (untested : ¬ snapTested s) (undefined : s.fuel.mainEst = none) :
    correctedMain s = none := by
  have no : ¬ snaps s = true := fun snap => untested (snaps_iff.mp snap).1
  rw [correctedMain, if_neg no, filteredMain, undefined]
  exact ite_self _

theorem correctedMain_filter {s : State} {m : Nat} (estimate : s.fuel.mainEst = some m)
    (no : ¬ (snapTested s ∧ m + 50 < ringAverage s.fuel.mainRing)) (usable : 4 ≤ s.fuel.mainRing.length) :
    correctedMain s = some (filterMain (tankSpec s.straps.variant).mainCapacity (filterWeight s) m
      (ringAverage s.fuel.mainRing)) := by
  have stays : ¬ snaps s = true := fun snap => no (by
    obtain ⟨tested, below⟩ := snaps_iff.mp snap
    exact ⟨tested, below m estimate⟩)
  rw [correctedMain, if_neg stays, filteredMain, if_pos usable, estimate]
  rfl

/-- An unusable main ring leaves M. -/
theorem correctedMain_few {s : State} (few : s.fuel.mainRing.length < 4) : correctedMain s = s.fuel.mainEst := by
  have no : ¬ snaps s = true := fun snap => by
    have full := (snaps_iff.mp snap).1.1
    omega
  rw [correctedMain, if_neg no, filteredMain, if_neg (by omega)]

theorem tankSpec_aux_isSome (variant : BitVec 2) : (tankSpec variant).aux.isSome = decide (variant ≠ 0) := by
  revert variant
  decide

theorem correctedAux_average {s : State} (tank : s.straps.variant ≠ 0) (usable : 4 ≤ s.fuel.auxRing.length) :
    correctedAux s = some (ringAverage s.fuel.auxRing) := by
  rw [correctedAux, tankSpec_aux_isSome, decide_eq_true tank]
  exact if_pos (by simpa using usable)

theorem correctedAux_kept {s : State} (without : s.straps.variant = 0 ∨ s.fuel.auxRing.length < 4) :
    correctedAux s = s.fuel.auxEst := by
  unfold correctedAux
  rw [tankSpec_aux_isSome]
  rcases without with none_ | few
  · simp [none_]
  · simp [Nat.not_le.mpr few]

/-! ### Samples and estimates within their tanks -/

/-- The samples and estimates lie within the tanks of a body variant (03 R43, R44, R50). -/
structure TanksWithin (variant : BitVec 2) (f : Fuel) : Prop where
  mainRing : ∀ v ∈ f.mainRing, v ≤ (tankSpec variant).mainCapacity
  mainEst : ∀ v ∈ f.mainEst, v ≤ (tankSpec variant).mainCapacity
  auxRing : ∀ v ∈ f.auxRing, withinAux variant v = true
  auxEst : ∀ v ∈ f.auxEst, withinAux variant v = true

/-- No sample is held and no estimate defined. -/
structure TanksUnknown (f : Fuel) : Prop where
  mainRing : f.mainRing = []
  mainEst : f.mainEst = none
  auxRing : f.auxRing = []
  auxEst : f.auxEst = none

theorem fuelWithin_iff {s : State} : fuelWithin s = true ↔
    TanksWithin s.straps.variant s.fuel ∧ (strapped s = true ∨ TanksUnknown s.fuel) := by
  simp only [fuelWithin, Bool.and_eq_true, Bool.or_eq_true, List.all_eq_true, Option.all_eq_true, decide_eq_true_eq,
    List.isEmpty_iff, Option.isNone_iff_eq_none]
  constructor
  · rintro ⟨⟨⟨⟨mainRing, mainEst⟩, auxRing⟩, auxEst⟩, known⟩
    exact ⟨⟨mainRing, mainEst, auxRing, auxEst⟩, known.imp id fun ⟨⟨⟨mr, ar⟩, me⟩, ae⟩ => ⟨mr, me, ar, ae⟩⟩
  · rintro ⟨⟨mainRing, mainEst, auxRing, auxEst⟩, known⟩
    exact ⟨⟨⟨⟨mainRing, mainEst⟩, auxRing⟩, auxEst⟩, known.imp id fun ⟨mr, me, ar, ae⟩ => ⟨⟨⟨mr, ar⟩, me⟩, ae⟩⟩

end Sys2Proof.Machine

open Sys2Proof Sys2Proof.Machine

/-- Settles O50: the step as one equation of the fuel unit, the snap by its test, the filter by `filterMain_eq`. -/
theorem correctionMovesTheEstimate : Obligations.CorrectionMovesTheEstimate := by
  intro s on within average test weight
  have fuel : (settled (correctionPeriod s)).fuel = _ := (settled_fuel _).trans (correctionPeriod_fuel s)
  have steps : s.power.dip = false → (settled (correctionPeriod s)).fuel = _ := fun steady =>
    fuel.trans (if_neg (by simp [steady]))
  have tanks := (fuelWithin_iff.mp within).1
  refine ⟨settled (correctionPeriod s), congrArg _ (ite_running on), ?_, fun dip => ?_, fun steady tested undefined => ?_,
    fun untested undefined => ?_, fun steady m estimate => ⟨fun tested below => ?_, fun no usable => ?_⟩,
    fun few => ?_, fun steady => ?_, fun steady tank usable => ?_, fun without => ?_, ?_⟩
  · rw [fuel]
    split <;> rfl
  · rw [fuel, if_pos dip]
  · rw [steps steady]
    exact correctedMain_snap tested (by simp [undefined])
  · rw [fuel]
    split
    · exact undefined
    · exact correctedMain_undefined untested undefined
  · rw [steps steady]
    exact correctedMain_snap tested fun x hx => by
      cases estimate.symm.trans hx
      exact below
  · rw [steps steady]
    exact (correctedMain_filter estimate no usable).trans (congrArg some
      (filterMain_eq weight (tanks.mainEst m estimate) (ringAverage_le tanks.mainRing)))
  · rw [fuel]
    split
    · rfl
    · exact correctedMain_few few
  · rw [steps steady]
  · rw [steps steady]
    exact correctedAux_average tank usable
  · rw [fuel]
    split
    · rfl
    · exact correctedAux_kept without
  · exact ((correctionPeriod_only s).mono (by decide)).settled (by decide) (by decide)
end

section
/-! PROOFS. TANK arrivals: what the samples and the pump do to the fuel unit (03 R43, R44, R55, R58), and the statement
about them (O34). -/

namespace Sys2Proof.Machine

/-! ### Samples -/

/-- A valid sender slot of a READY report gives its volume outside a dip (03 R44). -/
theorem senderSample_valid {s : State} {ready : Bool} {v : Word} (points : List Nat) (on : ready = true)
    (low : v.toNat ≤ 255) (steady : s.power.dip = false) :
    senderSample s ready points (some v) = some (calibrate points v.toNat) := by
  simp [senderSample, on, low, steady]

/-- With READY clear or in a dip no slot gives a volume. -/
theorem senderSample_none {s : State} {ready : Bool} (points : List Nat) (slot : Slot)
    (without : ready = false ∨ s.power.dip = true) : senderSample s ready points slot = none := by
  cases slot <;> rcases without with off | dip <;> simp [senderSample, *]

theorem sampleMain_some {s : State} {ready : Bool} {slot : Slot} {v : Nat}
    (sample : senderSample s ready (mainCurve s.straps.variant) slot = some v) : sampleMain ready slot s =
      { s with fuel := { s.fuel with mainRing := pushRing 16 s.fuel.mainRing v, senderWatch := 0 } } := by
  rw [sampleMain, sample]
  rfl

theorem sampleMain_none {s : State} {ready : Bool} {slot : Slot}
    (nothing : senderSample s ready (mainCurve s.straps.variant) slot = none) : sampleMain ready slot s = s := by
  rw [sampleMain, nothing]

theorem sampleAux_some {s : State} {ready : Bool} {slot : Slot} {points : List Nat} {v : Nat}
    (tank : auxCurve s.straps.variant = some points) (sample : senderSample s ready points slot = some v) :
    sampleAux ready slot s = { s with fuel := { s.fuel with auxRing := pushRing 16 s.fuel.auxRing v } } := by
  simp only [sampleAux, tank, sample]
  rfl

theorem sampleAux_none {s : State} {ready : Bool} {slot : Slot}
    (nothing : ∀ points, auxCurve s.straps.variant = some points → senderSample s ready points slot = none) :
    sampleAux ready slot s = s := by
  unfold sampleAux
  split
  · rename_i points tank
    rw [nothing points tank]
  · rfl

theorem sampleMain_fuel (ready : Bool) (slot : Slot) (s : State) : (sampleMain ready slot s).fuel = { s.fuel with
    mainRing := (sampleMain ready slot s).fuel.mainRing
    senderWatch := (sampleMain ready slot s).fuel.senderWatch } := by
  unfold sampleMain
  split <;> rfl

theorem sampleAux_fuel (ready : Bool) (slot : Slot) (s : State) : (sampleAux ready slot s).fuel =
    { s.fuel with auxRing := (sampleAux ready slot s).fuel.auxRing } := by
  unfold sampleAux
  split
  · split <;> rfl
  · rfl

/-! ### The pump -/

theorem followPump_fuel (s : State) : (followPump s).fuel = { s.fuel with
    pumpTimer := (followPump s).fuel.pumpTimer
    pumpLong := (followPump s).fuel.pumpLong } := by
  unfold followPump
  split
  · split <;> rfl
  · rfl

/-- The first report of the pump running starts its timer, where there is an auxiliary tank (03 R55). -/
theorem followPump_starts {s : State} (tank : s.straps.variant ≠ 0) (pumping : pumpRuns s = true)
    (stopped : s.fuel.pumpTimer = none) (short : s.fuel.pumpLong = false) :
    (followPump s).fuel.pumpTimer = some (s.now + 30000) := by
  have watched : ((tankSpec s.straps.variant).aux.isSome && pumpRuns s) = true := by
    rw [tankSpec_aux_isSome, decide_eq_true tank, pumping]
    rfl
  rw [followPump, if_pos watched, if_neg (by simp [runs, stopped, short])]
  rfl

theorem followPump_stops {s : State} (still : pumpRuns s = false) :
    (followPump s).fuel.pumpTimer = none ∧ (followPump s).fuel.pumpLong = false := by
  rw [followPump, if_neg (by simp [still])]
  exact ⟨rfl, rfl⟩

/-- After an accepted TANK report the pump runs as its flags say (03 R49). -/
theorem pumpRuns_accepted {s t : State} {h : Heard} (entry : entryIn t .tank = acceptedEntry s .tank h) :
    pumpRuns t = (slotAt h.slots 3).any fun v => v.getLsbD 0 := by
  have flags : slotAt (acceptedEntry s .tank h).slots 3 = slotAt h.slots 3 :=
    slotAt_padded h.slots (by decide) (by decide)
  have heard : freshSlot t .tank 3 = slotAt h.slots 3 := by
    rw [freshSlot, entry, flags]
    rfl
  rw [pumpRuns, tankFlag, heard]
  cases slotAt h.slots 3 <;> rfl

/-! ### The arrival -/

/-- The state with an accepted TANK arrival in its report entry. -/
def tankBound (h : Heard) (s : State) : State :=
  { s with bus := setEntry .tank (acceptedEntry s .tank h) s.bus }

/-- The state with the sender slots of an accepted TANK arrival in its rings. -/
def tankSampled (h : Heard) (s : State) : State :=
  sampleAux h.ready (slotAt h.slots 2) (sampleMain h.ready (slotAt h.slots 1) (tankBound h s))

theorem acceptArrival_tank (h : Heard) (s : State) : acceptArrival .tank h s = followPump (tankSampled h s) := rfl

theorem tankSampled_only (h : Heard) (s : State) : OnlyIn [.bus, .fuel] s (tankSampled h s) :=
  ((only_bus s _).mono (by decide)).trans
    (((sampleMain_only _ _ _).trans (sampleAux_only _ _ _)).mono (by decide))

theorem pumpRuns_tankSampled (h : Heard) (s : State) :
    pumpRuns (tankSampled h s) = (slotAt h.slots 3).any fun v => v.getLsbD 0 := by
  have bus : (tankSampled h s).bus = setEntry .tank (acceptedEntry s .tank h) s.bus :=
    ((sampleAux_only _ _ _).bus (by decide)).trans ((sampleMain_only _ _ _).bus (by decide))
  refine pumpRuns_accepted (s := s) ?_
  rw [entryIn, bus, entryOf_setEntry_same]

/-- The rings after an arrival whose main slot gives a sample. -/
theorem tankSampled_main {h : Heard} {s : State} {v : Word} (slot : slotAt h.slots 1 = some v)
    (ready : h.ready = true) (low : v.toNat ≤ 255) (steady : s.power.dip = false) :
    (tankSampled h s).fuel.mainRing = pushRing 16 s.fuel.mainRing (calibrate (mainCurve s.straps.variant) v.toNat)
      ∧ (tankSampled h s).fuel.senderWatch = 0 := by
  rw [tankSampled, sampleAux_fuel, slot,
    sampleMain_some (s := tankBound h s) (senderSample_valid _ ready low steady)]
  exact ⟨rfl, rfl⟩

theorem tankSampled_aux {h : Heard} {s : State} {v : Word} {points : List Nat} (slot : slotAt h.slots 2 = some v)
    (tank : auxCurve s.straps.variant = some points) (ready : h.ready = true) (low : v.toNat ≤ 255)
    (steady : s.power.dip = false) :
    (tankSampled h s).fuel.auxRing = pushRing 16 s.fuel.auxRing (calibrate points v.toNat) := by
  have only := sampleMain_only h.ready (slotAt h.slots 1) (tankBound h s)
  have straps : (sampleMain h.ready (slotAt h.slots 1) (tankBound h s)).straps = s.straps := only.straps (by decide)
  have power : (sampleMain h.ready (slotAt h.slots 1) (tankBound h s)).power = s.power := only.power (by decide)
  rw [tankSampled, slot, sampleAux_some (by rw [straps, tank])
    (senderSample_valid points ready low (by rw [power, steady])), sampleMain_fuel]
  rfl

theorem tankSampled_unready {h : Heard} {s : State} (without : h.ready = false ∨ s.power.dip = true) :
    (tankSampled h s).fuel = s.fuel := by
  have unsampled := sampleMain_none (s := tankBound h s) (senderSample_none _ (slotAt h.slots 1) without)
  rw [tankSampled, unsampled,
    sampleAux_none (s := tankBound h s) fun points _ => senderSample_none points _ without]
  rfl

theorem tankSampled_fuel (h : Heard) (s : State) : (tankSampled h s).fuel = { s.fuel with
    mainRing := (tankSampled h s).fuel.mainRing
    auxRing := (tankSampled h s).fuel.auxRing
    senderWatch := (tankSampled h s).fuel.senderWatch } := by
  rw [tankSampled, sampleAux_fuel, sampleMain_fuel]
  rfl

end Sys2Proof.Machine

open Sys2Proof Sys2Proof.Machine

/-- Settles O34: the arrival is accepted, its slots are sampled, and the pump is followed as its flags say. -/
theorem tankArrivalFeedsItsRings : Obligations.TankArrivalFeedsItsRings := by
  intro h s heard accepted whole
  have station := (heardBy_iff.mp heard).2.1
  have dip : (noteHeard h s).power.dip = s.power.dip := by rw [noteHeard_power]
  have only := tankSampled_only h (noteHeard h s)
  have straps : (tankSampled h (noteHeard h s)).straps = s.straps :=
    (only.straps (by decide)).trans (noteHeard_straps h s)
  have now : (tankSampled h (noteHeard h s)).now = s.now := only.now.trans (noteHeard_now h s)
  have before := tankSampled_fuel h (noteHeard h s)
  have pumping := pumpRuns_tankSampled h (noteHeard h s)
  rw [noteHeard_fuel] at before
  refine ⟨_, exec_reportArrival_heard heard, ?_⟩
  have frame := reportArrival_only .tank h s
  have fuel : (settled (offerReport .tank h (noteHeard h s))).fuel
      = (followPump (tankSampled h (noteHeard h s))).fuel := by
    rw [settled_fuel, offerReport_accept (offerDecision_accepted whole station accepted), acceptArrival_tank]
  rw [fuel]
  refine ⟨fun v slot ready low steady => ?_, fun v slot points tank ready low steady => ?_, fun without => ?_,
    fun v slot running tank stopped short => ?_, fun still => ?_, ?_, ?_, frame⟩
  · rw [followPump_fuel]
    simpa using tankSampled_main (s := noteHeard h s) slot ready low (dip.trans steady)
  · rw [followPump_fuel]
    simpa using tankSampled_aux (s := noteHeard h s) slot (by simpa using tank) ready low (dip.trans steady)
  · rw [followPump_fuel, tankSampled_unready (without.imp id dip.trans), noteHeard_fuel]
    exact ⟨rfl, rfl, rfl⟩
  · rw [← now]
    refine followPump_starts (by rwa [straps]) ?_ (by rw [before, stopped]) (by rw [before, short])
    rw [pumping, slot]
    exact running
  · refine followPump_stops ?_
    rw [pumping]
    cases flags : slotAt h.slots 3 with
    | none => rfl
    | some v => exact still v flags
  · rw [followPump_fuel, before]
  · rw [followPump_fuel, before]
end

section
/-! PROOFS. Fuel within capacity: the tables of the tanks, the relation of two states that keeps samples and estimates
within them, and what the operations do to it (03 R42 to R53, R59). -/

namespace Sys2Proof.Machine

/-! ### The tables of the tanks -/

theorem mainCurve_le (variant : BitVec 2) : ∀ p ∈ mainCurve variant, p ≤ (tankSpec variant).mainCapacity := by
  revert variant
  decide

/-- A variant with an auxiliary curve has the tank, and the curve ends at its capacity (03 TABLES 3-1, 3-3). -/
theorem auxCurve_tank {variant : BitVec 2} {points : List Nat} (curve : auxCurve variant = some points) :
    ∃ tank, (tankSpec variant).aux = some tank ∧ ∀ p ∈ points, p ≤ tank.1 := by
  have all : ∀ variant : BitVec 2, ∀ points ∈ auxCurve variant,
      (tankSpec variant).aux.any (fun tank => points.all fun p => p ≤ tank.1) = true := by decide
  obtain ⟨tank, spec, within⟩ := (Option.any_eq_true ..).mp (all variant points curve)
  exact ⟨tank, spec, by simpa using within⟩

theorem withinAux_iff {variant : BitVec 2} {v : Nat} :
    withinAux variant v = true ↔ ∃ tank, (tankSpec variant).aux = some tank ∧ v ≤ tank.1 := by
  unfold withinAux
  cases (tankSpec variant).aux <;> simp

/-- A value within the auxiliary tank lies within that tank's capacity. -/
theorem withinAux_le {variant : BitVec 2} {v : Nat} {tank : Nat × Nat} (within : withinAux variant v = true)
    (spec : (tankSpec variant).aux = some tank) : v ≤ tank.1 := by
  obtain ⟨tank', spec', low⟩ := withinAux_iff.mp within
  cases spec.symm.trans spec'
  exact low

/-- The usable fuel lies within the usable capacity (03 R42, R53). -/
theorem usableFuel_le {s : State} {u : Nat} (tanks : TanksWithin s.straps.variant s.fuel)
    (defined : usableFuel s = some u) : u ≤ usableCapacity s.straps.variant := by
  unfold usableFuel at defined
  unfold usableCapacity
  split at defined
  · cases defined
  · rename_i m estimate
    cases defined
    refine Nat.add_le_add (Nat.sub_le_sub_right (tanks.mainEst m estimate) _) ?_
    cases tank : (tankSpec s.straps.variant).aux with
    | none => exact Nat.zero_le _
    | some spec =>
      cases auxEstimate : s.fuel.auxEst with
      | none => exact Nat.zero_le _
      | some x => exact Nat.sub_le_sub_right (withinAux_le (tanks.auxEst x auxEstimate) tank) _

/-! ### The relation -/

/-- What a change of the fuel unit must keep: samples and estimates within the tanks, and a unit that knows nothing
of them stays so. -/
structure TanksKept (variant : BitVec 2) (f g : Fuel) : Prop where
  within : TanksWithin variant f → TanksWithin variant g
  unknown : TanksUnknown f → TanksUnknown g

theorem TanksKept.of_same {variant : BitVec 2} {f g : Fuel} (mainRing : g.mainRing = f.mainRing)
    (mainEst : g.mainEst = f.mainEst) (auxRing : g.auxRing = f.auxRing) (auxEst : g.auxEst = f.auxEst) :
    TanksKept variant f g := by
  constructor
  · exact fun ⟨mr, me, ar, ae⟩ => ⟨mainRing ▸ mr, mainEst ▸ me, auxRing ▸ ar, auxEst ▸ ae⟩
  · exact fun ⟨mr, me, ar, ae⟩ => ⟨mainRing.trans mr, mainEst.trans me, auxRing.trans ar, auxEst.trans ae⟩

/-- The samples and estimates within the tanks of `s` are so in `t`, and there are none before the straps are
sampled. -/
def FuelKept (s t : State) : Prop := fuelWithin s = true → fuelWithin t = true

theorem FuelKept.refl (s : State) : FuelKept s s := id

theorem FuelKept.trans {s t u : State} (h : FuelKept s t) (k : FuelKept t u) : FuelKept s u := k ∘ h

theorem FuelKept.ite {c : Prop} [Decidable c] {s t u : State} (h : FuelKept s t) (k : FuelKept s u) :
    FuelKept s (if c then t else u) := by
  split <;> assumption

theorem FuelKept.foldl {α : Type} {f : State → α → State} (h : ∀ t a, FuelKept t (f t a)) :
    ∀ (l : List α) (s : State), FuelKept s (l.foldl f s)
  | [], s => .refl s
  | a :: rest, s => (h s a).trans (FuelKept.foldl h rest (f s a))

theorem strapped_congr {s t : State} (mode : t.power.mode = s.power.mode) : strapped t = strapped s := by
  simp only [strapped, mode]

section
variable {bs : List Block} {s t : State}

/-- A change of the fuel unit that keeps the tanks, with the straps as they were and sampled still. -/
theorem FuelKept.of_tanks (straps : t.straps = s.straps) (on : strapped s = true → strapped t = true)
    (tanks : TanksKept s.straps.variant s.fuel t.fuel) : FuelKept s t := fun h => by
  obtain ⟨within, known⟩ := fuelWithin_iff.mp h
  exact fuelWithin_iff.mpr ⟨straps ▸ tanks.within within, known.imp on tanks.unknown⟩

theorem FuelKept.of_fuel (only : OnlyIn bs s t) (free : .straps ∉ bs ∧ .power ∉ bs)
    (tanks : TanksKept s.straps.variant s.fuel t.fuel) : FuelKept s t := by
  obtain ⟨straps, power⟩ := free
  refine .of_tanks (only.straps straps) (fun on => ?_) tanks
  rw [strapped_congr (congrArg Power.mode (only.power power)), on]

theorem FuelKept.of_power (only : OnlyIn bs s t) (free : .straps ∉ bs ∧ .fuel ∉ bs)
    (on : strapped s = true → strapped t = true) : FuelKept s t := by
  obtain ⟨straps, fuel⟩ := free
  refine .of_tanks (only.straps straps) on ?_
  rw [only.fuel fuel]
  exact ⟨id, id⟩

/-- An operation that leaves the straps, the power unit and the fuel unit keeps the fuel. -/
theorem FuelKept.of_only (only : OnlyIn bs s t) (free : .straps ∉ bs ∧ .power ∉ bs ∧ .fuel ∉ bs) :
    FuelKept s t := by
  obtain ⟨straps, power, fuel⟩ := free
  refine .of_power only ⟨straps, fuel⟩ fun on => ?_
  rw [strapped_congr (congrArg Power.mode (only.power power)), on]

/-- What the warnings reach of the fuel unit is the transfer stop timer. -/
theorem FuelKept.of_warned (only : OnlyIn warnBlocks s t) (kept : CountersKept s t) : FuelKept s t := by
  refine .of_fuel only (by decide) ?_
  rw [kept.fuel]
  exact .of_same rfl rfl rfl rfl

/-- Samples come once the straps are sampled. -/
theorem FuelKept.of_sampled (sampled : strapped s = true) (only : OnlyIn [.fuel] s t)
    (within : TanksWithin s.straps.variant s.fuel → TanksWithin s.straps.variant t.fuel) : FuelKept s t := fun h => by
  have straps : t.straps = s.straps := only.straps (by decide)
  have mode : t.power.mode = s.power.mode := congrArg Power.mode (only.power (by decide))
  refine fuelWithin_iff.mpr ⟨straps ▸ within (fuelWithin_iff.mp h).1, .inl ?_⟩
  rw [strapped_congr mode, sampled]

end

theorem settled_fuelKept (s : State) : FuelKept s (settled s) :=
  .of_power (settled_only s) (by decide) fun on => by rw [strapped_congr (settled_mode s), on]

theorem FuelKept.settled {s t : State} (h : FuelKept s t) : FuelKept s (settled t) := h.trans (settled_fuelKept t)

/-! ### Samples -/

/-- A volume of the sender is that of its curve at some raw value. -/
theorem senderSample_volume {s : State} {ready : Bool} {points : List Nat} {slot : Slot} {v : Nat}
    (sample : senderSample s ready points slot = some v) : ∃ raw, v = calibrate points raw := by
  unfold senderSample at sample
  split at sample
  · rename_i raw
    split at sample <;> cases sample
    exact ⟨raw.toNat, rfl⟩
  · cases sample

theorem sampleMain_fuelKept (ready : Bool) (slot : Slot) {s : State} (sampled : strapped s = true) :
    FuelKept s (sampleMain ready slot s) := by
  refine .of_sampled sampled (sampleMain_only ready slot s) fun tanks => ?_
  cases sample : senderSample s ready (mainCurve s.straps.variant) slot with
  | none =>
    rw [sampleMain_none sample]
    exact tanks
  | some v =>
    obtain ⟨raw, rfl⟩ := senderSample_volume sample
    rw [sampleMain_some sample]
    refine { tanks with mainRing := fun x hx => ?_ }
    rcases mem_pushRing hx with old | rfl
    · exact tanks.mainRing x old
    · exact calibrate_le (mainCurve_le _) raw

theorem sampleAux_fuelKept (ready : Bool) (slot : Slot) {s : State} (sampled : strapped s = true) :
    FuelKept s (sampleAux ready slot s) := by
  refine .of_sampled sampled (sampleAux_only ready slot s) fun tanks => ?_
  unfold sampleAux
  split
  · rename_i points curve
    split
    · rename_i v sample
      obtain ⟨raw, rfl⟩ := senderSample_volume sample
      obtain ⟨tank, spec, top⟩ := auxCurve_tank curve
      refine { tanks with auxRing := fun x hx => ?_ }
      rcases mem_pushRing hx with old | rfl
      · exact tanks.auxRing x old
      · exact withinAux_iff.mpr ⟨tank, spec, calibrate_le top raw⟩
    · exact tanks
  · exact tanks

theorem followPump_fuelKept (s : State) : FuelKept s (followPump s) := by
  refine .of_fuel (followPump_only s) (by decide) ?_
  rw [followPump_fuel]
  exact .of_same rfl rfl rfl rfl

/-! ### Estimates -/

/-- Dead-reckoning lowers a defined M (03 R46). -/
theorem deadReckon_fuelKept (d : Nat) (s : State) : FuelKept s (deadReckon d s) := by
  refine .of_fuel (deadReckon_only d s) (by decide) ?_
  unfold deadReckon
  split
  · exact .of_same rfl rfl rfl rfl
  · rename_i m estimate
    refine ⟨fun tanks => { tanks with mainEst := fun v hv => ?_ }, fun unknown => ?_⟩
    · cases hv
      exact (Nat.sub_le _ _).trans (tanks.mainEst m estimate)
    · cases estimate.symm.trans unknown.mainEst

theorem correctedMain_le {s : State} (tanks : TanksWithin s.straps.variant s.fuel) :
    ∀ v ∈ correctedMain s, v ≤ (tankSpec s.straps.variant).mainCapacity := by
  unfold correctedMain filteredMain
  intro v corrected
  split at corrected
  · cases corrected
    exact ringAverage_le tanks.mainRing
  · split at corrected
    · obtain ⟨m, _, rfl⟩ := Option.map_eq_some_iff.mp corrected
      exact filterMain_le _ _ _ _
    · exact tanks.mainEst v corrected

theorem correctedAux_within {s : State} (tanks : TanksWithin s.straps.variant s.fuel) :
    ∀ v ∈ correctedAux s, withinAux s.straps.variant v = true := by
  unfold correctedAux
  intro v corrected
  split at corrected
  · rename_i usable
    cases corrected
    obtain ⟨tank, spec⟩ := Option.isSome_iff_exists.mp (Bool.and_eq_true_iff.mp usable).1
    exact withinAux_iff.mpr ⟨tank, spec, ringAverage_le fun v hv => withinAux_le (tanks.auxRing v hv) spec⟩
  · exact tanks.auxEst v corrected

/-- A correction step keeps the estimates within the tanks, and defines none without samples (03 R47 to R52). -/
theorem correctionPeriod_fuelKept (s : State) : FuelKept s (correctionPeriod s) := by
  refine .of_fuel (correctionPeriod_only s) (by decide) ?_
  rw [correctionPeriod_fuel]
  split
  · exact .of_same rfl rfl rfl rfl
  · refine ⟨fun tanks => { tanks with mainEst := correctedMain_le tanks, auxEst := correctedAux_within tanks },
      fun unknown => { unknown with mainEst := ?_, auxEst := ?_ }⟩
    · exact (correctedMain_few (by simp [unknown.mainRing])).trans unknown.mainEst
    · exact (correctedAux_kept (.inr (by simp [unknown.auxRing]))).trans unknown.auxEst

/-! ### Distance, fuel counts and standstill -/

theorem clearStandstill_fuelKept (s : State) : FuelKept s (clearStandstill s) :=
  .of_fuel (clearStandstill_only s) (by decide) (.of_same rfl rfl rfl rfl)

theorem clearPump_fuelKept (s : State) : FuelKept s (clearPump s) :=
  .of_fuel (clearPump_only s) (by decide) (.of_same rfl rfl rfl rfl)

theorem followStandstill_fuelKept (speed : Slot) (s : State) : FuelKept s (followStandstill speed s) :=
  .ite (.ite (.refl s) (.of_fuel (only_fuel s _) (by decide) (.of_same rfl rfl rfl rfl))) (clearStandstill_fuelKept s)

theorem distanceSteps_fuelKept : ∀ (n : Nat) (s : State), FuelKept s (distanceSteps n s)
  | 0, s => .refl s
  | n + 1, s => by
    have counted : ∀ t, FuelKept t (watchStep t) := fun t =>
      .of_fuel (watchStep_only t) (by decide) (.of_same rfl rfl rfl rfl)
    have figures : FuelKept s (journeyStep (tripsStep (odometerStep s))) :=
      ((FuelKept.of_only (odometerStep_only s) (by decide)).trans (.of_only (tripsStep_only _) (by decide))).trans
        (.of_only (journeyStep_only _) (by decide))
    exact (figures.trans (counted _)).trans (distanceSteps_fuelKept n _)

theorem pulseDelta_fuelKept (d : Nat) (s : State) : FuelKept s (pulseDelta d s) :=
  FuelKept.trans (.of_only (only_trip s _) (by decide)) (distanceSteps_fuelKept _ _)

theorem fuelDelta_fuelKept (d : Nat) (s : State) : FuelKept s (fuelDelta d s) :=
  ((FuelKept.of_only (only_trip s _) (by decide)).trans (.of_only (journeyFuel_only d _) (by decide))).trans
    (deadReckon_fuelKept d _)

theorem issue_fuelKept {f : Nat → State → State} (kept : ∀ d t, FuelKept t (f d t)) (d : Nat) (s : State) :
    FuelKept s (issue f d s) := .ite (.refl s) (kept d s)

/-! ### Warnings -/

theorem applyGates_fuelKept (s : State) : FuelKept s (applyGates s) :=
  .of_warned (applyGates_only s) (applyGates_kept s)

theorem evaluate_fuelKept (s : State) (n : Nat) : FuelKept s (evaluate s n) :=
  .of_warned (evaluate_only s n) (evaluate_kept s n)

theorem evaluateReport_fuelKept (k : ReportKind) (s : State) : FuelKept s (evaluateReport k s) :=
  .foldl evaluate_fuelKept _ s

theorem noteRecord_fuelKept (o : MsgOrigin) (s : State) : FuelKept s (noteRecord o s) := by
  unfold noteRecord
  split
  · exact (FuelKept.of_warned (acknowledge_only _ s) (acknowledge_kept _ s)).trans
      (.of_only (departRecord_only _ _) (by decide))
  · exact .of_only (departRecord_only _ s) (by decide)

theorem noteAction_fuelKept (s : State) : FuelKept s (noteAction s) := by
  unfold noteAction
  split
  · exact noteRecord_fuelKept _ s
  · exact .of_only (moveReview_only s) (by decide)
  · exact .of_only (openReview_only s) (by decide)
  · exact (FuelKept.of_only (leaveSetMode_only s) (by decide)).trans (.of_only (openReview_only _) (by decide))

theorem acceptPress_fuelKept {act : State → State} (acts : ∀ t, FuelKept t (act t)) (k : Key)
    (holds : State → KeyAction) (s : State) : FuelKept s (acceptPress k holds act s) := by
  have noted : ∀ t, FuelKept t (pressNoted t) := fun t => .of_only (pressNoted_only t) (by decide)
  have held : ∀ v t, FuelKept t (holdKey k v t) := fun v t => .of_only (holdKey_only k v t) (by decide)
  have woken : ∀ x, FuelKept s { s with keys := x } := fun x => .of_only (only_keys s x) (by decide)
  unfold acceptPress
  refine .ite (.ite ?_ ?_) (.refl s)
  · exact ((woken _).trans (noted _)).trans (held _ _)
  · exact (((noted s).trans (.of_only (keepSetMode_only _) (by decide))).trans (acts _)).trans (held _ _)

/-! ### Reports -/

/-- The consumers of a report keep the fuel once the straps are sampled. -/
theorem consumers_fuelKept (k : ReportKind) (h : Heard) (d e : Nat) (c : Bool) {s : State}
    (sampled : strapped s = true) : FuelKept s (consumers k h d e c s) := by
  cases k
  case engine =>
    exact ((FuelKept.of_only (followEngine_only _ _ s) (by decide)).trans (applyGates_fuelKept _)).trans
      (evaluateReport_fuelKept _ _)
  case fuelFlow =>
    exact (issue_fuelKept fuelDelta_fuelKept d s).trans (.of_only (issue_only runSeconds_only e _) (by decide))
  case chassis =>
    have moved := (issue_fuelKept pulseDelta_fuelKept d s).trans (followStandstill_fuelKept (slotAt h.slots 2) _)
    have speeds := (moved.trans (.of_only (holdSpeed_only (slotAt h.slots 2) _) (by decide))).trans
      (.of_only (takeGateSpeed_only h.ready (slotAt h.slots 2) _) (by decide))
    exact (speeds.trans (applyGates_fuelKept _)).trans (evaluateReport_fuelKept _ _)
  case tank =>
    have mode := (sampleMain_only h.ready (slotAt h.slots 1) s).power (by decide)
    have sampled' : strapped (sampleMain h.ready (slotAt h.slots 1) s) = true := by
      rw [strapped_congr (congrArg Power.mode mode), sampled]
    exact ((sampleMain_fuelKept _ _ sampled).trans (sampleAux_fuelKept _ _ sampled')).trans (followPump_fuelKept _)
  case bodyDoors => exact evaluateReport_fuelKept _ s
  case bodyLamps => exact evaluateReport_fuelKept _ s
  case rearConsole =>
    exact FuelKept.trans (.ite (.of_only (rearCall_only s) (by decide)) (.refl s))
      (.of_only (hushChanged_only _) (by decide))

theorem offerReport_fuelKept (k : ReportKind) (h : Heard) {s : State} (sampled : strapped s = true) :
    FuelKept s (offerReport k h s) := by
  unfold offerReport
  split
  · have entry : FuelKept s { s with bus := setEntry k (acceptedEntry s k h) s.bus } :=
      .of_only (only_bus s _) (by decide)
    exact entry.trans (consumers_fuelKept k h _ _ _ sampled)
  · exact .of_only (markRival_only k _ s) (by decide)
  · exact .refl s

/-- A frame is heard by a part that receives, whose straps are sampled. -/
theorem hearFrame_fuelKept {handle : State → State} (handles : ∀ t, strapped t = true → FuelKept t (handle t))
    (fits : Bool) (h : Heard) (s : State) : FuelKept s (hearFrame fits h handle s) := by
  have mode : strapped (noteHeard h s) = strapped s := strapped_congr (noteHeard_mode h s)
  unfold hearFrame hearing
  by_cases on : receives s = true
  · have sampled := strapped_of_receives on
    simp only [on, Bool.not_true, Bool.false_eq_true, if_false]
    split
    · exact .refl s
    · exact .refl s
    · exact .of_only (noteClash_only s) (by decide)
    · exact FuelKept.trans (.of_power (noteHeard_only h s) (by decide) mode.trans) (handles _ (mode.trans sampled))
  · simp only [on, Bool.not_false, if_true]
    exact .refl s

theorem expireStale_fuelKept (k : ReportKind) (s : State) : FuelKept s (expireStale k s) := by
  have effects : ∀ t, FuelKept t (staleEffects k t) := fun t => by
    unfold staleEffects
    split
    · exact clearStandstill_fuelKept t
    · exact clearPump_fuelKept t
    · exact .of_only (hushChanged_only t) (by decide)
    · exact .refl t
  have stale : FuelKept s { s with bus := setEntry k (staleEntry s k) s.bus } := .of_only (only_bus s _) (by decide)
  unfold expireStale
  split
  · exact .ite ((stale.trans (effects _)).trans (.of_only (offerOwned_only _ _) (by decide))) (.refl s)
  · exact .refl s

/-! ### Power states -/

theorem runBegun_fuelKept (s : State) : FuelKept s (runBegun s) :=
  .of_tanks rfl (fun _ => rfl) (.of_same rfl rfl rfl rfl)

theorem watchBegun_fuelKept (g : Gauges) (s : State) : FuelKept s (watchBegun g s) :=
  .of_tanks rfl (fun _ => rfl) (.of_same rfl rfl rfl rfl)

theorem enterRun_fuelKept (s : State) : FuelKept s (enterRun s) :=
  (runBegun_fuelKept s).trans (applyGates_fuelKept _)

theorem startInto_fuelKept (toRun : Bool) (s : State) : FuelKept s (startInto toRun s) :=
  .ite (enterRun_fuelKept s) ((watchBegun_fuelKept _ s).trans (applyGates_fuelKept _))

theorem enterWatch_fuelKept (s : State) : FuelKept s (enterWatch s) :=
  (((watchBegun_fuelKept _ s).trans (.of_only (endReminders_only _) (by decide))).trans
    (applyGates_fuelKept _)).trans (.of_only (offerStores_only _) (by decide))

theorem enterSleep_fuelKept (s : State) : FuelKept s (enterSleep s) :=
  .of_tanks rfl (fun _ => rfl) (.of_same rfl rfl rfl rfl)

/-- A wake start forgets the samples and keeps the estimates (03 TABLE 3-8). -/
theorem wakeFuel_tanksKept (variant : BitVec 2) (f : Fuel) : TanksKept variant f (wakeFuel f) :=
  ⟨fun tanks => { tanks with mainRing := fun _ h => (by cases h), auxRing := fun _ h => (by cases h) },
    fun unknown => { unknown with mainRing := rfl, auxRing := rfl }⟩

theorem wakeBlocks_fuelKept (warm : Bool) (kind : Nat) (s : State) : FuelKept s (wakeBlocks warm kind s) := by
  let emptied : State := emptyMessages (emptyChimes { s with port := wakePort warm s.port })
  have silent : FuelKept s { s with port := wakePort warm s.port } := .of_only (only_port s _) (by decide)
  have quiet : FuelKept s emptied := (silent.trans (.of_only (emptyChimes_only _) (by decide))).trans
    (.of_only (emptyMessages_only _) (by decide))
  have wakes : FuelKept emptied (wakeBlocks warm kind s) := .of_tanks rfl id (wakeFuel_tanksKept _ _)
  exact quiet.trans wakes

theorem wakeStart_fuelKept (toRun : Bool) (s : State) : FuelKept s (wakeStart toRun s) :=
  ((((wakeBlocks_fuelKept false 1 s).trans (startInto_fuelKept toRun _)).trans
    (.of_only (reofferAll_only _) (by decide))).trans (.of_only (kickWriter_only _) (by decide))).trans
    (.of_only (offerOwned_only .presence _) (by decide))

theorem warmRestart_fuelKept (s : State) : FuelKept s (warmRestart s) :=
  ((wakeBlocks_fuelKept true 2 s).trans (startInto_fuelKept _ _)).trans
    (.of_only (offerOwned_only .presence _) (by decide))

theorem rosterRefresh_fuelKept (s : State) : FuelKept s (rosterRefresh s) := by
  have offered : ∀ t, FuelKept t (offerOwned .rollCall (hushChanged t)) := fun t =>
    (FuelKept.of_only (hushChanged_only t) (by decide)).trans (.of_only (offerOwned_only _ _) (by decide))
  have unbound : ∀ b p, FuelKept s { s with bus := b, port := p } := fun _ _ => id
  exact (((unbound _ _).trans (clearStandstill_fuelKept _)).trans (clearPump_fuelKept _)).trans (offered _)

theorem setIgn_fuelKept (on : Bool) (s : State) : FuelKept s (setIgn on s) := .of_power (only_power s _) (by decide) id

theorem pulseOnLine_fuelKept (s : State) : FuelKept s (pulseOnLine s) := .of_only (only_port s _) (by decide)

theorem beginDip_fuelKept (s : State) : FuelKept s (beginDip s) := by
  have dipped : FuelKept s { s with power := { s.power with dip := true } } := .of_power (only_power s _) (by decide) id
  have silenced := dipped.trans (.of_only (silenceForDip_only _) (by decide))
  exact (silenced.trans (.of_only (only_nsp _ _) (by decide))).trans (applyGates_fuelKept _)

theorem dipInput_fuelKept (input : DipInput) (s : State) : FuelKept s (dipInput input s) := by
  have active : FuelKept s { s with power := setDipInput input s.power } :=
    .of_power (only_power s _) (by decide) fun on => by cases input <;> exact on
  exact .ite active (active.trans (beginDip_fuelKept _))

theorem endDip_fuelKept (s : State) : FuelKept s (endDip s) := by
  have ended : FuelKept s { s with power := { s.power with dip := false, settleTimer := none } } :=
    .of_power (only_power s _) (by decide) id
  exact (ended.trans (.of_only (hushChanged_only _) (by decide))).trans (.of_only (dipFreesWriter_only _) (by decide))

/-- The load ends in LISTEN, with the straps sampled before it. -/
theorem finishLoad_fuelKept (m : Option (List (Nat × Word))) (s : State) : FuelKept s (finishLoad m s) := by
  have items : FuelKept s (itemNumbers.foldl (loadItem m) (loadOdometer m s)) :=
    FuelKept.trans (.of_only (loadOdometer_only m s) (by decide))
      (.foldl (fun t i => .of_only (loadItem_only m t i) (by decide)) _ _)
  have loaded := items.trans (.of_only (loadJourney_only m _) (by decide))
  have listening : ∀ t x,
      FuelKept t { t with power := { t.power with mode := .starting .listen, startTimer := x } } := fun t x =>
    .of_power (only_power t _) (by decide) fun _ => rfl
  unfold finishLoad
  dsimp only
  exact (loaded.trans (listening _ _)).trans
    (.foldl (fun t i => .of_only (offerRecord_only (.item i) t) (by decide)) itemNumbers _)

/-- The load ends alike whether it is completed or fails, after a change of the store port and the flags. -/
theorem load_fuelKept (m : Option (List (Nat × Word))) (s : State) (n : Nsp) (f : Faults) :
    FuelKept s (finishLoad m { s with faults := f, nsp := n }) := by
  have changed : FuelKept s { s with faults := f, nsp := n } := id
  exact changed.trans (finishLoad_fuelKept m _)

end Sys2Proof.Machine
end

section
/-! PROOFS. Fuel within capacity, command by command, and the statement about it (O14). -/

namespace Sys2Proof.Machine

/-! ### Power and store commands -/

/-- A fuel unit that knows nothing lies within any tanks. -/
theorem TanksUnknown.within {f : Fuel} (unknown : TanksUnknown f) (variant : BitVec 2) : TanksWithin variant f := by
  obtain ⟨mainRing, mainEst, auxRing, auxEst⟩ := unknown
  constructor <;> simp [*]

/-- The fuel unit after a cold start or a loss of supply knows nothing of the tanks. -/
theorem fuelKept_cold {s t : State} (cold : t.fuel = Fuel.cold) : FuelKept s t := fun _ => by
  have unknown : TanksUnknown t.fuel := cold ▸ ⟨rfl, rfl, rfl, rfl⟩
  exact fuelWithin_iff.mpr ⟨unknown.within _, .inr unknown⟩

/-- The straps are sampled before any sample of the tanks is taken. -/
theorem sampleStraps_fuelKept {s : State} (settling : s.power.mode = .starting .settle) (p : StrapPins) :
    FuelKept s (sampleStraps p s) := fun h => by
  have unsampled : strapped s = false := by simp [strapped, settling]
  have unknown := (fuelWithin_iff.mp h).2.resolve_left (by simp [unsampled])
  exact fuelWithin_iff.mpr ⟨unknown.within _, .inl rfl⟩

theorem endListen_fuelKept (s : State) : FuelKept s (endListen s) := by
  have ended : FuelKept s { s with power := { s.power with startTimer := none, lastStart := 0 } } :=
    .of_power (only_power s _) (by decide) id
  exact (ended.trans (startInto_fuelKept _ _)).trans (.of_only (offerOwned_only .presence _) (by decide))

theorem ignitionOn_fuelKept (s : State) : FuelKept s (ignitionOn s) := by
  have set := setIgn_fuelKept true s
  unfold ignitionOn
  split
  · exact .refl s
  · exact set
  · exact set
  · exact (set.trans (enterRun_fuelKept _)).settled
  · exact (set.trans (wakeStart_fuelKept true _)).settled

theorem ignitionOff_fuelKept (s : State) : FuelKept s (ignitionOff s) := by
  have set := setIgn_fuelKept false s
  unfold ignitionOff
  split
  · exact .refl s
  · exact set
  · exact set
  · exact set
  · exact (set.trans (enterWatch_fuelKept _)).settled

theorem pulseHeard_fuelKept (s : State) : FuelKept s (pulseHeard s) := by
  have pulse := pulseOnLine_fuelKept s
  unfold pulseHeard
  split
  · exact .refl s
  · exact (pulse.trans (wakeStart_fuelKept _ _)).settled
  all_goals exact pulse

theorem keyWakes_fuelKept (key : Key) (s : State) : FuelKept s (keyWakes key s) := by
  have wanted : ∀ (t : State) p k, FuelKept t { t with port := p, keys := k } := fun _ _ _ => id
  exact (wakeStart_fuelKept false s).trans (wanted _ _ _)

theorem answerOperation_fuelKept (answer : StoreAnswer) (s : State) : FuelKept s (answerOperation answer s) := by
  refine .ite ?_ (.of_only (answerWrite_only answer s) (by decide))
  unfold answerLoad
  split
  · exact id
  · exact .ite (.of_only (only_nsp s _) (by decide)) (load_fuelKept _ _ _ _)
  · exact .refl s

/-! ### Line and timer commands -/

theorem endAttempt_fuelKept (act : TxEntry → Option TxEntry) (s : State) : FuelKept s (endAttempt act s) :=
  .of_only (endAttempt_only act s) (by decide)

theorem closeSlot_fuelKept (e : TxEntry) (answer : Option Answer) (s : State) : FuelKept s (closeSlot e answer s) := by
  have ended := (endAttempt_fuelKept (answerAct s.now answer) s).trans
    (.of_only (markSentWhole_only e.id.kind _) (by decide))
  exact .ite (ended.trans (.of_only (modifyRoster_only _ _ _) (by decide))) ended

theorem reoffer_fuelKept (what : Reoffer) (s : State) : FuelKept s (reoffer what s) := by
  unfold reoffer
  split
  · exact .ite (.of_only (answerBits_only _ _ s) (by decide)) (.refl s)
  · exact .ite (.of_only (offerOwned_only _ s) (by decide)) (.refl s)

theorem stopPeriod_fuelKept (s : State) : FuelKept s (stopPeriod s) := by
  have next : FuelKept s { s with fuel := { s.fuel with stopTimer := startFor s 5000 } } :=
    .of_fuel (only_fuel s _) (by decide) (.of_same rfl rfl rfl rfl)
  exact .ite (next.trans (.of_only (offerOwned_only _ _) (by decide))) next

theorem mirrorPeriod_fuelKept (s : State) : FuelKept s (mirrorPeriod s) := by
  have next : FuelKept s { s with bus := { s.bus with mirrorTimer := startFor s 500 } } :=
    .of_only (only_bus s _) (by decide)
  exact .ite (next.trans (.of_only (offerPeriodicMirror_only _) (by decide))) next

/-! ### Warnings, chimes and messages -/

theorem evaluationPeriod_fuelKept (s : State) : FuelKept s (evaluationPeriod s) :=
  FuelKept.trans (.of_only (only_warn s _) (by decide)) (.foldl evaluate_fuelKept _ _)

theorem endWindow_fuelKept (s : State) : FuelKept s (endWindow s) :=
  FuelKept.trans (.of_only (only_warn s _) (by decide)) (applyGates_fuelKept _)

theorem peerChime_fuelKept (source : Nat) (pattern : ChimePattern) (reps : Nat) (s : State) :
    FuelKept s (peerChime source pattern reps s) := by
  unfold peerChime
  split
  · exact .of_only (withdrawChime_only _ s) (by decide)
  · exact .of_only (postChime_only _ _ _ _ s) (by decide)

theorem elementOver_fuelKept (s : State) : FuelKept s (elementOver s) := by
  unfold elementOver
  split
  · exact (FuelKept.of_only (endElement_only _ s) (by decide)).trans (.of_only (reportSource_only s _) (by decide))
  · exact .refl s

theorem showTimeOver_fuelKept (s : State) : FuelKept s (showTimeOver s) := by
  unfold showTimeOver
  split
  · exact .of_only (departRecord_only _ s) (by decide)
  · exact .refl s

theorem repost_fuelKept (s : State) : FuelKept s (repost s) := by
  unfold repost
  split
  · exact .ite (.of_only (postReminder_only _ s) (by decide)) (.refl s)
  · exact .refl s

theorem completeTransfer_fuelKept (s : State) : FuelKept s (completeTransfer s) := by
  unfold completeTransfer
  split
  · exact .ite (.of_only (only_disp s _) (by decide)) (.of_only (only_disp s _) (by decide))
  · exact .refl s

/-! ### Every command -/

/-- The command at the head of the intake queue is taken from it. -/
theorem dropHead_fuelKept (s : State) : FuelKept s (dropHead s) := .of_only (dropHead_only s) (by decide)

/-- Every command keeps samples and estimates within the tanks. -/
theorem exec_fuelKept (c : Instr) (s : State) : ∃ t, exec c s = .next t ∧ FuelKept s t := by
  cases c
  case standbySupplyUp crank lowv => exact ⟨_, rfl, .ite (.refl s) (fuelKept_cold rfl)⟩
  case standbySupplyLoss cut => exact ⟨_, rfl, .ite (fuelKept_cold rfl) (.refl s)⟩
  case settleEnd pins =>
    refine ⟨_, rfl, ?_⟩
    split
    · exact sampleStraps_fuelKept ‹_› pins
    · exact .refl s
  case loadComplete whole => exact ⟨_, rfl, .ite (.ite (load_fuelKept _ _ _ _) (load_fuelKept _ _ _ _)) (.refl s)⟩
  case listenEnd => exact ⟨_, rfl, .ite (endListen_fuelKept s).settled (.refl s)⟩
  case ignOn => exact ⟨_, rfl, ignitionOn_fuelKept s⟩
  case ignOff => exact ⟨_, rfl, ignitionOff_fuelKept s⟩
  case sleepTimerExpiry => exact ⟨_, rfl, .ite (enterSleep_fuelKept s).settled (.refl s)⟩
  case wakePulseHeard => exact ⟨_, rfl, pulseHeard_fuelKept s⟩
  case keyWake key => exact ⟨_, rfl, .ite (keyWakes_fuelKept key s).settled (.refl s)⟩
  case supplyDipBegin input => exact ⟨_, rfl, .ite (dipInput_fuelKept input s).settled (.refl s)⟩
  case dipInputsClear => exact ⟨_, rfl, .ite (.of_power (only_power s _) (by decide) id) (.refl s)⟩
  case supplyDipEnd => exact ⟨_, rfl, .ite (endDip_fuelKept s).settled (.refl s)⟩
  case restartRequestRosterRefresh =>
    refine ⟨_, rfl, ?_⟩
    split
    · exact ((dropHead_fuelKept s).trans (rosterRefresh_fuelKept _)).settled
    · exact .refl s
  case restartRequestWarmRestart =>
    refine ⟨_, rfl, ?_⟩
    split
    · exact ((dropHead_fuelKept s).trans (warmRestart_fuelKept _)).settled
    · exact .refl s
  case reportArrival kind frame =>
    exact ⟨_, rfl, (hearFrame_fuelKept (fun _ on => offerReport_fuelKept kind frame on) _ frame s).settled⟩
  case rollCall frame =>
    exact ⟨_, rfl, hearFrame_fuelKept (fun t _ => .of_only (offerOwned_only .presence t) (by decide)) _ frame s⟩
  case presence frame =>
    exact ⟨_, rfl, hearFrame_fuelKept (fun t _ => .of_only (heardPresence_only frame t) (by decide)) _ frame s⟩
  case otherFrameHeard kind target frame =>
    exact ⟨_, rfl, .ite (hearFrame_fuelKept (fun t _ => .refl t) _ frame s) (.refl s)⟩
  case ownAddressFrameHeard => exact ⟨_, rfl, .ite (.of_only (noteClash_only s) (by decide)) (.refl s)⟩
  case frameDiscarded cause =>
    refine ⟨_, rfl, .ite ?_ (.refl s)⟩
    cases cause
    case wakePulse => exact pulseOnLine_fuelKept s
    all_goals exact .refl s
  case addressedFrameAnswer kind frame =>
    exact ⟨_, rfl, hearFrame_fuelKept (fun t _ => .of_only (answerHeard_only kind frame t) (by decide)) _ frame s⟩
  case demand =>
    refine ⟨_, rfl, ?_⟩
    split
    · exact (dropHead_fuelKept s).trans (.of_only (takeDemand_only _ _ _ _) (by decide))
    · exact .refl s
  case chimeRequest =>
    refine ⟨_, rfl, ?_⟩
    split
    · exact ((dropHead_fuelKept s).trans (peerChime_fuelKept _ _ _ _)).settled
    · exact .refl s
  case notice =>
    refine ⟨_, rfl, ?_⟩
    split
    · exact ((dropHead_fuelKept s).trans (.of_only (postNote_only _ _ _ _ _) (by decide))).settled
    · exact .refl s
  case serviceReset =>
    refine ⟨_, rfl, ?_⟩
    split
    · exact .ite ((dropHead_fuelKept s).trans (.of_only (serviceResetOp_only _ _) (by decide))).settled
        (dropHead_fuelKept s)
    · exact .refl s
  case journeyClear =>
    refine ⟨_, rfl, ?_⟩
    split
    · exact .ite ((dropHead_fuelKept s).trans (.of_only (clearJourneys_only _) (by decide))).settled
        (dropHead_fuelKept s)
    · exact .refl s
  case clockSet =>
    refine ⟨_, rfl, ?_⟩
    split
    · exact ((dropHead_fuelKept s).trans (.of_only (setClock_only _ _) (by decide))).settled
    · exact .refl s
  case attemptBegin => exact ⟨_, rfl, .of_only (beginAttempt_only s) (by decide)⟩
  case lostArbitration =>
    refine ⟨_, rfl, ?_⟩
    split
    · exact endAttempt_fuelKept some s
    · exact .refl s
  case readbackFault =>
    refine ⟨_, rfl, ?_⟩
    split
    · exact (endAttempt_fuelKept some s).trans (.of_only (countFault_only _) (by decide))
    · exact .refl s
  case broadcastSentWhole =>
    refine ⟨_, rfl, ?_⟩
    split
    · exact .ite ((endAttempt_fuelKept _ s).trans (.of_only (markSentWhole_only _ _) (by decide))) (.refl s)
    · exact .refl s
  case answerSlotClose run =>
    refine ⟨_, rfl, ?_⟩
    split
    · exact .ite (.refl s) (closeSlot_fuelKept _ _ s)
    · exact .refl s
  case lineFaultPauseExpiry | retryDelayExpiry | holdOffExpiry => exact ⟨_, rfl, .of_only (only_port s _) (by decide)⟩
  case ownerReoffer what => exact ⟨_, rfl, .ite (reoffer_fuelKept what s) (.refl s)⟩
  case wakePulseSend => exact ⟨_, rfl, .ite (.of_only (only_port s _) (by decide)) (.refl s)⟩
  case staleTimerExpiry kind => exact ⟨_, rfl, (expireStale_fuelKept kind s).settled⟩
  case rosterTimerExpiry station => exact ⟨_, rfl, .of_only (modifyRoster_only station expireRoster s) (by decide)⟩
  case mirrorTimerExpiry => exact ⟨_, rfl, .ite (mirrorPeriod_fuelKept s) (.refl s)⟩
  case dampingStep => exact ⟨_, rfl, .ite (.of_only (dampingPeriod_only s) (by decide)) (.refl s)⟩
  case coilOffTimerExpiry => exact ⟨_, rfl, .ite (.of_only (only_gauges s _) (by decide)) (.refl s)⟩
  case correctionTimerExpiry => exact ⟨_, rfl, .ite (correctionPeriod_fuelKept s).settled (.refl s)⟩
  case standstillTimerExpiry | pumpTimerExpiry =>
    exact ⟨_, rfl, .ite (.of_fuel (only_fuel s _) (by decide) (.of_same rfl rfl rfl rfl)) (.refl s)⟩
  case transferStopTimerExpiry => exact ⟨_, rfl, .ite (stopPeriod_fuelKept s) (.refl s)⟩
  case tripSecondTimerExpiry | instantSamplerExpiry =>
    exact ⟨_, rfl, .ite (FuelKept.of_only (only_trip s _) (by decide)).settled (.refl s)⟩
  case clockSecond =>
    have seconds : FuelKept s (clockPeriod s) :=
      FuelKept.trans (.of_only (only_clock s _) (by decide)) (.of_only (clockSecondOp_only _) (by decide))
    exact ⟨_, rfl, .ite seconds.settled (.refl s)⟩
  case modePress =>
    exact ⟨_, rfl, (FuelKept.of_only (acceptPress_only modeAction_only _ _ s) (by decide)).settled⟩
  case selectPress =>
    exact ⟨_, rfl, (FuelKept.of_only (acceptPress_only selectAction_only _ _ s) (by decide)).settled⟩
  case resetPress =>
    exact ⟨_, rfl, (FuelKept.of_only (acceptPress_only resetAction_only _ _ s) (by decide)).settled⟩
  case notePress => exact ⟨_, rfl, (acceptPress_fuelKept noteAction_fuelKept _ _ s).settled⟩
  case journeyPress =>
    exact ⟨_, rfl, (FuelKept.of_only (acceptPress_only journeyAction_only _ _ s) (by decide)).settled⟩
  case journeyRelease =>
    exact ⟨_, rfl, (FuelKept.of_only (acceptRelease_only journeyShort_only _ s) (by decide)).settled⟩
  case journeyLongPress =>
    refine ⟨_, rfl, ?_⟩
    split
    · exact .ite ((FuelKept.of_only (takeLong_only _ s) (by decide)).trans
        (.of_only (journeyLong_only _) (by decide))).settled (.refl s)
    · exact .refl s
  case tripReset =>
    refine ⟨_, rfl, ?_⟩
    split
    · exact .ite ((FuelKept.of_only (takeLong_only _ s) (by decide)).trans
        (.of_only (tripResetOp_only _ _) (by decide))).settled (.refl s)
    · exact .refl s
  case serviceResetPress =>
    refine ⟨_, rfl, ?_⟩
    split
    · exact .ite ((FuelKept.of_only (takeLong_only _ s) (by decide)).trans
        (.ite (.of_only (serviceResetOp_only _ _) (by decide)) (.refl _))).settled (.refl s)
    · exact .refl s
  case setModeTimeout | blinkTimerExpiry | journeyReadoutAlternate | displayTimerExpiry =>
    exact ⟨_, rfl, .ite (FuelKept.of_only (only_disp s _) (by decide)).settled (.refl s)⟩
  case displayTransferComplete => exact ⟨_, rfl, completeTransfer_fuelKept s⟩
  case minimumShowTimeExpiry =>
    exact ⟨_, rfl, .ite (FuelKept.trans (.of_only (only_msg s _) (by decide))
      (.of_only (select_only _) (by decide))).settled (.refl s)⟩
  case maximumShowTimeExpiry => exact ⟨_, rfl, .ite (showTimeOver_fuelKept s).settled (.refl s)⟩
  case reminderRepostTimerExpiry => exact ⟨_, rfl, .ite (repost_fuelKept s).settled (.refl s)⟩
  case evaluationTimerExpiry => exact ⟨_, rfl, .ite (evaluationPeriod_fuelKept s).settled (.refl s)⟩
  case reOfferTimerExpiry entry =>
    exact ⟨_, rfl, .ite (FuelKept.of_only (postOutstanding_only entry s) (by decide)).settled (.refl s)⟩
  case reChimeTimerExpiry entry => exact ⟨_, rfl, .of_only (modifyWarn_only entry rechimeFalls s) (by decide)⟩
  case reviewTimerExpiry => exact ⟨_, rfl, .ite (FuelKept.of_only (moveReview_only s) (by decide)).settled (.refl s)⟩
  case flashTimerExpiry | staleGraceExpiry | engineRunningTimerExpiry =>
    exact ⟨_, rfl, .ite (.of_only (only_warn s _) (by decide)) (.refl s)⟩
  case lampProvingExpiry =>
    exact ⟨_, rfl, .ite (FuelKept.trans (.of_only (only_warn s _) (by decide))
      (.of_only (setCursor_only _ _) (by decide))).settled (.refl s)⟩
  case windowTimerExpiry => exact ⟨_, rfl, .ite (endWindow_fuelKept s).settled (.refl s)⟩
  case elementEnd => exact ⟨_, rfl, .ite (elementOver_fuelKept s).settled (.refl s)⟩
  case busyPollRetry answer => exact ⟨_, rfl, (answerOperation_fuelKept answer s).settled⟩
  case failedWriteWaitExpiry => exact ⟨_, rfl, (FuelKept.of_only (endWriteWait_only s) (by decide)).settled⟩
  case writeComplete => exact ⟨_, rfl, (FuelKept.of_only (completeWrite_only s) (by decide)).settled⟩
  case keyRelease key =>
    exact ⟨_, rfl, .ite (.refl s) (.of_only (acceptRelease_only (fun _ t => .refl [] t) key s) (by decide))⟩
  case wakePulseEnd =>
    refine ⟨_, rfl, ?_⟩
    split
    · exact .refl s
    · exact .refl s
    all_goals exact .of_only (only_port s _) (by decide)

/-- Every step keeps samples and estimates within the tanks. -/
theorem step_fuelKept {s t : State} (stepped : step s = .next t) : FuelKept s t := by
  unfold step at stepped
  split at stepped
  · cases stepped
    exact id
  · rename_i c rest _
    obtain ⟨u, carried, kept⟩ := exec_fuelKept c { s with pending := rest }
    cases carried.symm.trans stepped
    exact kept

end Sys2Proof.Machine

open Sys2Proof Sys2Proof.Machine

/-- Settles O14: every operation keeps samples and estimates within the tanks, so every command and every step does;
within them the usable fuel is bounded tank by tank. -/
theorem fuelStaysWithinCapacity : Obligations.FuelStaysWithinCapacity :=
  ⟨fun _ _ within stepped => step_fuelKept stepped within,
    fun _ _ within defined => usableFuel_le (fuelWithin_iff.mp within).1 defined⟩
end

section
/-! PROOFS. The clock and the minutes of the open journey: CLOCK SET (04 R79), the clock second and the minute tick
(04 R78, 05 R84; O42). -/

namespace Sys2Proof.Machine

/-! ### The open journey's minute -/

/-- The mark and the offer of the open slot leave the journey itself. -/
theorem markOpenSlot_openJourney (s : State) : (markOpenSlot s).journey.openJourney = s.journey.openJourney := by
  unfold markOpenSlot offerRecord
  rw [(kickWriter_only _).journey (by decide)]
  rcases takeRecord_cases { s with journey := { s.journey with openDirty := true } } .openSlot
    with ⟨_, _, _, _, taken⟩ | left
  · rw [taken]
    rfl
  · rw [left]

/-- A minute counts as waiting but in RUN at a known speed of 50 or more (05 R84). -/
theorem minuteWaits_iff {s : State} :
    minuteWaits s = true ↔ ¬ (s.power.mode = .run ∧ ∃ v ∈ roadSpeed s, 50 ≤ v) := by
  unfold minuteWaits
  cases roadSpeed s with
  | none => simp
  | some v => simp [imp_iff_not_or]

theorem addSat_one {top x : Nat} (below : x < top) : addSat top x 1 = x + 1 := Nat.min_eq_right below

theorem journeyMinute_closed {s : State} (closed : s.journey.openJourney = none) : journeyMinute s = s := by
  simp only [journeyMinute, closed]

theorem journeyMinute_open {s : State} {j : Journey} (isOpen : s.journey.openJourney = some j) :
    (journeyMinute s).journey.openJourney = some { j with
      elapsed := addSat 65535 j.elapsed 1,
      waiting := if minuteWaits s then addSat 65535 j.waiting 1 else j.waiting } := by
  simp only [journeyMinute, isOpen]
  split
  · exact markOpenSlot_openJourney _
  · rfl

/-- Below its tops a minute counts as elapsed, and as waiting but in RUN at a known speed of 50 or more. -/
theorem journeyMinute_counts {s : State} {j : Journey} (isOpen : s.journey.openJourney = some j)
    (elapsed : j.elapsed < 65535) (waiting : j.waiting < 65535) :
    (journeyMinute s).journey.openJourney = some { j with
      elapsed := j.elapsed + 1,
      waiting := if s.power.mode = .run ∧ ∃ v ∈ roadSpeed s, 50 ≤ v then j.waiting else j.waiting + 1 } := by
  rw [journeyMinute_open isOpen, addSat_one elapsed, addSat_one waiting]
  by_cases drives : s.power.mode = .run ∧ ∃ v ∈ roadSpeed s, 50 ≤ v
  · rw [if_neg (fun waits => minuteWaits_iff.mp waits drives), if_pos drives]
  · rw [if_pos (minuteWaits_iff.mpr drives), if_neg drives]

/-! ### The clock -/

/-- The clock at a minute tick: the seconds begin again, and the minutes advance while the clock is set (04 R78). -/
def clockAtMinute (s : State) : Clock :=
  { s.clock with seconds := 0, secondTimer := some (s.now + 1000),
                 minutes := if s.clock.unset then s.clock.minutes else (s.clock.minutes + 1) % 1440 }

theorem clockPeriod_second {s : State} (within : s.clock.seconds < 59) : clockPeriod s =
    { s with clock := { s.clock with seconds := s.clock.seconds + 1, secondTimer := some (s.now + 1000) } } :=
  if_neg (Nat.not_le.mpr within)

theorem clockPeriod_minute {s : State} (last : 59 ≤ s.clock.seconds) :
    clockPeriod s = journeyMinute { s with clock := clockAtMinute s } := by
  have passes : clockPeriod s = minuteTick { s with clock := { s.clock with
      seconds := 0, secondTimer := some (s.now + 1000) } } := if_pos last
  rw [passes, minuteTick, clockAtMinute]
  by_cases unset : s.clock.unset = true <;> simp [unset]

theorem clockPeriod_only (s : State) : OnlyIn (.clock :: storeBlocks) s (clockPeriod s) :=
  ((only_clock s _).mono (by decide)).trans (clockSecondOp_only _)

/-! ### The commands -/

theorem intakeHead_cons {s : State} {e : IntakeEntry} {rest : List IntakeEntry} (on : awake s = true)
    (intake : s.port.intake = e :: rest) : intakeHead s = some e := by
  simp [intakeHead, on, intake]

theorem dropHead_cons {s : State} {e : IntakeEntry} {rest : List IntakeEntry} (intake : s.port.intake = e :: rest) :
    dropHead s = { s with port := { s.port with intake := rest } } := by
  simp [dropHead, intake]

theorem exec_clockSet {s : State} {n minutes : Nat} {rest : List IntakeEntry} (on : awake s = true)
    (intake : s.port.intake = ⟨n, .clockSet minutes⟩ :: rest) : exec .clockSet s =
      .next (settled (setClock minutes { s with port := { s.port with intake := rest } })) := by
  have arm : exec .clockSet s = execClockSet s := rfl
  rw [arm, execClockSet, intakeHead_cons on intake, dropHead_cons intake]

theorem exec_clockSecond {s : State} (on : s.clock.secondTimer ≠ none) :
    exec .clockSecond s = .next (settled (clockPeriod s)) := congrArg Host.Outcome.next (ite_running on)

end Sys2Proof.Machine

open Sys2Proof Sys2Proof.Machine

/-- Settles O42: CLOCK SET and a second below 59 by their next states, the second at 59 by the journey's minute under
the advanced clock. -/
theorem clockIsSetAndCounts : Obligations.ClockIsSetAndCounts := by
  refine ⟨fun s n minutes rest on intake => ⟨_, exec_clockSet on intake, settled_from _⟩,
    fun s on within => ⟨_, exec_clockSecond on, clockPeriod_second within ▸ settled_from _⟩,
    fun s on last => ⟨_, exec_clockSecond on, ?_, fun j isOpen elapsed waiting => ?_, fun closed => ?_, ?_⟩⟩
  · rw [settled_clock, clockPeriod_minute last.ge, (journeyMinute_only _).clock (by decide), clockAtMinute]
  · rw [settled_journey, clockPeriod_minute last.ge]
    exact journeyMinute_counts (s := { s with clock := clockAtMinute s }) isOpen elapsed waiting
  · rw [settled_journey, clockPeriod_minute last.ge,
      journeyMinute_closed (s := { s with clock := clockAtMinute s }) closed]
  · exact ((clockPeriod_only s).mono (by decide)).trans ((settled_only _).mono (by decide))
end

section
/-! PROOFS. Banks: the relation of two states that keeps every bank whole and a review and set mode apart (01 TABLE 1-9,
05 R88, 06 R96, 07 R109, R125, 09 R149), and what the shared operations, the posts, the store, the warnings and the
units do to it. -/

namespace Sys2Proof.Machine

/-! ### The relation -/

/-- No review is open in set mode (07 R125, 09 R149). -/
def ReviewApart (s : State) : Prop := s.warn.review = .closed ∨ s.disp.setMode = .none

/-- The banks that are whole in `s` are whole in `t`, and a review and set mode that are apart stay apart. -/
structure BanksKept (s t : State) : Prop where
  roster : s.bus.roster.length = 30 → t.bus.roster.length = 30
  demands : s.bus.demands.length = 30 → t.bus.demands.length = 30
  entries : s.warn.entries.length = 24 → t.warn.entries.length = 24
  items : s.service.items.length = 8 → t.service.items.length = 8
  positions : s.journey.positions.length = 10 → t.journey.positions.length = 10
  apart : ReviewApart s → ReviewApart t

theorem banksWhole_iff {s : State} : banksWhole s = true ↔ s.bus.roster.length = 30 ∧ s.bus.demands.length = 30
    ∧ s.warn.entries.length = 24 ∧ s.service.items.length = 8 ∧ s.journey.positions.length = 10 := by
  simp only [banksWhole, Bool.and_eq_true, decide_eq_true_eq, and_assoc]

theorem BanksKept.whole {s t : State} (kept : BanksKept s t) (whole : banksWhole s = true) : banksWhole t = true := by
  obtain ⟨roster, demands, entries, items, positions⟩ := banksWhole_iff.mp whole
  exact banksWhole_iff.mpr ⟨kept.roster roster, kept.demands demands, kept.entries entries, kept.items items,
    kept.positions positions⟩

theorem BanksKept.refl (s : State) : BanksKept s s := ⟨id, id, id, id, id, id⟩

theorem BanksKept.trans {s t u : State} (h : BanksKept s t) (k : BanksKept t u) : BanksKept s u :=
  ⟨k.roster ∘ h.roster, k.demands ∘ h.demands, k.entries ∘ h.entries, k.items ∘ h.items, k.positions ∘ h.positions,
    k.apart ∘ h.apart⟩

theorem BanksKept.ite {c : Prop} [Decidable c] {s t u : State} (h : BanksKept s t) (k : BanksKept s u) :
    BanksKept s (if c then t else u) := by
  split <;> assumption

theorem BanksKept.foldl {α : Type} {f : State → α → State} (h : ∀ t a, BanksKept t (f t a)) :
    ∀ (l : List α) (s : State), BanksKept s (l.foldl f s)
  | [], s => .refl s
  | a :: rest, s => (h s a).trans (BanksKept.foldl h rest (f s a))

/-- An operation that leaves the banks, the review and set mode as they stand. -/
theorem BanksKept.of_same {s t : State} (roster : t.bus.roster = s.bus.roster := by rfl)
    (demands : t.bus.demands = s.bus.demands := by rfl) (entries : t.warn.entries = s.warn.entries := by rfl)
    (items : t.service.items = s.service.items := by rfl)
    (positions : t.journey.positions = s.journey.positions := by rfl)
    (review : t.warn.review = s.warn.review := by rfl) (mode : t.disp.setMode = s.disp.setMode := by rfl) :
    BanksKept s t :=
  ⟨roster ▸ id, demands ▸ id, entries ▸ id, items ▸ id, positions ▸ id,
    Or.imp review.trans mode.trans⟩

/-- The blocks that hold no bank, no review and no set mode. -/
def bankFree : Block → Bool
  | .bus | .journey | .service | .warn | .disp => false
  | _ => true

/-- An operation of the display beside free blocks keeps set mode or ends it. -/
theorem BanksKept.of_disp {bs : List Block} {s t : State} (only : OnlyIn bs s t)
    (free : bs.all (fun b => b = .disp || bankFree b) = true)
    (mode : t.disp.setMode = s.disp.setMode ∨ t.disp.setMode = .none) : BanksKept s t := by
  have out : ∀ b, (b = .disp || bankFree b) = false → b ∉ bs := fun b held inside => by
    simp [List.all_eq_true.mp free b inside] at held
  have bus := only.bus (out .bus rfl)
  have warn := only.warn (out .warn rfl)
  refine ⟨bus ▸ id, bus ▸ id, warn ▸ id, only.service (out .service rfl) ▸ id, only.journey (out .journey rfl) ▸ id, ?_⟩
  unfold ReviewApart
  rw [warn]
  exact fun apart => apart.imp id fun none_ => mode.elim (fun same => same.trans none_) id

theorem BanksKept.of_free {bs : List Block} {s t : State} (only : OnlyIn bs s t) (free : bs.all bankFree = true) :
    BanksKept s t := by
  have quiet : Block.disp ∉ bs := fun inside => absurd (List.all_eq_true.mp free .disp inside) (by decide)
  have beside : bs.all (fun b => b = .disp || bankFree b) = true :=
    List.all_eq_true.mpr fun b inside => by simp [List.all_eq_true.mp free b inside]
  exact .of_disp only beside (.inl (by rw [only.disp quiet]))

/-! ### The end of a command -/

theorem BanksKept.settled {s t : State} (h : BanksKept s t) : BanksKept s (settled t) :=
  h.trans (.of_disp (settled_only t) rfl (.inl (settled_setMode t)))

/-! ### Places of the banks -/

theorem modifyRoster_banks (n : Nat) (f : RosterEntry → RosterEntry) (s : State) :
    BanksKept s (modifyRoster n f s) := by
  unfold modifyRoster
  refine .ite ?_ (.refl s)
  exact ⟨fun h => (length_modifyAt _ _ _).trans h, id, id, id, id, id⟩

theorem modifyDemand_banks (n : Nat) (f : PendingDemand → PendingDemand) (s : State) :
    BanksKept s (modifyDemand n f s) := by
  unfold modifyDemand
  refine .ite ?_ (.refl s)
  exact ⟨id, fun h => (length_modifyAt _ _ _).trans h, id, id, id, id⟩

theorem modifyWarn_banks (n : Nat) (f : WarnEntry → WarnEntry) (s : State) : BanksKept s (modifyWarn n f s) := by
  unfold modifyWarn
  refine .ite ?_ (.refl s)
  exact ⟨id, id, fun h => (length_modifyAt _ _ _).trans h, id, id, id⟩

theorem modifyItem_banks (i : Nat) (f : Item → Item) (s : State) : BanksKept s (modifyItem i f s) := by
  unfold modifyItem
  refine .ite ?_ (.refl s)
  exact ⟨id, id, id, fun h => (length_modifyAt _ _ _).trans h, id, id⟩

/-! ### Demands -/

theorem answerBits_banks (n : Nat) : ∀ (bits : List Nat) (s : State), BanksKept s (answerBits n bits s)
  | [], s => modifyDemand_banks n _ s
  | b :: rest, s => by
    unfold answerBits
    split
    · split
      · have queued : ∀ p, BanksKept s { s with port := p } := fun p => .of_free (only_port s p) rfl
        exact ((queued _).trans (modifyDemand_banks n _ _)).trans (answerBits_banks n rest _)
      · exact modifyDemand_banks n _ s
    · exact answerBits_banks n rest s

theorem takeDemand_banks (n : Nat) (mask : BitVec 6) (index : Option Nat) (s : State) :
    BanksKept s (takeDemand n mask index s) :=
  .ite (modifyDemand_banks _ _ s) ((modifyDemand_banks _ _ s).trans (answerBits_banks _ _ _))

/-! ### Review, set mode and messages -/

theorem closeReview_banks (s : State) : BanksKept s (closeReview s) := ⟨id, id, id, id, id, fun _ => .inl rfl⟩

theorem leaveSetMode_banks (s : State) : BanksKept s (leaveSetMode s) := ⟨id, id, id, id, id, fun _ => .inr rfl⟩

@[simp] theorem wakeDisplay_setMode (s : State) : (wakeDisplay s).disp.setMode = s.disp.setMode := by
  unfold wakeDisplay
  split <;> rfl

theorem wakeDisplay_banks (s : State) : BanksKept s (wakeDisplay s) :=
  .of_disp (wakeDisplay_only s) rfl (.inl (wakeDisplay_setMode s))

theorem becomeShowing_banks (r : MsgRecord) (s : State) : BanksKept s (becomeShowing r s) := by
  have shown : ∀ m, BanksKept s { s with msg := m } := fun m => .of_free (only_msg s m) rfl
  exact (((shown _).trans (closeReview_banks _)).trans (leaveSetMode_banks _)).trans (wakeDisplay_banks _)

theorem select_banks (s : State) : BanksKept s (select s) := by
  unfold select
  split
  · exact becomeShowing_banks _ s
  · exact .ite (BanksKept.trans (.of_free (backToWaiting_only s) rfl) (becomeShowing_banks _ _)) (.refl s)
  · exact .refl s

theorem msgPost_banks (o : MsgOrigin) (x : Text) (prio : Nat) (mx : Option Nat) (s : State) :
    BanksKept s (msgPost o x prio mx s).2 := by
  rcases msgPost_cases o x prio mx s with ⟨_, post⟩ | ⟨_, _, post⟩ | ⟨w, _, _, _, _, post⟩ | ⟨_, _, post⟩ <;> rw [post]
  · exact BanksKept.trans (.of_free (replaceRecord_only _ _ _ _ s) rfl) (select_banks _)
  · exact BanksKept.trans (.of_free (joinRecord_only _ _ _ _ s) rfl) (select_banks _)
  · exact BanksKept.trans (.of_free ((dropRecord_only _ s).trans (joinRecord_only _ _ _ _ _)) rfl) (select_banks _)
  · exact .refl s

theorem removeRecord_banks (o : MsgOrigin) (s : State) : BanksKept s (removeRecord o s) :=
  .ite (BanksKept.trans (.of_free (dropRecord_only o s) rfl) (select_banks _)) (.refl s)

/-! ### Reminders and posts -/

theorem postReminder_banks (i : Nat) (s : State) : BanksKept s (postReminder i s) := by
  have post := msgPost_banks .reminder (.service (itemOf s i).state i) 5 (some 4) s
  have timed : ∀ (t : State) x, BanksKept t { t with service := { t.service with repostTimer := x } } :=
    fun _ _ => .of_same
  unfold postReminder
  split <;> rename_i taken <;> rw [taken] at post <;> exact post.trans (timed _ _)

theorem setCursor_banks (next : Option Nat) (s : State) : BanksKept s (setCursor next s) := by
  have moved : ∀ c x, BanksKept s { s with service := { s.service with cursor := c, repostTimer := x } } :=
    fun _ _ => .of_same
  unfold setCursor
  split
  · exact (moved _ _).trans (postReminder_banks _ _)
  · exact moved _ _

theorem advanceReminder_banks (s : State) : BanksKept s (advanceReminder s) := by
  unfold advanceReminder
  split
  · exact setCursor_banks _ s
  · exact .refl s

theorem endReminders_banks (s : State) : BanksKept s (endReminders s) := by
  refine BanksKept.trans ?_ (removeRecord_banks .reminder _)
  exact .of_same

theorem chimeDropped_banks (src : ChimeSource) (s : State) : BanksKept s (chimeDropped src s) := by
  unfold chimeDropped
  split
  · exact modifyWarn_banks _ _ s
  · exact .refl s

theorem messageDropped_banks (o : MsgOrigin) (s : State) : BanksKept s (messageDropped o s) := by
  unfold messageDropped
  split
  · exact modifyWarn_banks _ _ s
  · exact advanceReminder_banks s
  · exact .refl s

theorem postChime_banks (src : ChimeSource) (pat : ChimePattern) (prio reps : Nat) (s : State) :
    BanksKept s (postChime src pat prio reps s).2 := by
  have post : BanksKept s (chimePost src pat prio reps s).2 := .of_free (chimePost_only _ _ _ _ s) rfl
  unfold postChime
  split <;> rename_i taken <;> rw [taken] at post
  · exact post
  · exact post
  · exact post.trans (chimeDropped_banks _ _)

theorem postMessage_banks (o : MsgOrigin) (x : Text) (prio : Nat) (mx : Option Nat) (s : State) :
    BanksKept s (postMessage o x prio mx s).2 := by
  have post := msgPost_banks o x prio mx s
  unfold postMessage
  split <;> rename_i taken <;> rw [taken] at post
  · exact post
  · exact post
  · exact post.trans (messageDropped_banks _ _)

theorem postNote_banks (o : MsgOrigin) (x : Text) (prio : Nat) (mx : Option Nat) (s : State) :
    BanksKept s (postNote o x prio mx s) := postMessage_banks o x prio mx s

/-! ### The store -/

theorem markTaken_banks (r : StoreRecord) (s : State) : BanksKept s (markTaken r s) := by
  cases r
  case position p => exact ⟨id, id, id, id, fun h => (length_modifyAt _ _ _).trans h, id⟩
  case item i => exact modifyItem_banks i _ s
  all_goals exact .of_same

theorem takeRecord_banks (s : State) (r : StoreRecord) : BanksKept s (takeRecord s r) := by
  rcases takeRecord_cases s r with ⟨_, _, _, _, taken⟩ | left
  · rw [taken]
    exact BanksKept.trans (.of_free (only_nsp s _) rfl) (markTaken_banks r _)
  · rw [left]
    exact .refl s

theorem kickWriter_banks (s : State) : BanksKept s (kickWriter s) := .of_free (kickWriter_only s) rfl

theorem offerRecord_banks (r : StoreRecord) (s : State) : BanksKept s (offerRecord r s) :=
  (takeRecord_banks s r).trans (kickWriter_banks _)

theorem reofferAll_banks (s : State) : BanksKept s (reofferAll s) := .foldl takeRecord_banks _ s

theorem markOdometer_banks (s : State) : BanksKept s (markOdometer s) :=
  BanksKept.trans (.of_free (only_trip s _) rfl) (offerRecord_banks .odometer _)

theorem markOpenSlot_banks (s : State) : BanksKept s (markOpenSlot s) := by
  refine BanksKept.trans ?_ (offerRecord_banks .openSlot _)
  exact .of_same

theorem completeWrite_banks (s : State) : BanksKept s (completeWrite s) := by
  have stored : ∀ n f, BanksKept s { s with nsp := n, faults := f } := fun _ _ => .of_same
  have head : ∀ e rest, BanksKept s (storeHead e rest s) := fun e rest =>
    ((stored _ _).trans (.ite (reofferAll_banks _) (.refl _))).trans (kickWriter_banks _)
  unfold completeWrite
  split
  · exact .ite (.refl s) (head _ _)
  · exact .refl s

/-! ### Service items -/

theorem markItem_banks (i : Nat) (s : State) : BanksKept s (markItem i s) :=
  .ite (modifyItem_banks _ _ s) ((modifyItem_banks _ _ s).trans (offerRecord_banks _ _))

theorem itemMoved_banks (i : Nat) (km : Int) (hours : Option Int) (m : Bool) (s : State) :
    BanksKept s (itemMoved i km hours m s) :=
  (modifyItem_banks i _ s).trans (.ite (markItem_banks i _) (.refl _))

theorem wholeKmMark_banks (s : State) : BanksKept s (wholeKmMark s) :=
  .foldl (fun t _ => .ite (itemMoved_banks _ _ _ _ t) (.refl t)) _ s

theorem countHours_banks (s : State) (i : Nat) : BanksKept s (countHours s i) := by
  unfold countHours
  split
  · exact .ite (itemMoved_banks _ _ _ _ s) (.refl s)
  · exact .refl s

theorem countTenths_banks : ∀ (n : Nat) (s : State), BanksKept s (countTenths n s)
  | 0, s => .refl s
  | n + 1, s => (BanksKept.foldl countHours_banks itemNumbers s).trans (countTenths_banks n _)

theorem runSeconds_banks (d : Nat) (s : State) : BanksKept s (runSeconds d s) := by
  refine BanksKept.trans ?_ (countTenths_banks _ _)
  exact .of_same

theorem cursorAfterReset_banks (i : Nat) (s : State) : BanksKept s (cursorAfterReset i s) := by
  unfold cursorAfterReset
  split
  · split
    · exact setCursor_banks _ s
    · exact endReminders_banks s
  · exact .refl s

theorem resetItem_banks (s : State) (i : Nat) : BanksKept s (resetItem s i) :=
  ((modifyItem_banks i _ s).trans (markItem_banks i _)).trans (cursorAfterReset_banks i _)

theorem serviceResetOp_banks (i : Nat) (s : State) : BanksKept s (serviceResetOp i s) :=
  .ite ((BanksKept.foldl resetItem_banks _ s).trans (postNote_banks _ _ _ _ _))
    ((resetItem_banks s i).trans (postNote_banks _ _ _ _ _))

/-! ### Warnings -/

theorem changeWarn_banks (n : Nat) (f : WarnEntry → WarnEntry) (s : State) : BanksKept s (changeWarn n f s) :=
  .ite ((modifyWarn_banks n f s).trans (.of_free (afterEntry7_only _ _ _) rfl)) (modifyWarn_banks n f s)

theorem postWarnChime_banks (n : Nat) (s : State) : BanksKept s (postWarnChime n s) := by
  unfold postWarnChime
  split
  · rename_i pat reps _
    have post := postChime_banks (.warning n) pat (warnPriority n) reps s
    split <;> rename_i taken <;> rw [taken] at post
    · exact post.trans (modifyWarn_banks _ _ _)
    · exact post
  · exact modifyWarn_banks _ _ s

theorem postWarnMessage_banks (n : Nat) (s : State) : BanksKept s (postWarnMessage n s) := by
  have post := postMessage_banks (.warning n) (.warning n) (warnPriority n) none s
  unfold postWarnMessage
  split <;> rename_i taken <;> rw [taken] at post
  · exact post.trans (modifyWarn_banks _ _ _)
  · exact post

theorem postOutstanding_banks (n : Nat) (s : State) : BanksKept s (postOutstanding n s) := by
  have chime : BanksKept s (if (warnEntry s n).chimeOut then postWarnChime n s else s) :=
    .ite (postWarnChime_banks n s) (.refl s)
  exact (chime.trans (.ite (postWarnMessage_banks n _) (.refl _))).trans (modifyWarn_banks n _ _)

theorem enterActive_banks (n c : Nat) (s : State) : BanksKept s (enterActive n c s) :=
  .ite ((changeWarn_banks _ _ s).trans (postOutstanding_banks n _)) (changeWarn_banks _ _ s)

/-- The posts of an entry are withdrawn after its change. -/
theorem withdrawn_banks (n : Nat) (f : WarnEntry → WarnEntry) (s : State) :
    BanksKept s (removeRecord (.warning n) (withdrawChime (.warning n) (changeWarn n f s))) :=
  ((changeWarn_banks n f s).trans (.of_free (withdrawChime_only _ _) rfl)).trans (removeRecord_banks _ _)

theorem enterIdle_banks (n : Nat) (s : State) : BanksKept s (enterIdle n s) := withdrawn_banks n _ s

theorem acknowledge_banks (n : Nat) (s : State) : BanksKept s (acknowledge n s) :=
  .ite (withdrawn_banks n _ s) (.refl s)

theorem evaluatedTrue_banks (n : Nat) (s : State) : BanksKept s (evaluatedTrue n s) := by
  unfold evaluatedTrue returnToPrior
  dsimp only
  split
  case h_1 => exact .ite (enterActive_banks _ _ s) (changeWarn_banks _ _ s)
  case h_2 => exact .ite (enterActive_banks _ _ s) (changeWarn_banks _ _ s)
  case h_3 => exact .refl s
  case h_4 => exact .ite (enterActive_banks _ _ s) (.refl s)
  case h_5 => exact changeWarn_banks _ _ s

theorem evaluatedFalse_banks (n : Nat) (s : State) : BanksKept s (evaluatedFalse n s) := by
  unfold evaluatedFalse enterClearing
  dsimp only
  split
  case h_1 => exact .refl s
  case h_2 => exact changeWarn_banks _ _ s
  all_goals exact .ite (enterIdle_banks _ s) (changeWarn_banks _ _ s)

theorem evaluate_banks (s : State) (n : Nat) : BanksKept s (evaluate s n) := by
  unfold evaluate
  dsimp only
  split
  · split
    · exact .ite (evaluatedTrue_banks n s) (evaluatedFalse_banks n s)
    · exact .refl s
  · exact .refl s

theorem applyGates_banks (s : State) : BanksKept s (applyGates s) :=
  .foldl (fun t n => .ite (enterIdle_banks n t) (.refl t)) _ s

theorem evaluateReport_banks (k : ReportKind) (s : State) : BanksKept s (evaluateReport k s) :=
  .foldl evaluate_banks _ s

/-! ### The review -/

/-- The review opens where set mode is left. -/
theorem openReview_banks {s : State} (left : s.disp.setMode = .none) : BanksKept s (openReview s) := by
  unfold openReview showReview
  split <;> exact ⟨id, id, id, id, id, fun _ => .inr left⟩

/-- A review that is open moves on or closes. -/
theorem moveReview_banks (s : State) : BanksKept s (moveReview s) := by
  unfold moveReview
  split
  · rename_i n shown
    have left : ReviewApart s → s.disp.setMode = .none := fun apart =>
      apart.resolve_left (by rw [shown]; exact Review.noConfusion)
    unfold showReview
    split
    · exact ⟨id, id, id, id, id, fun apart => .inr (left apart)⟩
    · exact closeReview_banks s
  · exact closeReview_banks s
  · exact .refl s

/-! ### The journey -/

theorem journeyMinute_banks (s : State) : BanksKept s (journeyMinute s) := by
  unfold journeyMinute
  split
  · exact .refl s
  · have counted : ∀ o, BanksKept s { s with journey := { s.journey with openJourney := o } } :=
      fun _ => .of_same
    exact .ite ((counted _).trans (markOpenSlot_banks _)) (counted _)

theorem journeyFuel_banks (d : Nat) (s : State) : BanksKept s (journeyFuel d s) := by
  unfold journeyFuel
  split
  · exact .refl s
  · exact .of_same

theorem openJourneyOp_banks (s : State) : BanksKept s (openJourneyOp s) := by
  refine BanksKept.trans (BanksKept.trans ?_ (markOpenSlot_banks _)) (postNote_banks _ _ _ _ _)
  exact .of_same

theorem closeJourneyOp_banks (j : Journey) (s : State) : BanksKept s (closeJourneyOp j s) := by
  refine BanksKept.trans ?_ (postNote_banks _ _ _ _ _)
  refine BanksKept.trans ?_ (offerRecord_banks .openSlot _)
  refine BanksKept.trans (BanksKept.trans ?_ (offerRecord_banks (.position (ringPositionOf j.number)) _))
    (offerRecord_banks .header _)
  exact ⟨id, id, id, id, fun h => (length_modifyAt _ _ _).trans h, id⟩

theorem clearJourneys_banks (s : State) : BanksKept s (clearJourneys s) := by
  refine BanksKept.trans (BanksKept.trans ?_ (.foldl (fun t p => offerRecord_banks (.position p) t) _ _))
    (postNote_banks _ _ _ _ _)
  exact ⟨id, id, id, id, fun h => (List.length_map _).trans h, id⟩

/-! ### Distance, fuel and the clock -/

theorem odometerStep_banks (s : State) : BanksKept s (odometerStep s) := by
  let moved : State := { s with trip := { s.trip with odometer := s.trip.odometer + 1 } }
  have moves : BanksKept s moved := .of_same
  have marked : BanksKept s (if moved.trip.odometer % 10 = 0 then wholeKmMark moved else moved) :=
    .ite (moves.trans (wholeKmMark_banks moved)) moves
  exact .ite (.ite (marked.trans (markOdometer_banks _)) marked) (.refl s)

theorem distanceStep_banks (s : State) : BanksKept s (distanceStep s) := by
  have stepped : ∀ t, BanksKept t (journeyStep t) := fun _ => .of_same
  exact (((odometerStep_banks s).trans (.of_free (tripsStep_only _) rfl)).trans (stepped _)).trans
    (.of_free (watchStep_only _) rfl)

theorem distanceSteps_banks : ∀ (n : Nat) (s : State), BanksKept s (distanceSteps n s)
  | 0, s => .refl s
  | n + 1, s => (distanceStep_banks s).trans (distanceSteps_banks n _)

theorem pulseDelta_banks (d : Nat) (s : State) : BanksKept s (pulseDelta d s) :=
  BanksKept.trans (.of_free (only_trip s _) rfl) (distanceSteps_banks _ _)

theorem fuelDelta_banks (d : Nat) (s : State) : BanksKept s (fuelDelta d s) :=
  (BanksKept.trans (.of_free (only_trip s _) rfl) (journeyFuel_banks d _)).trans (.of_free (deadReckon_only d _) rfl)

theorem issue_banks {f : Nat → State → State} (kept : ∀ d t, BanksKept t (f d t)) (d : Nat) (s : State) :
    BanksKept s (issue f d s) := .ite (.refl s) (kept d s)

theorem clockPeriod_banks (s : State) : BanksKept s (clockPeriod s) := by
  have set : ∀ (t : State) c, BanksKept t { t with clock := c } := fun t c => .of_free (only_clock t c) rfl
  have minute : ∀ t, BanksKept t (minuteTick t) := fun t =>
    BanksKept.trans (.ite (.refl t) (set _ _)) (journeyMinute_banks _)
  exact (set _ _).trans (.ite ((set _ _).trans (minute _)) (set _ _))

/-! ### The load -/

theorem loadItem_banks (m : Option (List (Nat × Word))) (s : State) (i : Nat) : BanksKept s (loadItem m s i) := by
  unfold loadItem
  split
  · exact modifyItem_banks _ _ s
  · exact BanksKept.trans (.of_free (only_faults s _) rfl) (modifyItem_banks _ _ _)

theorem finishLoad_banks (m : Option (List (Nat × Word))) (s : State) : BanksKept s (finishLoad m s) := by
  have odometer : BanksKept s (loadOdometer m s) := by
    unfold loadOdometer
    split <;> exact .of_same
  have journey : ∀ t, BanksKept t (loadJourney m t) := fun _ => .of_same
  have listening : ∀ (t : State) x, BanksKept t { t with power := x } := fun t x => .of_free (only_power t x) rfl
  have loaded := (odometer.trans (.foldl (loadItem_banks m) itemNumbers _)).trans (journey _)
  unfold finishLoad
  dsimp only
  exact (loaded.trans (listening _ _)).trans (.foldl (fun t i => offerRecord_banks (.item i) t) itemNumbers _)

/-- The load ends alike whether it is completed or fails, after a change of the store port and the flags. -/
theorem load_banks (m : Option (List (Nat × Word))) (s : State) (n : Nsp) (f : Faults) :
    BanksKept s (finishLoad m { s with faults := f, nsp := n }) := by
  refine BanksKept.trans ?_ (finishLoad_banks m _)
  exact .of_same

end Sys2Proof.Machine
end

section
/-! PROOFS. Banks of every command and every step: the reports, the power states, the keys and the timers keep the banks
whole and a review and set mode apart, and the statement about them (O12). -/

namespace Sys2Proof.Machine

/-! ### Reports -/

theorem noteHeard_banks (h : Heard) (s : State) : BanksKept s (noteHeard h s) :=
  (modifyRoster_banks _ _ s).trans (.of_free (only_power _ _) rfl)

theorem hearFrame_banks {handle : State → State} (handles : ∀ t, BanksKept t (handle t)) (fits : Bool) (h : Heard)
    (s : State) : BanksKept s (hearFrame fits h handle s) := by
  unfold hearFrame
  split
  · exact .refl s
  · exact .refl s
  · exact .of_free (noteClash_only s) rfl
  · exact (noteHeard_banks h s).trans (handles _)

theorem setEntry_banks (k : ReportKind) (e : ReportEntry) (s : State) :
    BanksKept s { s with bus := setEntry k e s.bus } := by
  cases k <;> exact .of_same

theorem holdSpeed_banks (speed : Slot) (s : State) : BanksKept s (holdSpeed speed s) := by
  unfold holdSpeed
  split
  · exact .of_same
  · exact .refl s

theorem takeGateSpeed_banks (ready : Bool) (speed : Slot) (s : State) : BanksKept s (takeGateSpeed ready speed s) := by
  unfold takeGateSpeed
  split
  · exact .ite .of_same (.refl s)
  · exact .refl s

theorem followEngine_banks (ready : Bool) (flags : Slot) (s : State) : BanksKept s (followEngine ready flags s) := by
  have timed : ∀ x e, BanksKept s { s with warn := { s.warn with engineTimer := x, engineEst := e } } :=
    fun _ _ => .of_same
  unfold followEngine
  split
  · exact .ite (.ite (.ite (.refl s) (timed _ _)) (timed _ _)) (.refl s)
  · exact .refl s

theorem rearCall_banks (s : State) : BanksKept s (rearCall s) :=
  (postChime_banks _ _ _ _ s).trans (postNote_banks _ _ _ _ _)

theorem consumers_banks (k : ReportKind) (h : Heard) (d e : Nat) (c : Bool) (s : State) :
    BanksKept s (consumers k h d e c s) := by
  cases k
  case engine =>
    exact ((followEngine_banks _ _ s).trans (applyGates_banks _)).trans (evaluateReport_banks _ _)
  case fuelFlow => exact (issue_banks fuelDelta_banks d s).trans (issue_banks runSeconds_banks e _)
  case chassis =>
    have moved := (issue_banks pulseDelta_banks d s).trans
      (.of_free (followStandstill_only (slotAt h.slots 2) _) rfl)
    have speeds := (moved.trans (holdSpeed_banks (slotAt h.slots 2) _)).trans
      (takeGateSpeed_banks h.ready (slotAt h.slots 2) _)
    exact (speeds.trans (applyGates_banks _)).trans (evaluateReport_banks _ _)
  case tank => exact .of_free (consumers_only .tank h d e c s) rfl
  case bodyDoors => exact evaluateReport_banks _ s
  case bodyLamps => exact evaluateReport_banks _ s
  case rearConsole => exact BanksKept.trans (.ite (rearCall_banks s) (.refl s)) (.of_free (hushChanged_only _) rfl)

theorem offerReport_banks (k : ReportKind) (h : Heard) (s : State) : BanksKept s (offerReport k h s) := by
  unfold offerReport
  split
  · exact (setEntry_banks k _ s).trans (consumers_banks k h _ _ _ _)
  · exact (setEntry_banks k _ s).trans (modifyRoster_banks _ _ _)
  · exact .refl s

theorem heardPresence_banks (h : Heard) (s : State) : BanksKept s (heardPresence h s) :=
  .ite .of_same (.refl s)

theorem expireStale_banks (k : ReportKind) (s : State) : BanksKept s (expireStale k s) := by
  unfold expireStale
  split
  · exact .ite (((setEntry_banks k _ s).trans (.of_free (staleEffects_only k _) rfl)).trans
      (.of_free (offerOwned_only _ _) rfl)) (.refl s)
  · exact .refl s

/-! ### Power states -/

theorem coldStart_banks (crank lowv : Bool) (s : State) : BanksKept s (coldStart crank lowv s) :=
  ⟨fun _ => rfl, fun _ => rfl, fun _ => rfl, fun _ => rfl, fun _ => rfl, fun _ => .inl rfl⟩

theorem supplyLost_banks (cut : Option Word) (s : State) : BanksKept s (supplyLost cut s) :=
  ⟨fun _ => rfl, fun _ => rfl, fun _ => rfl, fun _ => rfl, fun _ => rfl, fun _ => .inl rfl⟩

theorem enterRun_banks (s : State) : BanksKept s (enterRun s) := by
  refine BanksKept.trans ?_ (applyGates_banks _)
  exact ⟨id, id, id, id, id, fun _ => .inl rfl⟩

theorem watchBegun_banks (g : Gauges) (s : State) : BanksKept s (watchBegun g s) :=
  ⟨id, id, id, id, id, fun _ => .inl rfl⟩

theorem startInto_banks (toRun : Bool) (s : State) : BanksKept s (startInto toRun s) :=
  .ite (enterRun_banks s) ((watchBegun_banks _ s).trans (applyGates_banks _))

theorem offerStores_banks (s : State) : BanksKept s (offerStores s) := by
  have moved : ∀ t i, BanksKept t (markMoved t i) := fun t i => .ite (markItem_banks i t) (.refl t)
  unfold offerStores
  dsimp only
  exact ((markOdometer_banks s).trans (.ite (markOpenSlot_banks _) (.refl _))).trans (.foldl moved itemNumbers _)

theorem enterWatch_banks (s : State) : BanksKept s (enterWatch s) :=
  (((watchBegun_banks _ s).trans (endReminders_banks _)).trans (applyGates_banks _)).trans (offerStores_banks _)

theorem enterSleep_banks (s : State) : BanksKept s (enterSleep s) :=
  ⟨fun h => (List.length_map _).trans h, fun h => (List.length_map _).trans h, fun _ => rfl, id, id,
    fun _ => .inl rfl⟩

theorem wakeBlocks_banks (warm : Bool) (kind : Nat) (s : State) : BanksKept s (wakeBlocks warm kind s) := by
  let emptied : State := emptyMessages (emptyChimes { s with port := wakePort warm s.port })
  have quiet : BanksKept s emptied :=
    (BanksKept.trans (.of_free (only_port s _) rfl) (.of_free (emptyChimes_only _) rfl)).trans
      (.of_free (emptyMessages_only _) rfl)
  have woken : BanksKept emptied (wakeBlocks warm kind s) :=
    ⟨fun h => (List.length_map _).trans h, fun h => (List.length_map _).trans h, fun _ => rfl, id, id,
      fun _ => .inl rfl⟩
  exact quiet.trans woken

theorem wakeStart_banks (toRun : Bool) (s : State) : BanksKept s (wakeStart toRun s) :=
  ((((wakeBlocks_banks false 1 s).trans (startInto_banks toRun _)).trans (reofferAll_banks _)).trans
    (kickWriter_banks _)).trans (.of_free (offerOwned_only .presence _) rfl)

theorem warmRestart_banks (s : State) : BanksKept s (warmRestart s) :=
  ((wakeBlocks_banks true 2 s).trans (startInto_banks _ _)).trans (.of_free (offerOwned_only .presence _) rfl)

theorem rosterRefresh_banks (s : State) : BanksKept s (rosterRefresh s) := by
  have unbound : ∀ p, BanksKept s { s with
      bus := { Bus.cold with heldSpeed := s.bus.heldSpeed, mirrorTimer := s.bus.mirrorTimer }, port := p } :=
    fun _ => ⟨fun _ => rfl, fun _ => rfl, id, id, id, id⟩
  have fuel : ∀ t, BanksKept t (clearPump (clearStandstill t)) := fun t =>
    .of_free ((clearStandstill_only t).trans (clearPump_only _)) rfl
  exact (((unbound _).trans (fuel _)).trans (.of_free (hushChanged_only _) rfl)).trans
    (.of_free (offerOwned_only .rollCall _) rfl)

theorem endListen_banks (s : State) : BanksKept s (endListen s) :=
  (BanksKept.trans (.of_free (only_power s _) rfl) (startInto_banks _ _)).trans
    (.of_free (offerOwned_only .presence _) rfl)

theorem setIgn_banks (on : Bool) (s : State) : BanksKept s (setIgn on s) := .of_free (only_power s _) rfl

theorem ignitionOn_banks (s : State) : BanksKept s (ignitionOn s) := by
  have set := setIgn_banks true s
  unfold ignitionOn
  split
  · exact .refl s
  · exact set
  · exact set
  · exact (set.trans (enterRun_banks _)).settled
  · exact (set.trans (wakeStart_banks true _)).settled

theorem ignitionOff_banks (s : State) : BanksKept s (ignitionOff s) := by
  have set := setIgn_banks false s
  unfold ignitionOff
  split
  · exact .refl s
  · exact set
  · exact set
  · exact set
  · exact (set.trans (enterWatch_banks _)).settled

theorem pulseOnLine_banks (s : State) : BanksKept s (pulseOnLine s) := .of_free (only_port s _) rfl

theorem pulseHeard_banks (s : State) : BanksKept s (pulseHeard s) := by
  unfold pulseHeard
  split
  · exact .refl s
  · exact ((pulseOnLine_banks s).trans (wakeStart_banks _ _)).settled
  all_goals exact pulseOnLine_banks s

theorem keyWakes_banks (key : Key) (s : State) : BanksKept s (keyWakes key s) := by
  have wanted : ∀ (t : State) p k, BanksKept t { t with port := p, keys := k } := fun _ _ _ => .of_same
  exact (wakeStart_banks false s).trans (wanted _ _ _)

theorem dipInput_banks (input : DipInput) (s : State) : BanksKept s (dipInput input s) := by
  have active : ∀ (t : State) x, BanksKept t { t with power := x } := fun t x => .of_free (only_power t x) rfl
  have begun : ∀ t, BanksKept t (beginDip t) := fun t =>
    (((active t _).trans (.of_free (silenceForDip_only _) rfl)).trans (.of_free (only_nsp _ _) rfl)).trans
      (applyGates_banks _)
  exact .ite (active s _) ((active s _).trans (begun _))

theorem answerOperation_banks (answer : StoreAnswer) (s : State) : BanksKept s (answerOperation answer s) := by
  refine .ite ?_ (.of_free (answerWrite_only answer s) rfl)
  unfold answerLoad
  split
  · exact .of_same
  · exact .ite (.of_free (only_nsp s _) rfl) (load_banks _ _ _ _)
  · exact .refl s

/-! ### Keys -/

theorem holdKey_banks (k : Key) (v : KeyState) (s : State) : BanksKept s (holdKey k v s) :=
  .of_free (holdKey_only k v s) rfl

theorem pressNoted_banks (s : State) : BanksKept s (pressNoted s) :=
  (wakeDisplay_banks s).trans (postChime_banks _ _ _ _ _)

@[simp] theorem keepSetMode_setMode (s : State) : (keepSetMode s).disp.setMode = s.disp.setMode := by
  unfold keepSetMode
  split <;> rfl

theorem acceptPress_banks {act : State → State} (acts : ∀ t, BanksKept t (act t)) (k : Key)
    (holds : State → KeyAction) (s : State) : BanksKept s (acceptPress k holds act s) := by
  have woken : ∀ x, BanksKept s { s with keys := x } := fun x => .of_free (only_keys s x) rfl
  have kept : ∀ t, BanksKept t (keepSetMode t) := fun t =>
    .of_disp (keepSetMode_only t) rfl (.inl (keepSetMode_setMode t))
  refine .ite (.ite ?_ ?_) (.refl s)
  · exact ((woken _).trans (pressNoted_banks _)).trans (holdKey_banks _ _ _)
  · exact (((pressNoted_banks s).trans (kept _)).trans (acts _)).trans (holdKey_banks _ _ _)

theorem acceptRelease_banks {act : KeyAction → State → State} (acts : ∀ a t, BanksKept t (act a t)) (k : Key)
    (s : State) : BanksKept s (acceptRelease k act s) := by
  unfold acceptRelease
  split
  · exact .ite ((holdKey_banks _ _ s).trans (acts _ _)) (.refl s)
  · exact .refl s

/-- What a press finds in set mode or at the base readout: no review is open. -/
theorem review_closed_of_shownNow {s : State} (shown : shownNow s = .setMode ∨ shownNow s = .readout) :
    s.warn.review = .closed := by
  unfold shownNow at shown
  split at shown
  · simp at shown
  · by_contra isOpen
    simp [isOpen] at shown

theorem setMode_of_readout {s : State} (shown : shownNow s = .readout) : s.disp.setMode = .none := by
  have closed := review_closed_of_shownNow (.inr shown)
  unfold shownNow at shown
  split at shown
  · cases shown
  · by_contra setting
    simp [closed, setting] at shown

@[simp] theorem setReadout_setMode (n : Nat) (s : State) : (setReadout n s).disp.setMode = s.disp.setMode := by
  unfold setReadout
  split <;> rfl

theorem setReadout_banks (n : Nat) (s : State) : BanksKept s (setReadout n s) :=
  .of_disp (setReadout_only n s) rfl (.inl (setReadout_setMode n s))

theorem modeAction_banks (s : State) : BanksKept s (modeAction s) := by
  unfold modeAction
  split
  · exact .refl s
  · exact (closeReview_banks s).trans (setReadout_banks _ _)
  · exact setReadout_banks _ s
  · exact (leaveSetMode_banks s).trans (setReadout_banks _ _)

/-- Set mode is entered or goes on where the review is closed. -/
theorem setModeTo_banks {s : State} (m : SetMode) (closed : s.warn.review = .closed) : BanksKept s (setModeTo m s) :=
  ⟨id, id, id, id, id, fun _ => .inl closed⟩

theorem selectOnReadout_banks {s : State} (closed : s.warn.review = .closed) : BanksKept s (selectOnReadout s) :=
  .ite .of_same
    (.ite (setModeTo_banks _ closed) (.ite (setModeTo_banks _ closed) (.refl s)))

theorem selectAction_banks (s : State) : BanksKept s (selectAction s) := by
  unfold selectAction
  split
  · exact .refl s
  · exact (closeReview_banks s).trans (selectOnReadout_banks rfl)
  · exact selectOnReadout_banks (review_closed_of_shownNow (.inr ‹_›))
  · exact .ite (setModeTo_banks _ (review_closed_of_shownNow (.inl ‹_›))) (leaveSetMode_banks s)

theorem resetAction_banks (s : State) : BanksKept s (resetAction s) := by
  unfold resetAction
  split
  · exact .refl s
  · exact .refl s
  · exact closeReview_banks s
  · unfold stepValue
    split <;> exact .of_same

theorem departRecord_banks (o : MsgOrigin) (s : State) : BanksKept s (departRecord o s) := by
  unfold departRecord
  split
  · exact (removeRecord_banks .reminder s).trans (advanceReminder_banks _)
  · exact removeRecord_banks o s

theorem noteRecord_banks (o : MsgOrigin) (s : State) : BanksKept s (noteRecord o s) := by
  unfold noteRecord
  split
  · exact (acknowledge_banks _ s).trans (departRecord_banks _ _)
  · exact departRecord_banks o s

theorem noteAction_banks (s : State) : BanksKept s (noteAction s) := by
  unfold noteAction
  split
  · exact noteRecord_banks _ s
  · exact moveReview_banks s
  · exact openReview_banks (setMode_of_readout ‹_›)
  · exact (leaveSetMode_banks s).trans (openReview_banks rfl)

theorem journeyAction_banks (s : State) : BanksKept s (journeyAction s) := by
  unfold journeyAction
  split
  · exact leaveSetMode_banks s
  · exact .refl s

theorem journeyShort_banks (a : KeyAction) (s : State) : BanksKept s (journeyShort a s) := by
  unfold journeyShort
  split
  · exact .ite (setReadout_banks _ s) (openJourneyOp_banks s)
  · exact .refl s

theorem journeyLong_banks (s : State) : BanksKept s (journeyLong s) := by
  unfold journeyLong
  split
  · exact closeJourneyOp_banks _ s
  · exact openJourneyOp_banks s

/-! ### Line and timers -/

theorem endAttempt_banks (act : TxEntry → Option TxEntry) (s : State) : BanksKept s (endAttempt act s) :=
  .of_free (endAttempt_only act s) rfl

theorem closeSlot_banks (e : TxEntry) (answer : Option Answer) (s : State) : BanksKept s (closeSlot e answer s) := by
  have ended := (endAttempt_banks (answerAct s.now answer) s).trans (.of_free (markSentWhole_only e.id.kind _) rfl)
  exact .ite (ended.trans (modifyRoster_banks _ _ _)) ended

theorem reoffer_banks (what : Reoffer) (s : State) : BanksKept s (reoffer what s) := by
  unfold reoffer
  split
  · exact .ite (answerBits_banks _ _ s) (.refl s)
  · exact .ite (.of_free (offerOwned_only _ s) rfl) (.refl s)

theorem mirrorPeriod_banks (s : State) : BanksKept s (mirrorPeriod s) := by
  have next : BanksKept s { s with bus := { s.bus with mirrorTimer := startFor s 500 } } := .of_same
  exact .ite (next.trans (.of_free (offerPeriodicMirror_only _) rfl)) next

theorem stopPeriod_banks (s : State) : BanksKept s (stopPeriod s) := by
  have next : BanksKept s { s with fuel := { s.fuel with stopTimer := startFor s 5000 } } :=
    .of_free (only_fuel s _) rfl
  exact .ite (next.trans (.of_free (offerOwned_only _ _) rfl)) next

theorem correctionPeriod_banks (s : State) : BanksKept s (correctionPeriod s) := by
  have next : BanksKept s { s with fuel := { s.fuel with corrTimer := startFor s 1000 } } :=
    .of_free (only_fuel s _) rfl
  exact .ite next (next.trans (.of_free (correctionStep_only _) rfl))

theorem peerChime_banks (source : Nat) (pattern : ChimePattern) (reps : Nat) (s : State) :
    BanksKept s (peerChime source pattern reps s) :=
  .ite (.of_free (withdrawChime_only _ s) rfl) (postChime_banks _ _ _ _ s)

theorem elementOver_banks (s : State) : BanksKept s (elementOver s) := by
  unfold elementOver
  split
  · exact BanksKept.trans (.of_free (endElement_only _ s) rfl) (.of_free (reportSource_only s _) rfl)
  · exact .refl s

theorem showTimeOver_banks (s : State) : BanksKept s (showTimeOver s) := by
  unfold showTimeOver
  split
  · exact departRecord_banks _ s
  · exact .refl s

theorem repost_banks (s : State) : BanksKept s (repost s) := by
  unfold repost
  split
  · exact .ite (postReminder_banks _ s) (.refl s)
  · exact .refl s

theorem completeTransfer_banks (s : State) : BanksKept s (completeTransfer s) := by
  unfold completeTransfer
  split
  · exact .ite .of_same .of_same
  · exact .refl s

/-! ### Every command -/

theorem dropHead_banks (s : State) : BanksKept s (dropHead s) := .of_free (dropHead_only s) rfl

/-- Every command keeps the banks whole, and a review and set mode apart. -/
theorem exec_banks (c : Instr) (s : State) : ∃ t, exec c s = .next t ∧ BanksKept s t := by
  cases c
  case standbySupplyUp crank lowv => exact ⟨_, rfl, .ite (.refl s) (coldStart_banks crank lowv s)⟩
  case standbySupplyLoss cut => exact ⟨_, rfl, .ite (supplyLost_banks cut s) (.refl s)⟩
  case settleEnd pins => exact ⟨_, rfl, .ite .of_same (.refl s)⟩
  case loadComplete whole => exact ⟨_, rfl, .ite (.ite (load_banks _ _ _ _) (load_banks _ _ _ _)) (.refl s)⟩
  case listenEnd => exact ⟨_, rfl, .ite (endListen_banks s).settled (.refl s)⟩
  case ignOn => exact ⟨_, rfl, ignitionOn_banks s⟩
  case ignOff => exact ⟨_, rfl, ignitionOff_banks s⟩
  case sleepTimerExpiry => exact ⟨_, rfl, .ite (enterSleep_banks s).settled (.refl s)⟩
  case wakePulseHeard => exact ⟨_, rfl, pulseHeard_banks s⟩
  case keyWake key => exact ⟨_, rfl, .ite (keyWakes_banks key s).settled (.refl s)⟩
  case supplyDipBegin input => exact ⟨_, rfl, .ite (dipInput_banks input s).settled (.refl s)⟩
  case dipInputsClear => exact ⟨_, rfl, .ite (.of_free (only_power s _) rfl) (.refl s)⟩
  case supplyDipEnd => exact ⟨_, rfl, .ite (BanksKept.of_free (endDip_only s) rfl).settled (.refl s)⟩
  case restartRequestRosterRefresh =>
    refine ⟨_, rfl, ?_⟩
    split
    · exact ((dropHead_banks s).trans (rosterRefresh_banks _)).settled
    · exact .refl s
  case restartRequestWarmRestart =>
    refine ⟨_, rfl, ?_⟩
    split
    · exact ((dropHead_banks s).trans (warmRestart_banks _)).settled
    · exact .refl s
  case reportArrival kind frame => exact ⟨_, rfl, (hearFrame_banks (offerReport_banks kind frame) _ frame s).settled⟩
  case rollCall frame => exact ⟨_, rfl, hearFrame_banks (fun t => .of_free (offerOwned_only .presence t) rfl) _ frame s⟩
  case presence frame => exact ⟨_, rfl, hearFrame_banks (heardPresence_banks frame) _ frame s⟩
  case otherFrameHeard kind target frame => exact ⟨_, rfl, .ite (hearFrame_banks .refl _ frame s) (.refl s)⟩
  case ownAddressFrameHeard => exact ⟨_, rfl, .ite (.of_free (noteClash_only s) rfl) (.refl s)⟩
  case frameDiscarded cause =>
    refine ⟨_, rfl, .ite ?_ (.refl s)⟩
    cases cause
    case wakePulse => exact pulseOnLine_banks s
    all_goals exact .refl s
  case addressedFrameAnswer kind frame =>
    exact ⟨_, rfl, hearFrame_banks (fun t => .of_free (answerHeard_only kind frame t) rfl) _ frame s⟩
  case demand =>
    refine ⟨_, rfl, ?_⟩
    split
    · exact (dropHead_banks s).trans (takeDemand_banks _ _ _ _)
    · exact .refl s
  case chimeRequest =>
    refine ⟨_, rfl, ?_⟩
    split
    · exact ((dropHead_banks s).trans (peerChime_banks _ _ _ _)).settled
    · exact .refl s
  case notice =>
    refine ⟨_, rfl, ?_⟩
    split
    · exact ((dropHead_banks s).trans (postNote_banks _ _ _ _ _)).settled
    · exact .refl s
  case serviceReset =>
    refine ⟨_, rfl, ?_⟩
    split
    · exact .ite ((dropHead_banks s).trans (serviceResetOp_banks _ _)).settled (dropHead_banks s)
    · exact .refl s
  case journeyClear =>
    refine ⟨_, rfl, ?_⟩
    split
    · exact .ite ((dropHead_banks s).trans (clearJourneys_banks _)).settled (dropHead_banks s)
    · exact .refl s
  case clockSet =>
    refine ⟨_, rfl, ?_⟩
    split
    · exact ((dropHead_banks s).trans (.of_free (setClock_only _ _) rfl)).settled
    · exact .refl s
  case attemptBegin => exact ⟨_, rfl, .of_free (beginAttempt_only s) rfl⟩
  case lostArbitration =>
    refine ⟨_, rfl, ?_⟩
    split
    · exact endAttempt_banks some s
    · exact .refl s
  case readbackFault =>
    refine ⟨_, rfl, ?_⟩
    split
    · exact (endAttempt_banks some s).trans (.of_free (countFault_only _) rfl)
    · exact .refl s
  case broadcastSentWhole =>
    refine ⟨_, rfl, ?_⟩
    split
    · exact .ite ((endAttempt_banks _ s).trans (.of_free (markSentWhole_only _ _) rfl)) (.refl s)
    · exact .refl s
  case answerSlotClose run =>
    refine ⟨_, rfl, ?_⟩
    split
    · exact .ite (.refl s) (closeSlot_banks _ _ s)
    · exact .refl s
  case lineFaultPauseExpiry | retryDelayExpiry | holdOffExpiry => exact ⟨_, rfl, .of_free (only_port s _) rfl⟩
  case ownerReoffer what => exact ⟨_, rfl, .ite (reoffer_banks what s) (.refl s)⟩
  case wakePulseSend => exact ⟨_, rfl, .ite (.of_free (only_port s _) rfl) (.refl s)⟩
  case staleTimerExpiry kind => exact ⟨_, rfl, (expireStale_banks kind s).settled⟩
  case rosterTimerExpiry station => exact ⟨_, rfl, modifyRoster_banks station expireRoster s⟩
  case mirrorTimerExpiry => exact ⟨_, rfl, .ite (mirrorPeriod_banks s) (.refl s)⟩
  case dampingStep => exact ⟨_, rfl, .ite (.of_free (dampingPeriod_only s) rfl) (.refl s)⟩
  case coilOffTimerExpiry => exact ⟨_, rfl, .ite (.of_free (only_gauges s _) rfl) (.refl s)⟩
  case correctionTimerExpiry => exact ⟨_, rfl, .ite (correctionPeriod_banks s).settled (.refl s)⟩
  case standstillTimerExpiry | pumpTimerExpiry => exact ⟨_, rfl, .ite (.of_free (only_fuel s _) rfl) (.refl s)⟩
  case transferStopTimerExpiry => exact ⟨_, rfl, .ite (stopPeriod_banks s) (.refl s)⟩
  case tripSecondTimerExpiry | instantSamplerExpiry =>
    exact ⟨_, rfl, .ite (BanksKept.of_free (only_trip s _) rfl).settled (.refl s)⟩
  case clockSecond => exact ⟨_, rfl, .ite (clockPeriod_banks s).settled (.refl s)⟩
  case modePress => exact ⟨_, rfl, (acceptPress_banks modeAction_banks _ _ s).settled⟩
  case selectPress => exact ⟨_, rfl, (acceptPress_banks selectAction_banks _ _ s).settled⟩
  case resetPress => exact ⟨_, rfl, (acceptPress_banks resetAction_banks _ _ s).settled⟩
  case notePress => exact ⟨_, rfl, (acceptPress_banks noteAction_banks _ _ s).settled⟩
  case journeyPress => exact ⟨_, rfl, (acceptPress_banks journeyAction_banks _ _ s).settled⟩
  case journeyRelease => exact ⟨_, rfl, (acceptRelease_banks journeyShort_banks _ s).settled⟩
  case journeyLongPress =>
    refine ⟨_, rfl, ?_⟩
    split
    · exact .ite ((holdKey_banks _ _ s).trans (journeyLong_banks _)).settled (.refl s)
    · exact .refl s
  case tripReset =>
    refine ⟨_, rfl, ?_⟩
    split
    · exact .ite ((holdKey_banks _ _ s).trans (.of_free (tripResetOp_only _ _) rfl)).settled (.refl s)
    · exact .refl s
  case serviceResetPress =>
    refine ⟨_, rfl, ?_⟩
    split
    · exact .ite ((holdKey_banks _ _ s).trans (.ite (serviceResetOp_banks _ _) (.refl _))).settled (.refl s)
    · exact .refl s
  case setModeTimeout => exact ⟨_, rfl, .ite (leaveSetMode_banks s).settled (.refl s)⟩
  case blinkTimerExpiry | journeyReadoutAlternate | displayTimerExpiry =>
    exact ⟨_, rfl, .ite (BanksKept.settled .of_same) (.refl s)⟩
  case displayTransferComplete => exact ⟨_, rfl, completeTransfer_banks s⟩
  case minimumShowTimeExpiry =>
    exact ⟨_, rfl, .ite (BanksKept.trans (.of_free (only_msg s _) rfl) (select_banks _)).settled (.refl s)⟩
  case maximumShowTimeExpiry => exact ⟨_, rfl, .ite (showTimeOver_banks s).settled (.refl s)⟩
  case reminderRepostTimerExpiry => exact ⟨_, rfl, .ite (repost_banks s).settled (.refl s)⟩
  case evaluationTimerExpiry =>
    refine ⟨_, rfl, .ite (BanksKept.trans ?_ (.foldl evaluate_banks timedEntries _)).settled (.refl s)⟩
    exact .of_same
  case reOfferTimerExpiry entry => exact ⟨_, rfl, .ite (postOutstanding_banks entry s).settled (.refl s)⟩
  case reChimeTimerExpiry entry => exact ⟨_, rfl, modifyWarn_banks entry rechimeFalls s⟩
  case reviewTimerExpiry => exact ⟨_, rfl, .ite (moveReview_banks s).settled (.refl s)⟩
  case flashTimerExpiry | staleGraceExpiry | engineRunningTimerExpiry =>
    exact ⟨_, rfl, .ite .of_same (.refl s)⟩
  case lampProvingExpiry =>
    refine ⟨_, rfl, .ite (BanksKept.trans ?_ (setCursor_banks _ _)).settled (.refl s)⟩
    exact .of_same
  case windowTimerExpiry =>
    refine ⟨_, rfl, .ite (BanksKept.trans ?_ (applyGates_banks _)).settled (.refl s)⟩
    exact .of_same
  case elementEnd => exact ⟨_, rfl, .ite (elementOver_banks s).settled (.refl s)⟩
  case busyPollRetry answer => exact ⟨_, rfl, (answerOperation_banks answer s).settled⟩
  case failedWriteWaitExpiry => exact ⟨_, rfl, (BanksKept.of_free (endWriteWait_only s) rfl).settled⟩
  case writeComplete => exact ⟨_, rfl, (completeWrite_banks s).settled⟩
  case keyRelease key => exact ⟨_, rfl, .ite (.refl s) (acceptRelease_banks (fun _ t => .refl t) key s)⟩
  case wakePulseEnd =>
    refine ⟨_, rfl, ?_⟩
    split
    · exact .refl s
    · exact .refl s
    all_goals exact .of_free (only_port s _) rfl

/-- Every step keeps the banks whole, and a review and set mode apart. -/
theorem step_banks {s t : State} (stepped : step s = .next t) : BanksKept s t := by
  unfold step at stepped
  split at stepped
  · cases stepped
    exact .of_same
  · rename_i c rest _
    obtain ⟨u, carried, kept⟩ := exec_banks c { s with pending := rest }
    cases carried.symm.trans stepped
    have taken : BanksKept s { s with pending := rest } := .of_same
    exact taken.trans kept

end Sys2Proof.Machine

open Sys2Proof Sys2Proof.Machine

/-- Settles O12: every operation keeps each bank's length, and the review and set mode are each entered only with the
other ended. -/
theorem banksStayWhole : Obligations.BanksStayWhole :=
  ⟨fun _ _ whole stepped => (step_banks stepped).whole whole, fun _ _ apart stepped => (step_banks stepped).apart apart⟩
end

section
/-! PROOFS. Journey records: what the offers to the store and the posts leave of the Journey Unit (05 R86 to R91, 11
R168), and the statements about JOURNEY CLEAR (O41) and the JOURNEY key (O53). -/

namespace Sys2Proof.Machine

/-! ### What the offers to the store leave -/

/-- `t` has the journeys of `s`: the open one, the ring, the last number, and the value of every ring position; the
marks of what waits to be written may differ. -/
structure JourneysKept (s t : State) : Prop where
  openJourney : t.journey.openJourney = s.journey.openJourney
  residue : t.journey.residue = s.journey.residue
  ring : t.journey.ring = s.journey.ring
  lastNumber : t.journey.lastNumber = s.journey.lastNumber
  values : t.journey.positions.map (fun p => p.value) = s.journey.positions.map (fun p => p.value)

theorem JourneysKept.trans {s t u : State} (h : JourneysKept s t) (k : JourneysKept t u) : JourneysKept s u :=
  ⟨k.openJourney.trans h.openJourney, k.residue.trans h.residue, k.ring.trans h.ring,
    k.lastNumber.trans h.lastNumber, k.values.trans h.values⟩

theorem JourneysKept.of_same {s t : State} (same : t.journey = s.journey) : JourneysKept s t := by
  constructor <;> rw [same]

theorem JourneysKept.foldl {α : Type} {f : State → α → State} (h : ∀ t a, JourneysKept t (f t a)) :
    ∀ (l : List α) (s : State), JourneysKept s (l.foldl f s)
  | [], _ => .of_same rfl
  | a :: rest, s => (h s a).trans (JourneysKept.foldl h rest (f s a))

/-- A change of a place that keeps a figure of every element keeps the list of the figures. -/
theorem map_modifyAt {α β : Type} {f : α → α} {g : α → β} (same : ∀ x, g (f x) = g x) (i : Nat) (l : List α) :
    (modifyAt i f l).map g = l.map g := by
  rw [modifyAt_eq_modify]
  refine List.ext_getElem (by simp) fun n _ _ => ?_
  simp only [List.getElem_map, List.getElem_modify]
  split
  · exact same _
  · rfl

theorem markTaken_journeys (r : StoreRecord) (s : State) : JourneysKept s (markTaken r s) := by
  cases r
  case position p =>
    have values := map_modifyAt (f := fun x : RingPosition => { x with dirty := false }) (g := RingPosition.value)
      (fun _ => rfl) p s.journey.positions
    exact ⟨rfl, rfl, rfl, rfl, values⟩
  case item i => exact .of_same ((modifyItem_only i _ s).journey (by decide))
  all_goals exact ⟨rfl, rfl, rfl, rfl, rfl⟩

theorem offerRecord_journeys (r : StoreRecord) (s : State) : JourneysKept s (offerRecord r s) := by
  have kicked : ∀ t, JourneysKept t (kickWriter t) := fun t => .of_same ((kickWriter_only t).journey (by decide))
  refine JourneysKept.trans ?_ (kicked _)
  rcases takeRecord_cases s r with ⟨_, _, _, _, taken⟩ | left
  · rw [taken]
    have queued : ∀ n, JourneysKept s { s with nsp := n } := fun _ => .of_same rfl
    exact (queued _).trans (markTaken_journeys r _)
  · rw [left]
    exact .of_same rfl

theorem markOpenSlot_journeys (s : State) : JourneysKept s (markOpenSlot s) := by
  have marked : JourneysKept s { s with journey := { s.journey with openDirty := true } } := ⟨rfl, rfl, rfl, rfl, rfl⟩
  exact marked.trans (offerRecord_journeys .openSlot _)

/-- A ring position's offer leaves the mark of the journey header. -/
theorem offerRecord_position_headerDirty (s : State) (p : Nat) :
    (offerRecord (.position p) s).journey.headerDirty = s.journey.headerDirty := by
  rw [offerRecord, (kickWriter_only _).journey (by decide)]
  rcases takeRecord_cases s (.position p) with ⟨_, _, _, _, taken⟩ | left
  · rw [taken]
    rfl
  · rw [left]

theorem postNote_journey (o : MsgOrigin) (x : Text) (prio : Nat) (mx : Option Nat) (s : State) :
    (postNote o x prio mx s).journey = s.journey := (postNote_only o x prio mx s).journey (by decide)

/-! ### JOURNEY CLEAR -/

/-- The Journey Unit with its ring emptied and every position to be written erased (05 R91). -/
def ringErased (s : State) : State :=
  { s with journey := { s.journey with
    ring := [], positions := s.journey.positions.map (fun _ => { dirty := true, value := none }) } }

theorem clearJourneys_eq (s : State) : clearJourneys s = postNote .journey .journeysCleared 6 (some 2)
    ((List.range 10).foldl (fun t p => offerRecord (.position p) t) (ringErased s)) := rfl

theorem clearJourneys_journeys (s : State) : JourneysKept (ringErased s) (clearJourneys s) := by
  have offered := JourneysKept.foldl (fun t p => offerRecord_journeys (.position p) t) (List.range 10) (ringErased s)
  exact offered.trans (.of_same (postNote_journey _ _ _ _ _))

theorem clearJourneys_headerDirty (s : State) : (clearJourneys s).journey.headerDirty = s.journey.headerDirty := by
  rw [clearJourneys_eq, postNote_journey]
  exact foldl_keeps (p := fun t => t.journey.headerDirty) offerRecord_position_headerDirty (List.range 10)
    (ringErased s)

theorem clearJourneys_erased (s : State) : ∀ p ∈ (clearJourneys s).journey.positions, p.value = none := by
  have erased : ∀ v ∈ (ringErased s).journey.positions.map (fun p => p.value), v = none := by
    simp [ringErased]
  rw [← (clearJourneys_journeys s).values] at erased
  exact fun p here => erased _ (List.mem_map_of_mem here)

theorem exec_journeyClear {s : State} {n : Nat} {rest : List IntakeEntry} (on : awake s = true)
    (intake : s.port.intake = ⟨n, .journeyClear⟩ :: rest) : exec .journeyClear s = .next (
      if carStopped s && s.journey.openJourney.isNone then
        settled (clearJourneys { s with port := { s.port with intake := rest } })
      else { s with port := { s.port with intake := rest } }) := by
  have arm : exec .journeyClear s = execJourneyClear s := rfl
  rw [arm, execJourneyClear, intakeHead_cons on intake, dropHead_cons intake]

/-! ### Opening and closing -/

/-- The Journey Unit with a new journey open (05 R86). -/
def journeyOpened (s : State) : State :=
  { s with journey := { s.journey with
    openJourney := some { number := nextNumber s.journey.lastNumber,
                          startClock := if s.clock.unset then none else some s.clock.minutes,
                          distance := 0, fuel := 0, elapsed := 0, waiting := 0 },
    residue := 0 } }

theorem openJourneyOp_eq (s : State) : openJourneyOp s = postNote .journey
    (.journeyOpen (nextNumber s.journey.lastNumber)) 6 (some 2) (markOpenSlot (journeyOpened s)) := rfl

theorem openJourneyOp_journeys (s : State) : JourneysKept (journeyOpened s) (openJourneyOp s) :=
  (markOpenSlot_journeys (journeyOpened s)).trans (.of_same (postNote_journey _ _ _ _ _))

theorem openJourneyOp_recorded {s : State} (room : s.msg.queue.length < 8) :
    Recorded .journey (.journeyOpen (nextNumber s.journey.lastNumber)) 6 (some 2) (openJourneyOp s) := by
  have same : (markOpenSlot (journeyOpened s)).msg = s.msg := (markOpenSlot_only _).msg (by decide)
  rw [openJourneyOp_eq]
  exact postNote_recorded _ _ _ _ (by rw [same]; exact room)

/-- The Journey Unit with its open journey entered in the ring and its place (05 R87, R88). -/
def journeyEntered (j : Journey) (s : State) : State :=
  { s with journey := { s.journey with
    openJourney := none, residue := 0, ring := enterRing j s.journey.ring, lastNumber := j.number,
    positions := modifyAt (ringPositionOf j.number) (fun _ => { dirty := true, value := some j }) s.journey.positions,
    headerDirty := true, openDirty := true } }

theorem closeJourneyOp_journeys (j : Journey) (s : State) : JourneysKept (journeyEntered j s) (closeJourneyOp j s) :=
  (((offerRecord_journeys (.position (ringPositionOf j.number)) (journeyEntered j s)).trans
    (offerRecord_journeys .header _)).trans (offerRecord_journeys .openSlot _)).trans
      (.of_same (postNote_journey _ _ _ _ _))

/-- The closed journey is the value of its ring position (05 R88). -/
theorem closeJourneyOp_value {s : State} (j : Journey) (whole : s.journey.positions.length = 10) :
    ((closeJourneyOp j s).journey.positions.map (fun p => p.value))[(j.number - 1) % 10]? = some (some j) := by
  have place : (j.number - 1) % 10 < s.journey.positions.length := by
    rw [whole]
    exact Nat.mod_lt _ (by decide)
  rw [(closeJourneyOp_journeys j s).values, journeyEntered, modifyAt_eq_modify, ringPositionOf]
  simp [place]

/-! ### The JOURNEY key -/

theorem exec_journeyRelease {s : State} {d : Nat} (on : awake s = true) (held : s.keys.journey = .held (.journey d)) :
    exec .journeyRelease s = .next (settled (journeyShort (.journey d) (holdKey .journey .released s))) := by
  have arm : exec .journeyRelease s = .next (settled (acceptRelease .journey journeyShort s)) := rfl
  have key : keyOf s.keys .journey = .held (.journey d) := held
  rw [arm, acceptRelease, key]
  exact congrArg (fun t => Host.Outcome.next (settled t)) (if_pos on)

theorem exec_journeyLongPress {s : State} {d : Nat} (on : awake s = true)
    (held : s.keys.journey = .held (.journey d)) :
    exec .journeyLongPress s = .next (settled (journeyLong (takeLong .journey s))) := by
  have arm : exec .journeyLongPress s = execJourneyLongPress s := rfl
  have key : keyOf s.keys .journey = .held (.journey d) := held
  rw [arm, execJourneyLongPress, key]
  exact congrArg Host.Outcome.next (if_pos on)

theorem exec_tripReset {s : State} {b : Bool} {d : Nat} (on : awake s = true)
    (held : s.keys.reset = .held (.tripReset b d)) :
    exec .tripReset s = .next (settled (tripResetOp b (takeLong .reset s))) := by
  have arm : exec .tripReset s = execTripReset s := rfl
  have key : keyOf s.keys .reset = .held (.tripReset b d) := held
  rw [arm, execTripReset, key]
  exact congrArg Host.Outcome.next (if_pos on)

theorem exec_journeyPress {s : State} (on : awake s = true) (open_ : s.keys.journey = .released)
    (lit : findsDark .journey s = false) : exec .journeyPress s = .next (settled (holdKey .journey
      (.held (.journey (s.now + 2000))) (journeyAction (keepSetMode (pressNoted s))))) := by
  have arm : exec .journeyPress s = .next (settled (acceptPress .journey journeyHolds journeyAction s)) := rfl
  have key : keyOf s.keys .journey = .released := open_
  rw [arm, acceptPress, on, key, lit]
  rfl

theorem modifyWarn_review (n : Nat) (f : WarnEntry → WarnEntry) (s : State) :
    (modifyWarn n f s).warn.review = s.warn.review := by
  unfold modifyWarn
  split <;> rfl

theorem keyClick_review (s : State) : (keyClick s).warn.review = s.warn.review := by
  have post := congrArg Warn.review ((chimePost_only .keyClick .click 6 1 s).warn (by decide))
  unfold keyClick postChime chimeDropped
  split <;> rename_i taken <;> rw [taken] at post
  · exact post
  · exact post
  · split
    · exact (modifyWarn_review _ _ _).trans post
    · exact post

theorem wakeDisplay_readout (s : State) : (wakeDisplay s).disp.readout = s.disp.readout := by
  unfold wakeDisplay
  split <;> rfl

/-- What every accepted press does first leaves the readout, the messages and the review. -/
theorem pressed_kept (s : State) : (keepSetMode (pressNoted s)).disp.readout = s.disp.readout
    ∧ (keepSetMode (pressNoted s)).msg = s.msg ∧ (keepSetMode (pressNoted s)).warn.review = s.warn.review := by
  have click : (pressNoted s).disp = (wakeDisplay s).disp := (keyClick_only _).disp (by decide)
  have kept : (keepSetMode (pressNoted s)).disp.readout = (pressNoted s).disp.readout := by
    unfold keepSetMode
    split <;> rfl
  refine ⟨by rw [kept, click, wakeDisplay_readout], ?_, ?_⟩
  · rw [(keepSetMode_only _).msg (by decide), (pressNoted_only s).msg (by decide)]
  · rw [(keepSetMode_only _).warn (by decide), pressNoted, keyClick_review, (wakeDisplay_only s).warn (by decide)]

theorem journeyAction_readout (s : State) : (journeyAction s).disp.readout = s.disp.readout := by
  unfold journeyAction
  split <;> rfl

/-- With no record SHOWING and the review closed, JOURNEY leaves set mode (09 TABLE 9-5). -/
theorem journeyAction_setMode {s : State} (bare : showingRecord s = none) (closed : s.warn.review = .closed) :
    (journeyAction s).disp.setMode = .none := by
  by_cases none_ : s.disp.setMode = .none
  · have shown : shownNow s = .readout := by simp [shownNow, bare, closed, none_]
    rw [journeyAction, shown]
    exact none_
  · have shown : shownNow s = .setMode := by simp [shownNow, bare, closed, none_]
    rw [journeyAction, shown]
    rfl

theorem setReadout_readout (n : Nat) (s : State) : (setReadout n s).disp.readout = n := by
  unfold setReadout
  split
  · assumption
  · rfl

/-- A press that opens a journey, by its release or by its long form. -/
theorem opens_of_held {c : Instr} {s : State} {d : Nat} (on : awake s = true)
    (held : s.keys.journey = .held (.journey d)) (key : c = .journeyRelease ∨ c = .journeyLongPress)
    (closed : s.journey.openJourney = none) : exec c s = .next (settled (openJourneyOp (holdKey .journey
      (if c = .journeyRelease then .released else .held .nothing) s))) := by
  rcases key with rfl | rfl
  · rw [exec_journeyRelease on held, journeyShort, holdKey_journey, closed]
    rfl
  · rw [exec_journeyLongPress on held, journeyLong, takeLong, holdKey_journey, closed]
    rfl

end Sys2Proof.Machine

open Sys2Proof Sys2Proof.Machine

/-- Settles O41: the ring is erased before its positions are offered, and no offer and no post changes a journey. -/
theorem journeyClearEmptiesTheRing : Obligations.JourneyClearEmptiesTheRing := by
  refine fun s n rest on intake => ⟨fun stopped closed => ?taken, fun refused => ?discarded⟩
  case taken =>
    let x : State := { s with port := { s.port with intake := rest } }
    have may : (carStopped s && s.journey.openJourney.isNone) = true := by
      rw [stopped, closed]
      rfl
    have takes : exec .journeyClear s = .next (settled (clearJourneys x)) :=
      (exec_journeyClear on intake).trans (congrArg _ (if_pos may))
    have kept := clearJourneys_journeys x
    have only : OnlyIn ([.port, .warn, .msg, .disp] ++ storeBlocks) s (clearJourneys x) :=
      ((only_port s _).mono (by decide)).trans ((clearJourneys_only x).mono (by decide))
    refine ⟨_, takes, ?_⟩
    rw [settled_journey, settled_port, (clearJourneys_only x).port (by decide)]
    exact ⟨kept.ring, kept.lastNumber, clearJourneys_headerDirty x, kept.openJourney.trans closed,
      clearJourneys_erased x, rfl, (only.mono (by decide)).settled (by decide) (by decide)⟩
  case discarded =>
    have mayNot : ¬(carStopped s && s.journey.openJourney.isNone) = true := by
      rw [Bool.and_eq_true, Option.isNone_iff_eq_none]
      rintro ⟨stopped, closed⟩
      exact refused.elim (fun moves => by rw [moves] at stopped; cases stopped) (fun isOpen => isOpen closed)
    exact (exec_journeyClear on intake).trans (congrArg _ (if_neg mayNot))

/-- Settles O53: each command takes the press first, and then opens, shows or closes; no offer and no post changes a
journey. -/
theorem journeyKeyOpensAndCloses : Obligations.JourneyKeyOpensAndCloses := by
  refine ⟨?press, ?opens, fun j s on whole ⟨d, held⟩ isOpen => ⟨?shows, ?closes⟩, ?trip, ?release⟩
  case press =>
    intro s on released lit
    obtain ⟨readout, msg, review⟩ := pressed_kept s
    refine ⟨_, exec_journeyPress on released lit, by rw [settled_keys]; rfl, ?_, fun bare closed => ?_, ?_⟩
    · rw [settled_readout, holdKey_disp, journeyAction_readout, readout]
    · rw [settled_setMode, holdKey_disp]
      refine journeyAction_setMode ?_ (review.trans closed)
      rw [showingRecord, msg]
      exact bare
    · have before : OnlyIn [.disp, .warn, .chime, .port, .keys] s (keepSetMode (pressNoted s)) :=
        ((pressNoted_only s).mono (by decide)).trans ((keepSetMode_only _).mono (by decide))
      have acted := (before.trans ((journeyAction_only _).mono (by decide))).trans
        ((holdKey_only .journey (.held (.journey (s.now + 2000))) _).mono (by decide))
      exact (acted.mono (by decide)).settled (by decide) (by decide)
  case opens =>
    intro c s on ⟨d, held⟩ key closed
    let x := holdKey .journey (if c = .journeyRelease then .released else .held .nothing) s
    have kept := openJourneyOp_journeys x
    have only : OnlyIn ([.keys, .warn, .msg, .disp] ++ storeBlocks) s (openJourneyOp x) :=
      ((holdKey_only _ _ s).mono (by decide)).trans ((openJourneyOp_only x).mono (by decide))
    refine ⟨_, opens_of_held on held key closed, ?_⟩
    rw [settled_journey, settled_msg, settled_keys, (openJourneyOp_only x).keys (by decide)]
    refine ⟨kept.openJourney, kept.residue, kept.ring, kept.lastNumber, openJourneyOp_recorded (s := x), rfl, ?_⟩
    rcases key with rfl | rfl <;> exact (only.mono (by decide)).settled (by decide) (by decide)
  case shows =>
    let x := setReadout 7 (holdKey .journey .released s)
    have only : OnlyIn [.disp, .keys] s x :=
      ((holdKey_only _ _ s).mono (by decide)).trans ((setReadout_only 7 _).mono (by decide))
    have shows : exec .journeyRelease s = .next (settled x) := by
      rw [exec_journeyRelease on held, journeyShort, holdKey_journey, isOpen]
      rfl
    refine ⟨_, shows, ?_⟩
    rw [settled_readout, settled_setMode, settled_keys, setReadout_readout, setReadout_setMode,
      (setReadout_only 7 _).keys (by decide)]
    exact ⟨rfl, rfl, rfl, (only.mono (by decide)).settled (by decide) (by decide)⟩
  case closes =>
    let x := takeLong .journey s
    have kept := closeJourneyOp_journeys j x
    have only : OnlyIn ([.keys, .warn, .msg, .disp] ++ storeBlocks) s (closeJourneyOp j x) :=
      ((takeLong_only _ s).mono (by decide)).trans ((closeJourneyOp_only j x).mono (by decide))
    have closes : exec .journeyLongPress s = .next (settled (closeJourneyOp j x)) := by
      rw [exec_journeyLongPress on held, journeyLong, takeLong, holdKey_journey, isOpen]
      rfl
    obtain ⟨_, _, _, _, positions⟩ := banksWhole_iff.mp whole
    refine ⟨_, closes, ?_⟩
    rw [settled_journey, settled_keys, (closeJourneyOp_only j x).keys (by decide)]
    exact ⟨kept.openJourney, kept.residue, kept.lastNumber, kept.ring, closeJourneyOp_value j positions, rfl,
      (only.mono (by decide)).settled (by decide) (by decide)⟩
  case trip =>
    intro b s on ⟨d, held⟩
    refine ⟨_, exec_tripReset on held, ?_⟩
    cases b <;> exact settled_from _
  case release =>
    intro k s on other
    have arm : exec (.keyRelease k) s = .next (acceptRelease k (fun _ t => t) s) := congrArg _ (if_neg other)
    refine ⟨_, arm, ?_⟩
    unfold acceptRelease
    split
    · rw [if_pos on]
      exact ⟨keyOf_setKey_same k _ _, fun k' h => keyOf_setKey_other _ _ h, holdKey_only k _ s⟩
    · exact ⟨‹_›, fun _ _ => rfl, .refl _ s⟩
end

section
/-! PROOFS. Service items: what a decrement and a reset do to the item they reach and leave of the others, and that a
marked record waits dirty or in the write queue (06 R97 to R101, 11 R168), the number of decrements that a CHASSIS or
a FUEL FLOW arrival makes, and the statement about the countdown (O29). -/

namespace Sys2Proof.Machine

/-! ### What offers to the store leave -/

/-- The addresses of the words that wait in the write queue. -/
def queuedAddresses (n : Nsp) : List Nat := n.queue.map (fun e => e.addr)

theorem foldl_queueWord_addresses : ∀ (words : List (Nat × Word)) (n : Nsp),
    queuedAddresses n ⊆ queuedAddresses (words.foldl queueWord n)
      ∧ words.map Prod.fst ⊆ queuedAddresses (words.foldl queueWord n)
  | [], n => ⟨List.Subset.refl _, List.nil_subset _⟩
  | (a, d) :: rest, n => by
    obtain ⟨kept, joined⟩ := foldl_queueWord_addresses rest (queueWord n (a, d))
    have addresses : queuedAddresses (queueWord n (a, d)) = _ := queueWord_addresses n a d
    have here : a ∈ queuedAddresses (queueWord n (a, d)) := by
      rw [addresses]
      by_cases queued : wordQueued a n.queue = true
      · exact List.mem_append_left _ (by simpa [wordQueued] using queued)
      · simp [queued]
    refine ⟨fun b hb => kept ?_, List.cons_subset.mpr ⟨kept here, joined⟩⟩
    rw [addresses]
    exact List.mem_append_left _ hb

/-- `t` has the straps of `s`, its bank of service items if that is whole, and every word that waits to be written. -/
structure StoreGrows (s t : State) : Prop where
  straps : t.straps = s.straps
  whole : s.service.items.length = 8 → t.service.items.length = 8
  queue : queuedAddresses s.nsp ⊆ queuedAddresses t.nsp

theorem StoreGrows.refl (s : State) : StoreGrows s s := ⟨rfl, id, List.Subset.refl _⟩

theorem StoreGrows.trans {s t u : State} (h : StoreGrows s t) (k : StoreGrows t u) : StoreGrows s u :=
  ⟨k.straps.trans h.straps, k.whole ∘ h.whole, List.Subset.trans h.queue k.queue⟩

theorem StoreGrows.ite {c : Prop} [Decidable c] {s t u : State} (h : StoreGrows s t) (k : StoreGrows s u) :
    StoreGrows s (if c then t else u) := by
  split <;> assumption

/-- An operation away from the straps, the service items and the store. -/
theorem StoreGrows.of_only {bs : List Block} {s t : State} (only : OnlyIn bs s t) (straps : Block.straps ∉ bs)
    (nsp : Block.nsp ∉ bs) (whole : BanksKept s t) : StoreGrows s t :=
  ⟨only.straps straps, whole.items, by rw [only.nsp nsp]; exact List.Subset.refl _⟩

theorem modifyItem_grows (i : Nat) (f : Item → Item) (s : State) : StoreGrows s (modifyItem i f s) :=
  .of_only (modifyItem_only i f s) (by decide) (by decide) (modifyItem_banks i f s)

theorem markTaken_queue (r : StoreRecord) (s : State) : (markTaken r s).nsp.queue = s.nsp.queue := by
  cases r
  case item i => rw [markTaken, (modifyItem_only i _ s).nsp (by decide)]
  all_goals rfl

theorem kickWriter_queue (s : State) : (kickWriter s).nsp.queue = s.nsp.queue := by
  unfold kickWriter
  split <;> rfl

theorem takeRecord_grows (s : State) (r : StoreRecord) : StoreGrows s (takeRecord s r) := by
  refine ⟨(takeRecord_only s r).straps (by decide), (takeRecord_banks s r).items, ?_⟩
  rcases takeRecord_cases s r with ⟨_, _, _, _, taken⟩ | left
  · rw [taken, queuedAddresses, queuedAddresses, markTaken_queue]
    exact (foldl_queueWord_addresses _ s.nsp).1
  · rw [left]
    exact List.Subset.refl _

theorem offerRecord_grows (r : StoreRecord) (s : State) : StoreGrows s (offerRecord r s) := by
  refine (takeRecord_grows s r).trans ⟨(kickWriter_only _).straps (by decide), (kickWriter_banks _).items, ?_⟩
  rw [queuedAddresses, queuedAddresses, offerRecord, kickWriter_queue]
  exact List.Subset.refl _

theorem markItem_grows (i : Nat) (s : State) : StoreGrows s (markItem i s) :=
  .ite (modifyItem_grows _ _ s) ((modifyItem_grows _ _ s).trans (offerRecord_grows _ _))

theorem itemMoved_grows (i : Nat) (km : Int) (hours : Option Int) (m : Bool) (s : State) :
    StoreGrows s (itemMoved i km hours m s) :=
  (modifyItem_grows i _ s).trans (.ite (markItem_grows i _) (.refl _))

theorem countKm_grows (s : State) (i : Nat) : StoreGrows s (countKm s i) := .ite (itemMoved_grows _ _ _ _ s) (.refl s)

theorem markOdometer_grows (s : State) : StoreGrows s (markOdometer s) :=
  have dirty := fun x => only_trip s x
  StoreGrows.trans (.of_only (dirty _) (by decide) (by decide) (.of_free (dirty _) rfl)) (offerRecord_grows _ _)

/-! ### An item left alone -/

/-- `t` has the item `i` of `s`, beside its straps and the words that wait to be written. -/
structure ItemKept (i : Nat) (s t : State) : Prop extends StoreGrows s t where
  item : itemOf t i = itemOf s i

theorem ItemKept.refl (i : Nat) (s : State) : ItemKept i s s := ⟨.refl s, rfl⟩

theorem ItemKept.trans {i : Nat} {s t u : State} (h : ItemKept i s t) (k : ItemKept i t u) : ItemKept i s u :=
  ⟨h.toStoreGrows.trans k.toStoreGrows, k.item.trans h.item⟩

theorem ItemKept.foldl {α : Type} {i : Nat} {f : State → α → State} :
    ∀ {l : List α} (_ : ∀ t, ∀ a ∈ l, ItemKept i t (f t a)) (s : State), ItemKept i s (l.foldl f s)
  | [], _, s => .refl i s
  | a :: _, h, s => (h s a List.mem_cons_self).trans
      (ItemKept.foldl (fun t b hb => h t b (List.mem_cons_of_mem _ hb)) (f s a))

/-- An operation away from the straps, the service items and the store. -/
theorem ItemKept.of_items {i : Nat} {s t : State} (straps : t.straps = s.straps)
    (items : t.service.items = s.service.items) (nsp : t.nsp = s.nsp) : ItemKept i s t :=
  ⟨⟨straps, items ▸ id, by rw [nsp]; exact List.Subset.refl _⟩, itemOf_congr items i⟩

theorem modifyItem_kept {i j : Nat} (other : j ≠ i) (f : Item → Item) (s : State) : ItemKept i s (modifyItem j f s) :=
  ⟨modifyItem_grows j f s, itemOf_modifyItem_other (Ne.symm other)⟩

/-- A pass over the items changes one of them only where it comes to it. -/
theorem foldl_reaches {i : Nat} {f : State → Nat → State} (others : ∀ t j, j ≠ i → ItemKept i t (f t j)) {l : List Nat}
    (apart : l.Nodup) (listed : i ∈ l) (s : State) : ∃ u, ItemKept i s u ∧ ItemKept i (f u i) (l.foldl f s) := by
  obtain ⟨before, after, rfl⟩ := List.append_of_mem listed
  have apart := List.nodup_middle.mp apart
  rw [List.nodup_cons, List.mem_append, not_or] at apart
  obtain ⟨⟨notBefore, notAfter⟩, _⟩ := apart
  have kept : ∀ part : List Nat, i ∉ part → ∀ t, ItemKept i t (part.foldl f t) := fun part absent =>
    .foldl fun t j hj => others t j (by rintro rfl; exact absent hj)
  refine ⟨before.foldl f s, kept before notBefore s, ?_⟩
  rw [List.foldl_append, List.foldl_cons]
  exact kept after notAfter _

/-! ### An item marked -/

/-- The three words of item `i`'s record are in the write queue (11 TABLE 11-1). -/
def itemQueued (i : Nat) (n : Nsp) : Prop := ∀ k < 3, ∃ e ∈ n.queue, e.addr = 16 + 3 * (i - 1) + k

theorem itemQueued_iff {i : Nat} {n : Nsp} :
    itemQueued i n ↔ ∀ k < 3, 16 + 3 * (i - 1) + k ∈ queuedAddresses n := by
  simp only [itemQueued, queuedAddresses, List.mem_map]

theorem StoreGrows.itemQueued {i : Nat} {s t : State} (grows : StoreGrows s t) (queued : itemQueued i s.nsp) :
    Machine.itemQueued i t.nsp :=
  itemQueued_iff.mpr fun k hk => grows.queue (itemQueued_iff.mp queued k hk)

/-- The record of item `i` waits to be written: dirty, or in the write queue. -/
def itemWaits (i : Nat) (s : State) : Prop := (itemOf s i).dirty = true ∨ itemQueued i s.nsp

theorem itemWaits_kept {i : Nat} {s t : State} (kept : ItemKept i s t) (waits : itemWaits i s) : itemWaits i t :=
  waits.imp (fun dirty => by rw [kept.item, dirty]) kept.toStoreGrows.itemQueued

theorem offerRecord_kept {i j : Nat} (other : j ≠ i) (s : State) : ItemKept i s (offerRecord (.item j) s) := by
  refine ⟨offerRecord_grows _ s, ?_⟩
  rw [offerRecord, itemOf_congr (congrArg Service.items ((kickWriter_only _).service (by decide)))]
  rcases takeRecord_cases s (.item j) with ⟨_, _, _, _, taken⟩ | left
  · rw [taken]
    exact itemOf_modifyItem_other (Ne.symm other)
  · rw [left]

theorem markOdometer_kept (i : Nat) (s : State) : ItemKept i s (markOdometer s) :=
  ⟨markOdometer_grows s, itemOf_congr (congrArg Service.items ((markOdometer_only_trip s).service (by decide))) i⟩

/-- An offer of an item's record takes it whole or leaves it as it was (11 R168). -/
theorem offerRecord_item {i : Nat} {s : State} (whole : s.service.items.length = 8) (item : isItem i = true) :
    ∃ d, itemOf (offerRecord (.item i) s) i = { itemOf s i with dirty := d }
      ∧ ((itemOf s i).dirty = true → itemWaits i (offerRecord (.item i) s)) := by
  have same : itemOf (offerRecord (.item i) s) i = itemOf (takeRecord s (.item i)) i := by
    rw [offerRecord, itemOf_congr (congrArg Service.items ((kickWriter_only _).service (by decide)))]
  rcases takeRecord_cases s (.item i) with ⟨_, _, _, _, taken⟩ | left
  · refine ⟨false, ?_, fun _ => .inr (itemQueued_iff.mpr fun k hk => ?_)⟩
    · rw [same, taken]
      exact itemOf_modifyItem_same whole item
    · rw [queuedAddresses, offerRecord, kickWriter_queue, taken, markTaken_queue]
      refine (foldl_queueWord_addresses _ s.nsp).2 ?_
      simp only [recordWords, recordBase, recordValues, itemWords, itemFields, atAddresses, List.cons_append,
        List.nil_append, List.map_cons, List.map_nil, List.mem_cons, List.not_mem_nil]
      omega
  · rw [left] at same
    exact ⟨(itemOf s i).dirty, same, fun dirty => .inl (by rw [same, dirty])⟩

theorem markItem_item {i : Nat} {s : State} (whole : s.service.items.length = 8) (item : isItem i = true) :
    ∃ d, itemOf (markItem i s) i = { itemOf s i with moved := false, dirty := d } ∧ itemWaits i (markItem i s) := by
  unfold markItem
  split
  case isTrue dirty =>
    have marked := itemOf_modifyItem_same (f := fun x => { x with moved := false }) whole item
    exact ⟨(itemOf s i).dirty, marked, .inl (by rw [marked, dirty])⟩
  case isFalse =>
    let u := modifyItem i (fun x => { x with moved := false, dirty := true }) s
    have marked : itemOf u i = { itemOf s i with moved := false, dirty := true } := itemOf_modifyItem_same whole item
    obtain ⟨d, offered, waits⟩ := offerRecord_item (s := u) ((modifyItem_grows i _ s).whole whole) item
    exact ⟨d, by rw [offered, marked], waits (by rw [marked])⟩

theorem markItem_kept {i j : Nat} (other : j ≠ i) (s : State) : ItemKept i s (markItem j s) := by
  unfold markItem
  split
  · exact modifyItem_kept other _ s
  · exact (modifyItem_kept other _ s).trans (offerRecord_kept other _)

/-! ### An item judged again -/

/-- From `s` to `t` item `i` has taken these remainders: its state is judged by them, and its record is marked at a
change of state or at a multiple, and noted as moved otherwise (06 R99, R101, entry 32). -/
structure Judged (i : Nat) (km : Int) (hours : Option Int) (atMultiple : Bool) (s t : State) : Prop where
  kmLeft : (itemOf t i).km = km
  hoursLeft : (itemOf t i).hours = hours
  state : (itemOf t i).state = judgeItem s.straps.variant i km hours
  marked : (itemOf t i).state ≠ (itemOf s i).state ∨ atMultiple = true → (itemOf t i).moved = false ∧ itemWaits i t
  unmarked : ¬((itemOf t i).state ≠ (itemOf s i).state ∨ atMultiple = true) →
    (itemOf t i).moved = !(itemOf s i).dirty ∧ (itemOf t i).dirty = (itemOf s i).dirty

theorem Judged.kept {i : Nat} {km : Int} {hours : Option Int} {m : Bool} {s u v t : State} (before : ItemKept i s u)
    (judged : Judged i km hours m u v) (after : ItemKept i v t) : Judged i km hours m s t := by
  obtain ⟨kmIs, hoursIs, state, marked, unmarked⟩ := judged
  rw [before.item] at marked unmarked
  rw [before.straps] at state
  constructor <;> rw [after.item]
  · exact kmIs
  · exact hoursIs
  · exact state
  · exact fun marks => ⟨(marked marks).1, itemWaits_kept after (marked marks).2⟩
  · exact unmarked

/-- Whatever the decrement, a record that waited goes on waiting. -/
theorem Judged.waits {i : Nat} {km : Int} {hours : Option Int} {m : Bool} {s t : State}
    (judged : Judged i km hours m s t) (grows : StoreGrows s t) (waiting : itemWaits i s) : itemWaits i t := by
  by_cases marks : (itemOf t i).state ≠ (itemOf s i).state ∨ m = true
  · exact (judged.marked marks).2
  · exact waiting.imp (fun dirty => (judged.unmarked marks).2.trans dirty) grows.itemQueued

/-- A decrement judges its item: the record is marked, or noted as moved (06 R99, R101). -/
theorem itemMoved_judged {i : Nat} {s : State} (whole : s.service.items.length = 8) (item : isItem i = true) (km : Int)
    (hours : Option Int) (m : Bool) : Judged i km hours m s (itemMoved i km hours m s) := by
  let state := judgeItem s.straps.variant i km hours
  let u := modifyItem i (fun x => { x with km := km, hours := hours, state := state, moved := !x.dirty }) s
  have changed : itemOf u i
      = { itemOf s i with km := km, hours := hours, state := state, moved := !(itemOf s i).dirty } :=
    itemOf_modifyItem_same whole item
  have result : itemMoved i km hours m s = if state ≠ (itemOf s i).state || m then markItem i u else u := rfl
  rw [result]
  by_cases marks : state ≠ (itemOf s i).state ∨ m = true
  · obtain ⟨d, marked, waits⟩ := markItem_item (s := u) ((modifyItem_grows i _ s).whole whole) item
    rw [changed] at marked
    rw [if_pos (by simpa using marks)]
    refine ⟨?_, ?_, ?_, fun _ => ⟨?_, waits⟩, fun quiet => absurd ?_ quiet⟩ <;> rw [marked]
    exact marks
  · rw [if_neg (by simpa using marks)]
    refine ⟨?_, ?_, ?_, fun marked => absurd ?_ marks, fun _ => ⟨?_, ?_⟩⟩ <;> try rw [changed]
    rw [changed] at marked
    exact marked

theorem itemMoved_kept {i j : Nat} (other : j ≠ i) (km : Int) (hours : Option Int) (m : Bool) (s : State) :
    ItemKept i s (itemMoved j km hours m s) := by
  unfold itemMoved
  dsimp only
  split
  · exact (modifyItem_kept other _ s).trans (markItem_kept other _)
  · exact modifyItem_kept other _ s

/-! ### Whole kilometres -/

/-- The state of item `i` of `s` after `j` of its km are taken, one after another. -/
def kmLevel (s : State) (i j : Nat) : ItemState :=
  if j = 0 then (itemOf s i).state else judgeItem s.straps.variant i ((itemOf s i).km - j) (itemOf s i).hours

/-- The decrement that takes the `j`-th km from item `i` of `s` marks its record. -/
def kmMarks (s : State) (i j : Nat) : Prop := kmLevel s i j ≠ kmLevel s i (j - 1) ∨ ((itemOf s i).km - j) % 100 = 0

/-- From `s` to `t` item `i` has lost `n` km, one after another. -/
structure KmCounted (i n : Nat) (s t : State) : Prop where
  grows : StoreGrows s t
  km : (itemOf t i).km = (itemOf s i).km - n
  hours : (itemOf t i).hours = (itemOf s i).hours
  state : (itemOf t i).state = kmLevel s i n
  still : n = 0 → (itemOf t i).moved = (itemOf s i).moved
  marked : 0 < n → kmMarks s i n → (itemOf t i).moved = false
  unmarked : 0 < n → ¬kmMarks s i n → (itemOf t i).moved = !(itemOf t i).dirty
  waits : ∀ j, 1 ≤ j → j ≤ n → kmMarks s i j → itemWaits i t
  clean : (∀ j, 1 ≤ j → j ≤ n → ¬kmMarks s i j) → (itemOf t i).dirty = (itemOf s i).dirty

theorem KmCounted.none {i : Nat} {s t : State} (kept : ItemKept i s t) : KmCounted i 0 s t := by
  constructor <;> try rw [kept.item]
  · exact kept.toStoreGrows
  · simp
  · rfl
  · exact fun _ => rfl
  · exact fun some_ => absurd some_ (by decide)
  · exact fun some_ => absurd some_ (by decide)
  · exact fun j low high => absurd (Nat.le_trans low high) (by decide)
  · exact fun _ => rfl

theorem KmCounted.kept {i n : Nat} {s t u : State} (count : KmCounted i n s t) (kept : ItemKept i t u) :
    KmCounted i n s u := by
  constructor <;> try rw [kept.item]
  · exact count.grows.trans kept.toStoreGrows
  · exact count.km
  · exact count.hours
  · exact count.state
  · exact count.still
  · exact count.marked
  · exact count.unmarked
  · exact fun j low high marks => itemWaits_kept kept (count.waits j low high marks)
  · exact count.clean

theorem countKm_kept {i j : Nat} (other : j ≠ i) (s : State) : ItemKept i s (countKm s j) := by
  unfold countKm
  split
  · exact itemMoved_kept other _ _ _ s
  · exact .refl i s

/-- One km more: the decrement judges the item, and marks it or notes it as moved. -/
theorem KmCounted.next {i n : Nat} {s t : State} (count : KmCounted i n s t) (whole : s.service.items.length = 8)
    (item : isItem i = true) (above : -9999 < (itemOf t i).km) : KmCounted i (n + 1) s (countKm t i) := by
  have judged := itemMoved_judged (count.grows.whole whole) item ((itemOf t i).km - 1) (itemOf t i).hours
    (((itemOf t i).km - 1) % 100 = 0)
  have counted : countKm t i
      = itemMoved i ((itemOf t i).km - 1) (itemOf t i).hours (((itemOf t i).km - 1) % 100 = 0) t := if_pos above
  rw [← counted] at judged
  have grows := countKm_grows t i
  have km : (itemOf t i).km - 1 = (itemOf s i).km - (n + 1 : Nat) := by
    rw [count.km]
    omega
  have state : (itemOf (countKm t i) i).state = kmLevel s i (n + 1) := by
    rw [judged.state, km, count.hours, count.grows.straps, kmLevel, if_neg (Nat.succ_ne_zero n)]
  have waits := judged.waits grows
  obtain ⟨kmLeft, hoursLeft, _, marked, unmarked⟩ := judged
  have marks : ((itemOf (countKm t i) i).state ≠ (itemOf t i).state ∨ decide (((itemOf t i).km - 1) % 100 = 0) = true)
      ↔ kmMarks s i (n + 1) := by
    rw [state, count.state, km, decide_eq_true_iff, kmMarks, Nat.add_sub_cancel]
  rw [marks] at marked unmarked
  refine ⟨count.grows.trans grows, kmLeft.trans km, hoursLeft.trans count.hours, state,
    fun none_ => absurd none_ (Nat.succ_ne_zero n), fun _ marking => (marked marking).1, fun _ quiet => ?_,
    fun j low high marking => ?_, fun quiet => ?_⟩
  · rw [(unmarked quiet).1, (unmarked quiet).2]
  · rcases Nat.lt_or_eq_of_le high with before | rfl
    · exact waits (count.waits j low (Nat.le_of_lt_succ before) marking)
    · exact (marked marking).2
  · rw [(unmarked (quiet (n + 1) (by omega) (by omega))).2]
    exact count.clean fun j low high => quiet j low (by omega)

/-- How many of so many whole-km marks take a km from the item: none takes it below -9,999 (06 R97). -/
def kmTaken (s : State) (i marks : Nat) : Nat := min marks ((itemOf s i).km + 9999).toNat

/-- A whole-km mark takes one km more, down to -9,999. -/
theorem KmCounted.mark {i m : Nat} {s t : State} (count : KmCounted i (kmTaken s i m) s t) (item : i ∈ itemNumbers)
    (whole : s.service.items.length = 8) (low : -9999 ≤ (itemOf s i).km) :
    KmCounted i (kmTaken s i (m + 1)) s (wholeKmMark t) := by
  obtain ⟨u, before, after⟩ := foldl_reaches (f := countKm) (fun t j other => countKm_kept other t) (by decide) item t
  refine KmCounted.kept ?_ after
  have reached := count.kept before
  have left := reached.km
  simp only [kmTaken] at reached left ⊢
  by_cases above : -9999 < (itemOf u i).km
  · have more : min (m + 1) ((itemOf s i).km + 9999).toNat = min m ((itemOf s i).km + 9999).toNat + 1 := by omega
    rw [more]
    exact reached.next whole (isItem_of_mem item) above
  · have stays : countKm u i = u := if_neg above
    have same : min (m + 1) ((itemOf s i).km + 9999).toNat = min m ((itemOf s i).km + 9999).toNat := by omega
    rw [stays, same]
    exact reached

/-- From `s` to `t` item `i` has lost a km at each whole km that the odometer has come to, down to -9,999. -/
structure KmFollows (i : Nat) (s t : State) : Prop where
  count : KmCounted i (kmTaken s i (t.trip.odometer / 10 - s.trip.odometer / 10)) s t
  past : s.trip.odometer ≤ t.trip.odometer

theorem KmFollows.kept {i : Nat} {s t u : State} (follows : KmFollows i s t) (kept : ItemKept i t u)
    (odometer : u.trip.odometer = t.trip.odometer) : KmFollows i s u := by
  refine ⟨?_, ?_⟩ <;> rw [odometer]
  · exact follows.count.kept kept
  · exact follows.past

theorem KmFollows.odometerStep {i : Nat} {s t : State} (follows : KmFollows i s t) (item : i ∈ itemNumbers)
    (whole : s.service.items.length = 8) (low : -9999 ≤ (itemOf s i).km) : KmFollows i s (odometerStep t) := by
  obtain ⟨count, past⟩ := follows
  by_cases below : t.trip.odometer < 9999999
  case neg =>
    have stays : Machine.odometerStep t = t := if_neg below
    rw [stays]
    exact ⟨count, past⟩
  case pos =>
    let moved : State := { t with trip := { t.trip with odometer := t.trip.odometer + 1 } }
    let marked := if moved.trip.odometer % 10 = 0 then wholeKmMark moved else moved
    have isStep : Machine.odometerStep t = if moved.trip.odometer % 100 = 0 then markOdometer marked else marked :=
      if_pos below
    have movedCount := count.kept (u := moved) (.of_items rfl rfl rfl)
    have markedCount : KmCounted i (kmTaken s i ((t.trip.odometer + 1) / 10 - s.trip.odometer / 10)) s marked := by
      by_cases tenth : moved.trip.odometer % 10 = 0
      · have one : (t.trip.odometer + 1) / 10 - s.trip.odometer / 10
            = t.trip.odometer / 10 - s.trip.odometer / 10 + 1 := by
          have : (t.trip.odometer + 1) % 10 = 0 := tenth
          omega
        have isMark : marked = wholeKmMark moved := if_pos tenth
        rw [isMark, one]
        exact movedCount.mark item whole low
      · have none_ : (t.trip.odometer + 1) / 10 = t.trip.odometer / 10 := by
          have : ¬(t.trip.odometer + 1) % 10 = 0 := tenth
          omega
        have isMoved : marked = moved := if_neg tenth
        rw [isMoved, none_]
        exact movedCount
    obtain ⟨_, dirty, trip⟩ := odometerStep_spec t
    have odometer : (Machine.odometerStep t).trip.odometer = t.trip.odometer + 1 := by rw [trip, if_pos below]
    refine ⟨?_, by omega⟩
    rw [odometer, isStep]
    split
    · exact markedCount.kept (markOdometer_kept i _)
    · exact markedCount

theorem KmFollows.distanceStep {i : Nat} {s t : State} (follows : KmFollows i s t) (item : i ∈ itemNumbers)
    (whole : s.service.items.length = 8) (low : -9999 ≤ (itemOf s i).km) : KmFollows i s (distanceStep t) := by
  refine (follows.odometerStep item whole low).kept (.of_items rfl rfl rfl) ?_
  obtain ⟨_, stepped⟩ := distanceStep_trip t
  obtain ⟨_, _, trip⟩ := odometerStep_spec t
  rw [stepped, segmentStep_others, trip]

theorem KmFollows.distanceSteps {i : Nat} {s : State} (item : i ∈ itemNumbers) (whole : s.service.items.length = 8)
    (low : -9999 ≤ (itemOf s i).km) : ∀ (n : Nat) {t : State}, KmFollows i s t → KmFollows i s (distanceSteps n t)
  | 0, _, follows => follows
  | n + 1, _, follows => KmFollows.distanceSteps item whole low n (follows.distanceStep item whole low)

/-- The item after the marks, in one figure: as many km gone as there were marks, down to -9,999. -/
theorem KmCounted.total {i m : Nat} {s t : State} (count : KmCounted i (kmTaken s i m) s t)
    (low : -9999 ≤ (itemOf s i).km) : (itemOf t i).km = max (-9999) ((itemOf s i).km - m) := by
  rw [count.km, kmTaken]
  omega

/-! ### Tenths of an hour -/

theorem countHours_kept {i j : Nat} (other : j ≠ i) (s : State) : ItemKept i s (countHours s j) := by
  unfold countHours
  split
  · split
    · exact itemMoved_kept other _ _ _ s
    · exact .refl i s
  · exact .refl i s

/-- The hours of item `i` of `s` with so many tenths taken, if it has an hours interval, down to -9,999. -/
def hoursAfter (s : State) (i tenths : Nat) : Option Int :=
  (itemOf s i).hours.map fun x : Int =>
    if hoursInterval s.straps.variant i = none then x else max (-9999) (x - (tenths : Int))

theorem hoursAfter_kept {i : Nat} {s t : State} (kept : ItemKept i s t) (tenths : Nat) :
    hoursAfter t i tenths = hoursAfter s i tenths := by
  rw [hoursAfter, hoursAfter, kept.item, kept.straps]

/-- A tenth is taken from an item above its stop that has an hours interval, and from no other (06 R98). -/
theorem countHours_cases {i : Nat} {s : State} (low : ∀ x ∈ (itemOf s i).hours, -9999 ≤ x) :
    (countHours s i = s ∧ hoursAfter s i 1 = (itemOf s i).hours)
    ∨ ∃ x, (itemOf s i).hours = some x ∧ hoursAfter s i 1 = some (x - 1)
        ∧ countHours s i = itemMoved i (itemOf s i).km (some (x - 1)) ((x - 1) % 100 = 0) s := by
  unfold countHours hoursAfter
  cases hours : (itemOf s i).hours with
  | none => exact .inl ⟨rfl, rfl⟩
  | some x =>
    have stop : -9999 ≤ x := low x hours
    cases interval : hoursInterval s.straps.variant i with
    | none => exact .inl ⟨rfl, by simp⟩
    | some top =>
      by_cases above : -9999 < x
      · have taken : max (-9999) (x - 1) = x - 1 := by omega
        exact .inr ⟨x, rfl, by simp [taken], if_pos above⟩
      · have taken : max (-9999) (x - 1) = x := by omega
        exact .inl ⟨if_neg above, by simp [taken]⟩

/-- The remainder of the item's hours is a multiple of 100. -/
def hoursAtMultiple (x : Item) : Bool := x.hours.any fun h => h % 100 = 0

/-- From `s` to `t` item `i` has lost so many tenths, at most one: judged again if that changed its hours, and left
as it was otherwise. -/
structure HoursCounted (i tenths : Nat) (s t : State) : Prop where
  km : (itemOf t i).km = (itemOf s i).km
  hours : (itemOf t i).hours = hoursAfter s i tenths
  changed : (itemOf t i).hours ≠ (itemOf s i).hours →
    Judged i (itemOf s i).km (itemOf t i).hours (hoursAtMultiple (itemOf t i)) s t
  unchanged : (itemOf t i).hours = (itemOf s i).hours → itemOf t i = itemOf s i

theorem HoursCounted.of_kept {i tenths : Nat} {s t : State} (kept : ItemKept i s t)
    (same : hoursAfter s i tenths = (itemOf s i).hours) : HoursCounted i tenths s t :=
  ⟨by rw [kept.item], by rw [kept.item, same], fun changed => absurd (by rw [kept.item]) changed, fun _ => kept.item⟩

theorem HoursCounted.kept {i tenths : Nat} {s u v t : State} (before : ItemKept i s u)
    (count : HoursCounted i tenths u v) (after : ItemKept i v t) : HoursCounted i tenths s t := by
  obtain ⟨km, hours, changed, unchanged⟩ := count
  rw [before.item] at km changed unchanged
  have same : hoursAfter u i tenths = hoursAfter s i tenths := hoursAfter_kept before tenths
  refine ⟨?_, ?_, ?_, ?_⟩ <;> rw [after.item]
  · exact km
  · exact hours.trans same
  · exact fun change => (changed change).kept before after
  · exact unchanged

theorem hoursAfter_zero {s : State} {i : Nat} (low : ∀ x ∈ (itemOf s i).hours, -9999 ≤ x) :
    hoursAfter s i 0 = (itemOf s i).hours := by
  unfold hoursAfter
  cases hours : (itemOf s i).hours with
  | none => rfl
  | some x =>
    have stop : -9999 ≤ x := low x hours
    have same : max (-9999) x = x := by omega
    simp [same]

theorem countTenths_one {i : Nat} {s : State} (whole : s.service.items.length = 8) (item : i ∈ itemNumbers)
    (low : ∀ x ∈ (itemOf s i).hours, -9999 ≤ x) : HoursCounted i 1 s (countTenths 1 s) := by
  obtain ⟨u, before, after⟩ :=
    foldl_reaches (f := countHours) (fun t j other => countHours_kept other t) (by decide) item s
  have sameHours : hoursAfter u i 1 = hoursAfter s i 1 := hoursAfter_kept before 1
  rcases countHours_cases (by rw [before.item]; exact low) with ⟨stays, same⟩ | ⟨x, hours, taken, moved⟩
  · rw [stays] at after
    exact .of_kept (before.trans after) (by rw [← sameHours, same, before.item])
  · have judged := itemMoved_judged (before.whole whole) (isItem_of_mem item) (itemOf u i).km (some (x - 1))
      ((x - 1) % 100 = 0)
    rw [← moved] at judged
    have judged := Judged.kept before judged after
    rw [before.item] at judged hours
    have left := judged.hoursLeft
    refine ⟨judged.kmLeft, left.trans (taken.symm.trans sameHours), fun _ => ?_, fun same => ?_⟩
    · have multiple : hoursAtMultiple (itemOf (countTenths 1 s) i) = decide ((x - 1) % 100 = 0) := by
        rw [hoursAtMultiple, countTenths, countTenths, left]
        rfl
      rw [multiple]
      exact left ▸ judged
    · have apart : x - 1 = x := Option.some.inj (left.symm.trans (same.trans hours))
      omega

/-- A run-second delta of 0, which is not issued, would change nothing. -/
theorem issue_runSeconds {s : State} (d : Nat) (low : s.service.hoursResidue < 360) :
    issue runSeconds d s = runSeconds d s := by
  unfold issue
  split
  · subst_vars
    simp [runSeconds, Nat.div_eq_of_lt low, Nat.mod_eq_of_lt low, countTenths]
  · rfl

theorem runSeconds_counted {i d : Nat} {s : State} (few : s.service.hoursResidue + d < 720)
    (whole : s.service.items.length = 8) (item : i ∈ itemNumbers) (low : ∀ x ∈ (itemOf s i).hours, -9999 ≤ x) :
    HoursCounted i ((s.service.hoursResidue + d) / 360) s (runSeconds d s) := by
  let filled : State :=
    { s with service := { s.service with hoursResidue := (s.service.hoursResidue + d) % 360 } }
  have seconds : runSeconds d s = countTenths ((s.service.hoursResidue + d) / 360) filled := rfl
  rw [seconds]
  have once : (s.service.hoursResidue + d) / 360 < 2 := Nat.div_lt_of_lt_mul few
  interval_cases (s.service.hoursResidue + d) / 360
  · exact .of_kept (.of_items rfl rfl rfl) (hoursAfter_zero low)
  · have start : ItemKept i s filled := .of_items rfl rfl rfl
    exact HoursCounted.kept start (countTenths_one (s := filled) whole item low) (.refl i _)

/-! ### The state of an item -/

/-- TABLE 6-2 read in order for two remainders at once: as the levels of neither cross, the pairs of branches in which
the two readings would differ are excluded. -/
theorem worseState_ladder {a b c d x y : Int} (km : a ≤ 0 ∧ 0 ≤ b) (hours : c ≤ 0 ∧ 0 ≤ d) :
    worseState (ladder b a x) (ladder d c y) =
      if x ≤ a ∨ y ≤ c then .overdue else if x ≤ 0 ∨ y ≤ 0 then .due else if x ≤ b ∨ y ≤ d then .soon
      else .counting := by
  obtain ⟨_, _⟩ := km
  obtain ⟨_, _⟩ := hours
  unfold ladder
  repeat' split
  all_goals first | rfl | omega

/-- The state of an item by TABLE 6-2: the worst of its remainders' (06 R99). -/
theorem judgeItem_eq {variant : BitVec 2} {i : Nat} {km : Int} {hours : Option Int}
    (both : hours = none ↔ hoursInterval variant i = none) : judgeItem variant i km hours =
      (if km ≤ -1000 ∨ ∃ h ∈ hours, h ≤ -300 then .overdue
       else if km ≤ 0 ∨ ∃ h ∈ hours, h ≤ 0 then .due
       else if km ≤ (max (kmInterval variant i / 10) 300 : Nat)
          ∨ ∃ h ∈ hours, ∃ x ∈ hoursInterval variant i, h ≤ (x / 10 : Nat) then .soon
       else .counting) := by
  cases hours with
  | none => simp [judgeItem, ladder]
  | some h =>
    cases interval : hoursInterval variant i with
    | none => exact absurd (both.mpr interval) (by simp)
    | some top =>
      have judged : judgeItem variant i km (some h) = worseState
          (ladder (max (kmInterval variant i / 10) 300 : Nat) (-1000) km) (ladder (top / 10 : Nat) (-300) h) := by
        simp only [judgeItem, interval]
      rw [judged, worseState_ladder (by omega) (by omega)]
      simp only [Option.mem_some_iff, exists_eq_left']

theorem hours_of_countersWithin {s : State} (counters : countersWithin s = true) (i : Nat) :
    s.service.hoursResidue < 360 ∧ ∀ x ∈ (itemOf s i).hours, -9999 ≤ x := by
  obtain ⟨_, _, _, _, service⟩ := countersWithin_iff.mp counters
  obtain ⟨_, hours⟩ := itemWithin_iff.mp (itemOf_within service i)
  exact ⟨service.1, fun x hx => (hours x hx).1⟩

theorem settled_kept (i : Nat) (s : State) : ItemKept i s (settled s) :=
  .of_items (settled_straps s) (by rw [settled_service]) (settled_nsp s)

/-- The items after a CHASSIS arrival of the bound source with a delta: counted down with the odometer. -/
theorem chassis_counts {h : Heard} {old new : Word} {s : State} {i : Nat}
    (bound : (entryIn s .chassis).bound = some h.source) (base : (entryIn s .chassis).base1 = some old)
    (arrived : slotAt h.slots 1 = some new) (first : h.first = false) (few : (new - old).toNat ≤ 4096)
    (top : s.trip.odometer ≤ 9999999) (whole : s.service.items.length = 8) (counters : countersWithin s = true)
    (item : i ∈ itemNumbers) : KmCounted i (kmTaken s i (min 9999999 (s.trip.odometer
        + (s.trip.pulseResidue + (new - old).toNat) / pulsesPerStep s.straps.pulseSel) / 10 - s.trip.odometer / 10))
      s (settled (offerReport .chassis h (noteHeard h s))) := by
  let delta := (new - old).toNat
  let steps := (s.trip.pulseResidue + delta) / pulsesPerStep s.straps.pulseSel
  have base1 : baseBefore s .chassis h.source 1 = some old := by rw [baseBefore_one, if_pos bound, base]
  have issued : (slotDelta s .chassis h 1).2 = delta :=
    (slotDelta_issued rfl base1 arrived first).trans (if_pos few)
  let x := entered .chassis h s
  have before := entered_only .chassis h s
  let filled := pulsesFilled delta x
  have pulses : issue pulseDelta delta x = distanceSteps steps filled := by
    have trip0 := before.trip (by decide)
    have straps0 := before.straps (by decide)
    have low : s.trip.pulseResidue < pulsesPerStep s.straps.pulseSel :=
      (countersWithin_iff.mp counters).1.lt _ fun _ => rfl
    rw [issue_pulseDelta delta (by rw [trip0, straps0]; exact low), pulseDelta_eq, trip0, straps0]
  have start : ItemKept i s filled :=
    .of_items (before.straps (by decide)) (by rw [← before.service (by decide)]; rfl) (before.nsp (by decide))
  have odometer : filled.trip.odometer = s.trip.odometer := by
    rw [← before.trip (by decide)]
    rfl
  have low : -9999 ≤ (itemOf s i).km := kmAbove_of_countersWithin whole counters i item
  have follows : KmFollows i s (distanceSteps steps filled) := by
    refine KmFollows.distanceSteps item whole low steps ⟨?_, odometer.ge⟩
    rw [odometer, Nat.sub_self, kmTaken, Nat.zero_min]
    exact .none start
  have count := follows.count
  rw [distanceSteps_odometer steps (by rw [odometer]; exact top), odometer] at count
  rw [offerReport_bound bound, issued]
  obtain ⟨_, _, items, _, _, nsp⟩ := consumers_chassis_kept h delta (slotDelta s .chassis h 2).2
    (raisesCall (callBefore s h.source) h) x
  rw [pulses] at items nsp
  have straps : (consumers .chassis h delta (slotDelta s .chassis h 2).2
      (raisesCall (callBefore s h.source) h) x).straps = (distanceSteps steps filled).straps :=
    ((consumers_only .chassis h delta _ _ x).straps (by decide)).trans
      ((distanceSteps_only steps filled).straps (by decide)).symm
  exact (count.kept (.of_items straps items nsp)).kept (settled_kept i _)

theorem hoursAtMultiple_iff {x : Item} : hoursAtMultiple x = true ↔ ∃ h ∈ x.hours, h % 100 = 0 := by
  simp only [hoursAtMultiple, Option.any_eq_true, decide_eq_true_eq, Option.mem_def]

/-- The items after a FUEL FLOW arrival of the bound source with a run-second delta. -/
theorem fuelFlow_counts {h : Heard} {old new : Word} {s : State} {i : Nat}
    (bound : (entryIn s .fuelFlow).bound = some h.source) (base : (entryIn s .fuelFlow).base2 = some old)
    (arrived : slotAt h.slots 2 = some new) (first : h.first = false) (few : (new - old).toNat ≤ 64)
    (whole : s.service.items.length = 8) (counters : countersWithin s = true) (item : i ∈ itemNumbers) :
    let t := settled (offerReport .fuelFlow h (noteHeard h s))
    t.service.hoursResidue = (s.service.hoursResidue + (new - old).toNat) % 360
      ∧ HoursCounted i ((s.service.hoursResidue + (new - old).toNat) / 360) s t := by
  intro t
  have base2 : baseBefore s .fuelFlow h.source 2 = some old := by rw [baseBefore_two, if_pos bound, base]
  have issued : (slotDelta s .fuelFlow h 2).2 = (new - old).toNat :=
    (slotDelta_issued rfl base2 arrived first).trans (if_pos few)
  obtain ⟨residue, low⟩ := hours_of_countersWithin counters i
  let u := issue fuelDelta (slotDelta s .fuelFlow h 1).2 (entered .fuelFlow h s)
  have only : OnlyIn [.bus, .power, .trip, .journey, .fuel] s u :=
    ((entered_only .fuelFlow h s).mono (by decide)).trans ((issue_only fuelDelta_only _ _).mono (by decide))
  have service : u.service = s.service := only.service (by decide)
  have before : ItemKept i s u := .of_items (only.straps (by decide)) (by rw [service]) (only.nsp (by decide))
  have isDelta : t = settled (issue runSeconds (new - old).toNat u) := by
    rw [← issued]
    exact congrArg settled (offerReport_bound bound)
  have isRun : issue runSeconds (new - old).toNat u = runSeconds (new - old).toNat u :=
    issue_runSeconds _ (by rw [service]; exact residue)
  have count := runSeconds_counted (i := i) (d := (new - old).toNat) (s := u) (by rw [service]; omega)
    (before.whole whole) item (by rw [before.item]; exact low)
  rw [isDelta]
  refine ⟨?_, ?_⟩
  · rw [settled_service, issue_runSeconds_hoursResidue _ (by rw [service]; exact residue), service]
  · rw [isRun]
    rw [service] at count
    exact HoursCounted.kept before count (settled_kept i _)

end Sys2Proof.Machine

open Sys2Proof Sys2Proof.Machine

/-- Settles O29: an item's km follow the odometer through the distance steps, each decrement judged as it falls, and
its hours take the one tenth that the run seconds of an arrival can complete. -/
theorem serviceItemsCountDown : Obligations.ServiceItemsCountDown := by
  refine ⟨fun variant i km hours _ both => judgeItem_eq both, ?km, ?hours⟩
  case km =>
    intro h old new s heard bound base arrived first few top banks counters steps marks
    have whole := items_length_of_banksWhole banks
    refine ⟨_, exec_reportArrival_heard heard, fun i item => ?_, reportArrival_only .chassis h s⟩
    have low : -9999 ≤ (itemOf s i).km := kmAbove_of_countersWithin whole counters i item
    have count := chassis_counts bound base arrived first few top whole counters item
    refine ⟨count.total low, count.hours, fun changed => ?_, fun same => ?_, count.still, count.marked, count.unmarked,
      count.waits, count.clean⟩
    · have some_ : kmTaken s i marks ≠ 0 := fun none_ => changed (by rw [count.km, none_]; omega)
      rw [count.state, kmLevel, if_neg some_, count.km]
    · have none_ : kmTaken s i marks = 0 := by
        have left : _ = (itemOf s i).km - (kmTaken s i marks : Int) := count.km
        omega
      rw [count.state, kmLevel, if_pos none_]
  case hours =>
    intro h old new s heard bound base arrived first few banks counters seconds
    have whole := items_length_of_banksWhole banks
    have counts := fun i (item : i ∈ itemNumbers) =>
      fuelFlow_counts bound base arrived first few whole counters item
    refine ⟨_, exec_reportArrival_heard heard, (counts 1 (by decide)).1, fun i item => ?_,
      reportArrival_only .fuelFlow h s⟩
    obtain ⟨_, km, hours, changed, unchanged⟩ := counts i item
    refine ⟨km, hours, fun change => (changed change).state, fun same => ?_, fun change marks => ?_,
      fun change quiet => ?_⟩
    · rw [unchanged same]
      exact ⟨rfl, rfl, rfl⟩
    · exact (changed change).marked (marks.imp_right hoursAtMultiple_iff.mpr)
    · exact ((changed change).unmarked fun marks => quiet (marks.imp_right hoursAtMultiple_iff.mp)).symm
end

section
/-! PROOFS. Service resets: what a reset restores of an item, that the reminder's record takes one place of the message
queue at most beside the status note (06 R104, R105, 09 R142), and the statement about resets (O40). -/

namespace Sys2Proof.Machine

/-! ### The intervals restored -/

/-- The item's remainders are its intervals, and its state is COUNTING (06 R105). -/
def itemRestored (variant : BitVec 2) (i : Nat) (x : Item) : Prop :=
  x.km = (kmInterval variant i : Int) ∧ x.state = .counting
    ∧ x.hours = (hoursInterval variant i).map (fun h => (h : Int))

theorem cursorAfterReset_kept (i : Nat) (s : State) : CountersKept s (cursorAfterReset i s) := by
  unfold cursorAfterReset
  split
  · split
    · exact setCursor_kept _ s
    · exact endReminders_kept s
  · exact .refl s

/-- An operation of the messages and the reminder leaves the items. -/
theorem ItemKept.of_counters {i : Nat} {s t : State} (only : OnlyIn [.warn, .msg, .disp, .service] s t)
    (kept : CountersKept s t) : ItemKept i s t :=
  .of_items (only.straps (by decide)) kept.items (only.nsp (by decide))

theorem resetItem_restores {i : Nat} {s : State} (whole : s.service.items.length = 8) (item : isItem i = true) :
    itemRestored s.straps.variant i (itemOf (resetItem s i) i) := by
  let f : Item → Item := fun x => { x with
    km := kmInterval s.straps.variant i, hours := (hoursInterval s.straps.variant i).map (fun h => (h : Int)),
    state := .counting }
  have restored : itemOf (modifyItem i f s) i = f (itemOf s i) := itemOf_modifyItem_same whole item
  obtain ⟨d, marked, _⟩ := markItem_item (s := modifyItem i f s) ((modifyItem_grows i f s).whole whole) item
  have cursor : ItemKept i _ (resetItem s i) :=
    .of_counters (cursorAfterReset_only i (markItem i (modifyItem i f s))) (cursorAfterReset_kept i _)
  rw [cursor.item, marked, restored]
  exact ⟨rfl, rfl, rfl⟩

theorem resetItem_kept {i j : Nat} (other : j ≠ i) (s : State) : ItemKept i s (resetItem s j) :=
  ((modifyItem_kept other _ s).trans (markItem_kept other _)).trans
    (.of_counters (cursorAfterReset_only j _) (cursorAfterReset_kept j _))

/-- The items of a reset, each without the note: one, or every one for 0 (06 R105). -/
def itemsReset (item : Nat) (s : State) : State :=
  if item = 0 then itemNumbers.foldl resetItem s else resetItem s item

theorem serviceResetOp_eq (item : Nat) (s : State) : serviceResetOp item s = postNote .statusNote
    (.serviceReset (if item = 0 then none else some item)) 6 (some 2) (itemsReset item s) := by
  unfold serviceResetOp itemsReset
  split <;> rfl

theorem postNote_kept (i : Nat) (o : MsgOrigin) (x : Text) (prio : Nat) (mx : Option Nat) (s : State) :
    ItemKept i s (postNote o x prio mx s) :=
  .of_counters (postNote_only o x prio mx s) (postMessage_kept o x prio mx s)

theorem serviceResetOp_restores {i item : Nat} {s : State} (whole : s.service.items.length = 8) (here : i ∈ itemNumbers)
    (meant : item = 0 ∨ item = i) : itemRestored s.straps.variant i (itemOf (serviceResetOp item s) i) := by
  rw [serviceResetOp_eq, (postNote_kept i _ _ _ _ _).item]
  unfold itemsReset
  split
  case isTrue =>
    obtain ⟨u, before, after⟩ :=
      foldl_reaches (f := resetItem) (fun t j other => resetItem_kept other t) (by decide) here s
    rw [after.item, ← before.straps]
    exact resetItem_restores (before.whole whole) (isItem_of_mem here)
  case isFalse one =>
    obtain rfl := meant.resolve_left one
    exact resetItem_restores whole (isItem_of_mem here)

theorem serviceResetOp_kept {i item : Nat} (other : ¬(item = 0 ∨ item = i)) (s : State) :
    ItemKept i s (serviceResetOp item s) := by
  obtain ⟨one, apart⟩ := not_or.mp other
  have alone : itemsReset item s = resetItem s item := if_neg one
  rw [serviceResetOp_eq, alone]
  exact (resetItem_kept apart s).trans (postNote_kept i _ _ _ _ _)

theorem resetItem_hoursResidue (s : State) (i : Nat) :
    (resetItem s i).service.hoursResidue = s.service.hoursResidue := by
  rw [resetItem, (cursorAfterReset_kept i _).hours, markItem_hoursResidue, modifyItem_hoursResidue]

theorem serviceResetOp_hoursResidue (item : Nat) (s : State) :
    (serviceResetOp item s).service.hoursResidue = s.service.hoursResidue := by
  rw [serviceResetOp_eq, postNote, (postMessage_kept _ _ _ _ _).hours, itemsReset]
  split
  · exact foldl_keeps (p := fun t => t.service.hoursResidue) resetItem_hoursResidue itemNumbers s
  · exact resetItem_hoursResidue s item

/-! ### Room for the note -/

/-- The origins of the records in the message queue. -/
def queuedOrigins (s : State) : List MsgOrigin := s.msg.queue.map (fun r => r.origin)

/-- The queue has room for a record beside the reminder's, whether that is in it or not. -/
def roomBesideReminder (s : State) : Prop :=
  s.msg.queue.length < 7 ∨ (s.msg.queue.length = 7 ∧ .reminder ∈ queuedOrigins s)

theorem originPresent_iff {o : MsgOrigin} {s : State} :
    originPresent o s.msg.queue = true ↔ o ∈ queuedOrigins s := by
  simp [originPresent, queuedOrigins]

theorem roomBesideReminder.congr {s t : State} (same : queuedOrigins t = queuedOrigins s)
    (room : roomBesideReminder s) : roomBesideReminder t := by
  have length : t.msg.queue.length = s.msg.queue.length := by simpa [queuedOrigins] using congrArg List.length same
  rwa [roomBesideReminder, same, length]

theorem queuedOrigins_congr {s t : State} (same : t.msg = s.msg) : queuedOrigins t = queuedOrigins s := by
  rw [queuedOrigins, same, queuedOrigins]

theorem select_origins (s : State) : queuedOrigins (select s) = queuedOrigins s := by
  simpa [postedAs, queuedOrigins, Function.comp_def] using congrArg (List.map Prod.fst) (select_posted s)

theorem replaceRecord_origins (o : MsgOrigin) (x : Text) (prio : Nat) (mx : Option Nat) (s : State) :
    queuedOrigins (replaceRecord o x prio mx s) = queuedOrigins s := by
  unfold queuedOrigins replaceRecord
  rw [List.map_map]
  refine List.map_congr_left fun r _ => ?_
  rw [Function.comp_apply]
  split <;> rfl

/-- The reminder's post takes the place of its record, or one more place. -/
theorem postReminder_room {i : Nat} {s : State} (room : roomBesideReminder s) :
    roomBesideReminder (postReminder i s) := by
  have posted : (postReminder i s).msg = (msgPost .reminder (.service (itemOf s i).state i) 5 (some 4) s).2.msg := by
    unfold postReminder
    split <;> rename_i taken <;> rw [taken]
  refine roomBesideReminder.congr (queuedOrigins_congr posted) ?_
  rcases msgPost_cases .reminder (.service (itemOf s i).state i) 5 (some 4) s with
    ⟨_, taken⟩ | ⟨absent, _, taken⟩ | ⟨_, _, full, _⟩ | ⟨_, full, _⟩
  · rw [taken]
    exact room.congr ((select_origins _).trans (replaceRecord_origins _ _ _ _ _))
  · rw [taken]
    refine roomBesideReminder.congr (select_origins _) ?_
    have few : s.msg.queue.length < 7 := room.resolve_right fun ⟨_, present⟩ => by
      rw [originPresent_iff.mpr present] at absent
      cases absent
    have length : (joinRecord .reminder (.service (itemOf s i).state i) 5 (some 4) s).msg.queue.length
        = s.msg.queue.length + 1 := List.length_append
    have joined : .reminder ∈ queuedOrigins (joinRecord .reminder (.service (itemOf s i).state i) 5 (some 4) s) := by
      simp [queuedOrigins, joinRecord]
    by_cases last : s.msg.queue.length = 6
    · exact .inr ⟨by omega, joined⟩
    · exact .inl (by omega)
  all_goals
    have : s.msg.queue.length ≤ 7 := room.elim Nat.le_of_lt fun seven => seven.1.le
    omega

theorem removeReminder_room {s : State} (room : roomBesideReminder s) :
    roomBesideReminder (removeRecord .reminder s) := by
  unfold removeRecord
  split
  case isTrue present =>
    obtain ⟨r, here, isReminder⟩ := List.mem_map.mp (originPresent_iff.mp present)
    refine roomBesideReminder.congr (select_origins _) (.inl ?_)
    have fewer : (dropRecord .reminder s).msg.queue.length < s.msg.queue.length :=
      List.length_filter_lt_length_iff_exists.mpr ⟨r, here, by simp [isReminder]⟩
    have : s.msg.queue.length ≤ 7 := room.elim Nat.le_of_lt fun seven => seven.1.le
    omega
  case isFalse => exact room

theorem cursorAfterReset_room {i : Nat} {s : State} (room : roomBesideReminder s) :
    roomBesideReminder (cursorAfterReset i s) := by
  unfold cursorAfterReset
  split
  · split
    · exact postReminder_room (s := { s with service := _ }) room
    · exact removeReminder_room (s := { s with service := _ }) room
  · exact room

theorem resetItem_room {i : Nat} {s : State} (room : roomBesideReminder s) : roomBesideReminder (resetItem s i) := by
  refine cursorAfterReset_room (room.congr (queuedOrigins_congr ?_))
  exact ((markItem_only i _).msg (by decide)).trans ((modifyItem_only i _ s).msg (by decide))

theorem itemsReset_room {item : Nat} {s : State} (room : roomBesideReminder s) :
    roomBesideReminder (itemsReset item s) := by
  unfold itemsReset
  split
  · exact List.foldlRecOn itemNumbers resetItem room fun _ held _ _ => resetItem_room held
  · exact resetItem_room room

/-- The status note of a reset finds its place, if the queue had room for it beside a reminder (06 R105). -/
theorem serviceResetOp_recorded {item : Nat} {s : State} (room : s.msg.queue.length < 7) :
    Recorded .statusNote (.serviceReset (if item = 0 then none else some item)) 6 (some 2) (serviceResetOp item s) := by
  rw [serviceResetOp_eq]
  refine postNote_recorded _ _ _ _ ?_
  rcases itemsReset_room (item := item) (.inl room) with few | ⟨seven, _⟩ <;> omega

/-! ### The commands -/

theorem exec_serviceReset {s : State} {n item : Nat} {rest : List IntakeEntry} (on : awake s = true)
    (intake : s.port.intake = ⟨n, .serviceReset item⟩ :: rest) : exec .serviceReset s = .next (
      if carStopped s then settled (serviceResetOp item { s with port := { s.port with intake := rest } })
      else { s with port := { s.port with intake := rest } }) := by
  have arm : exec .serviceReset s = execServiceReset s := rfl
  rw [arm, execServiceReset, intakeHead_cons on intake, dropHead_cons intake]

theorem exec_serviceResetPress {s : State} {item d : Nat} (run : s.power.mode = .run)
    (held : s.keys.reset = .held (.serviceReset item d)) (stands : carStandsStill s = true) :
    exec .serviceResetPress s = .next (settled (serviceResetOp item (takeLong .reset s))) := by
  have arm : exec .serviceResetPress s = execServiceResetPress s := rfl
  have key : keyOf s.keys .reset = .held (.serviceReset item d) := held
  have on : awake s = true := by rw [awake, run]
  have may : ((takeLong .reset s).power.mode = .run && carStandsStill (takeLong .reset s)) = true := by
    have still : carStandsStill (takeLong .reset s) = carStandsStill s := rfl
    rw [takeLong, holdKey_power, run, ← takeLong, still, stands]
    rfl
  have long : serviceLong item (takeLong .reset s) = serviceResetOp item (takeLong .reset s) := if_pos may
  rw [arm, execServiceResetPress, key, ← long]
  exact congrArg Host.Outcome.next (if_pos on)

end Sys2Proof.Machine

open Sys2Proof Sys2Proof.Machine

/-- Settles O40: by command and by key the same reset runs, on a state that differs in the intake queue or the key. -/
theorem serviceResetRestoresTheIntervals : Obligations.ServiceResetRestoresTheIntervals := by
  refine ⟨fun s c n item rest banks _ run => ?restored, fun s n item rest on intake moves => ?discarded⟩
  case discarded => exact (exec_serviceReset on intake).trans (congrArg _ (if_neg (by rw [moves]; decide)))
  case restored =>
    obtain ⟨x, reset, only⟩ :
        ∃ x, exec c s = .next (settled (serviceResetOp item x)) ∧ OnlyIn [.port, .keys] s x := by
      rcases run with ⟨rfl, on, intake, stopped⟩ | ⟨rfl, run, ⟨d, held⟩, stands⟩
      · exact ⟨_, (exec_serviceReset on intake).trans (congrArg _ (if_pos stopped)), (only_port s _).mono (by decide)⟩
      · exact ⟨_, exec_serviceResetPress run held stands, (takeLong_only _ s).mono (by decide)⟩
    have service : x.service = s.service := only.service (by decide)
    have straps : x.straps = s.straps := only.straps (by decide)
    have whole : x.service.items.length = 8 := by rw [service]; exact items_length_of_banksWhole banks
    have sameItem : ∀ i, itemOf x i = itemOf s i := itemOf_congr (by rw [service])
    have op : OnlyIn (.keys :: mayChange .serviceReset) x (serviceResetOp item x) :=
      (serviceResetOp_only item x).mono (by decide)
    refine ⟨_, reset, fun i here => ?_, ?_, fun room => ?_,
      ((only.mono (by decide)).trans op).settled (by decide) (by decide)⟩
    · rw [(settled_kept i _).item]
      split
      case isTrue meant =>
        rw [← straps]
        exact serviceResetOp_restores whole here meant
      case isFalse other =>
        rw [(serviceResetOp_kept other x).item, sameItem]
        exact ⟨rfl, rfl, rfl⟩
    · rw [settled_service, serviceResetOp_hoursResidue, service]
    · rw [settled_msg]
      obtain ⟨r, here, origin, text, priority, show_⟩ := serviceResetOp_recorded (item := item) (s := x)
        (by rw [only.msg (by decide)]; exact room)
      exact ⟨r, here, origin, priority, show_, text⟩
end

section
/-! PROOFS. Warning entries: the relation of two states that says what an operation leaves of the Warning Unit, what the
posts, the withdrawals, the review and the changes of an entry leave of it (07 R109, R119 to R122, R125), and where an
evaluation takes its entry (07 TABLE 7-4). -/

namespace Sys2Proof.Machine

/-! ### The relation -/

/-- The Warning Unit but for its entries and its review. -/
def unitOf (w : Warn) : Warn := { w with entries := [], review := .closed, reviewTimer := none }

/-- What TABLE 7-4 reads of an entry. -/
def standingOf (e : WarnEntry) : WarnStatus × Nat × PriorStatus × Bool := (e.status, e.count, e.prior, e.rechimeDue)

/-- What TABLE 7-4 gives an entry: its state and its count. -/
def levelOf (e : WarnEntry) : WarnStatus × Nat := (e.status, e.count)

/-- `t` has what the gates read of `s`, the image and the transfer of `s`, and, as far as `view` goes, every warning
entry but those of the numbers `but`. -/
structure WarnKept {β : Type} (view : WarnEntry → β) (but : List Nat) (s t : State) : Prop where
  mode : t.power.mode = s.power.mode
  dip : t.power.dip = s.power.dip
  unit : unitOf t.warn = unitOf s.warn
  image : t.disp.image = s.disp.image
  transfer : t.disp.transfer = s.disp.transfer
  entry : ∀ n, n ∉ but → view (warnEntry t n) = view (warnEntry s n)

theorem warnEntry_congr {s t : State} (same : t.warn.entries = s.warn.entries) (n : Nat) :
    warnEntry t n = warnEntry s n := by
  unfold warnEntry
  rw [same]

/-- The blocks of which the relation says nothing. -/
def warnFree : Block → Bool
  | .power | .warn | .disp => false
  | _ => true

section
variable {β : Type} {view : WarnEntry → β} {but but' : List Nat} {s t u : State}

theorem WarnKept.refl (view : WarnEntry → β) (but : List Nat) (s : State) : WarnKept view but s s :=
  ⟨rfl, rfl, rfl, rfl, rfl, fun _ _ => rfl⟩

theorem WarnKept.trans (h : WarnKept view but s t) (k : WarnKept view but t u) : WarnKept view but s u :=
  ⟨k.mode.trans h.mode, k.dip.trans h.dip, k.unit.trans h.unit, k.image.trans h.image, k.transfer.trans h.transfer,
    fun n out => (k.entry n out).trans (h.entry n out)⟩

theorem WarnKept.ite {c : Prop} [Decidable c] (h : WarnKept view but s t) (k : WarnKept view but s u) :
    WarnKept view but s (if c then t else u) := by
  split <;> assumption

theorem WarnKept.mono (h : WarnKept view but s t) (sub : but ⊆ but') : WarnKept view but' s t :=
  { h with entry := fun n out => h.entry n fun inside => out (sub inside) }

/-- An entry kept whole is kept in every view. -/
theorem WarnKept.viewed (h : WarnKept id but s t) : WarnKept view but s t :=
  { h with entry := fun n out => congrArg view (h.entry n out) }

/-- The standing of an entry has its state and count. -/
theorem WarnKept.level (h : WarnKept standingOf but s t) : WarnKept levelOf but s t :=
  { h with entry := fun n out => congrArg (fun x => (x.1, x.2.1)) (h.entry n out) }

theorem WarnKept.of_entries (mode : t.power.mode = s.power.mode := by rfl) (dip : t.power.dip = s.power.dip := by rfl)
    (unit : unitOf t.warn = unitOf s.warn := by rfl) (image : t.disp.image = s.disp.image := by rfl)
    (transfer : t.disp.transfer = s.disp.transfer := by rfl) (entries : t.warn.entries = s.warn.entries := by rfl) :
    WarnKept view but s t :=
  ⟨mode, dip, unit, image, transfer, fun n _ => congrArg view (warnEntry_congr entries n)⟩

theorem WarnKept.of_free {bs : List Block} (only : OnlyIn bs s t) (free : bs.all warnFree = true) :
    WarnKept view but s t := by
  have out : ∀ b, warnFree b = false → b ∉ bs := fun b held inside => by
    simp [List.all_eq_true.mp free b inside] at held
  have power := only.power (out .power rfl)
  have warn := only.warn (out .warn rfl)
  have disp := only.disp (out .disp rfl)
  exact .of_entries (by rw [power]) (by rw [power]) (by rw [warn]) (by rw [disp]) (by rw [disp]) (by rw [warn])

/-- Operations of one entry each, one after another, leave the entries that none of them is of. -/
theorem WarnKept.foldl {f : State → Nat → State} (h : ∀ t n, WarnKept view [n] t (f t n)) :
    ∀ (l : List Nat) (s : State), WarnKept view l s (l.foldl f s)
  | [], s => .refl view [] s
  | n :: rest, s => ((h s n).mono (by simp)).trans ((WarnKept.foldl h rest (f s n)).mono (by simp))

end

/-! ### Gates and readings -/

theorem WarnKept.gate {β : Type} {view : WarnEntry → β} {but : List Nat} {s t : State} (h : WarnKept view but s t)
    (g : Gate) : gateTrue t g = gateTrue s g := by
  have read : ∀ {α : Type} (p : Warn → α), p (unitOf t.warn) = p (unitOf s.warn) := fun p => congrArg p h.unit
  have proving : t.warn.provingTimer = s.warn.provingTimer := read Warn.provingTimer
  have established : t.warn.engineEst = s.warn.engineEst := read Warn.engineEst
  have speed : t.warn.gateSpeed = s.warn.gateSpeed := read Warn.gateSpeed
  have window : t.warn.window = s.warn.window := read Warn.window
  cases g <;> simp only [gateTrue, runGate, awake, h.mode, h.dip, proving, established, speed, window]

/-! ### Review, messages and reminders -/

section
variable (s : State)

theorem closeReview_entries : WarnKept id [] s (closeReview s) := .of_entries

theorem leaveSetMode_entries : WarnKept id [] s (leaveSetMode s) := .of_entries

theorem wakeDisplay_entries : WarnKept id [] s (wakeDisplay s) := .ite .of_entries (.refl _ _ s)

theorem becomeShowing_entries (r : MsgRecord) : WarnKept id [] s (becomeShowing r s) := by
  have shown : ∀ m, WarnKept id [] s { s with msg := m } := fun _ => .of_entries
  exact (((shown _).trans (closeReview_entries _)).trans (leaveSetMode_entries _)).trans (wakeDisplay_entries _)

theorem select_entries : WarnKept id [] s (select s) := by
  unfold select
  split
  · exact becomeShowing_entries s _
  · exact .ite (WarnKept.trans (.of_free (backToWaiting_only s) rfl) (becomeShowing_entries _ _)) (.refl _ _ s)
  · exact .refl _ _ s

theorem msgPost_entries (o : MsgOrigin) (x : Text) (prio : Nat) (mx : Option Nat) :
    WarnKept id [] s (msgPost o x prio mx s).2 := by
  rcases msgPost_cases o x prio mx s with ⟨_, post⟩ | ⟨_, _, post⟩ | ⟨w, _, _, _, _, post⟩ | ⟨_, _, post⟩ <;> rw [post]
  · exact WarnKept.trans (.of_free (replaceRecord_only _ _ _ _ s) rfl) (select_entries _)
  · exact WarnKept.trans (.of_free (joinRecord_only _ _ _ _ s) rfl) (select_entries _)
  · exact WarnKept.trans (.of_free ((dropRecord_only _ s).trans (joinRecord_only _ _ _ _ _)) rfl) (select_entries _)
  · exact .refl _ _ s

theorem removeRecord_entries (o : MsgOrigin) : WarnKept id [] s (removeRecord o s) :=
  .ite (WarnKept.trans (.of_free (dropRecord_only o s) rfl) (select_entries _)) (.refl _ _ s)

theorem postReminder_entries (i : Nat) : WarnKept id [] s (postReminder i s) := by
  have post := msgPost_entries s .reminder (.service (itemOf s i).state i) 5 (some 4)
  have timed : ∀ (t : State) x, WarnKept id [] t { t with service := x } := fun t x => .of_free (only_service t x) rfl
  unfold postReminder
  split <;> rename_i taken <;> rw [taken] at post <;> exact post.trans (timed _ _)

theorem setCursor_entries (next : Option Nat) : WarnKept id [] s (setCursor next s) := by
  have moved : ∀ x, WarnKept id [] s { s with service := x } := fun x => .of_free (only_service s x) rfl
  unfold setCursor
  split
  · exact (moved _).trans (postReminder_entries _ _)
  · exact moved _

theorem advanceReminder_entries : WarnKept id [] s (advanceReminder s) := by
  unfold advanceReminder
  split
  · exact setCursor_entries s _
  · exact .refl _ _ s

theorem endReminders_entries : WarnKept id [] s (endReminders s) :=
  WarnKept.trans (.of_free (only_service s _) rfl) (removeRecord_entries _ .reminder)

theorem showReview_entries (next : Option Nat) : WarnKept id [] s (showReview next s) := by
  unfold showReview
  split
  · exact .of_entries
  · exact closeReview_entries s

theorem openReview_entries : WarnKept id [] s (openReview s) := by
  unfold openReview
  split
  · exact showReview_entries s _
  · exact .of_entries

theorem moveReview_entries : WarnKept id [] s (moveReview s) := by
  unfold moveReview
  split
  · exact showReview_entries s _
  · exact closeReview_entries s
  · exact .refl _ _ s

/-! ### One entry changed -/

theorem modifyWarn_entries (n : Nat) (f : WarnEntry → WarnEntry) : WarnKept id [n] s (modifyWarn n f s) := by
  have unit : unitOf (modifyWarn n f s).warn = unitOf s.warn := by
    unfold modifyWarn
    split <;> rfl
  have only := modifyWarn_only n f s
  have power := only.power (by decide)
  have disp := only.disp (by decide)
  exact ⟨by rw [power], by rw [power], unit, by rw [disp], by rw [disp],
    fun m out => warnEntry_modifyWarn_other (by simpa using out)⟩

/-- A change of an entry that `view` does not see, in whatever list of entries. -/
theorem modifyWarn_kept_view {β : Type} {view : WarnEntry → β} (n : Nat) {f : WarnEntry → WarnEntry}
    (same : ∀ e, view (f e) = view e) : WarnKept view [] s (modifyWarn n f s) := by
  have others : WarnKept view [n] s (modifyWarn n f s) := (modifyWarn_entries s n f).viewed
  refine { others with entry := fun m _ => ?_ }
  by_cases own : m = n
  · subst own
    unfold warnEntry modifyWarn
    split
    · by_cases inside : m - 1 < s.warn.entries.length
      · rw [getD_modifyAt_same f _ inside]
        exact same _
      · have short : s.warn.entries.length ≤ m - 1 := Nat.le_of_not_lt inside
        rw [List.getD_eq_default _ _ (by simpa using short), List.getD_eq_default _ _ short]
    · rfl
  · rw [warnEntry_modifyWarn_other own]

theorem afterEntry7_entries (before after : Bool) : WarnKept id [] s (afterEntry7 before after s) :=
  .of_free (afterEntry7_only before after s) rfl

theorem changeWarn_entries (n : Nat) (f : WarnEntry → WarnEntry) : WarnKept id [n] s (changeWarn n f s) :=
  .ite ((modifyWarn_entries s n f).trans ((afterEntry7_entries _ _ _).mono (by simp))) (modifyWarn_entries s n f)

/-- The entry itself after its change. -/
theorem warnEntry_changeWarn (n : Nat) (f : WarnEntry → WarnEntry) :
    warnEntry (changeWarn n f s) n = warnEntry (modifyWarn n f s) n := by
  unfold changeWarn
  split
  · exact (afterEntry7_entries _ _ _).entry n (by simp)
  · rfl

theorem withdrawChime_entries (src : ChimeSource) : WarnKept id [] s (withdrawChime src s) :=
  .of_free (withdrawChime_only src s) rfl

/-- The posts of an entry are withdrawn after its change. -/
theorem withdrawn_entries (n : Nat) : WarnKept id [] s (removeRecord (.warning n) (withdrawChime (.warning n) s)) :=
  (withdrawChime_entries s _).trans (removeRecord_entries _ _)

theorem enterIdle_entries (n : Nat) : WarnKept id [n] s (enterIdle n s) :=
  (changeWarn_entries s n _).trans ((withdrawn_entries _ n).mono (by simp))

/-- An entry that enters IDLE is clear. -/
theorem warnEntry_enterIdle (n : Nat) : warnEntry (enterIdle n s) n = .clear := by
  have withdrawn : warnEntry (enterIdle n s) n = warnEntry (changeWarn n (fun _ => .clear) s) n :=
    (withdrawn_entries _ n).entry n (by simp)
  rw [withdrawn, warnEntry_changeWarn]
  unfold warnEntry modifyWarn
  split
  · by_cases inside : n - 1 < s.warn.entries.length
    · exact getD_modifyAt_same _ _ inside
    · exact List.getD_eq_default _ _ (by simpa using inside)
  · rfl

theorem acknowledge_entries (n : Nat) : WarnKept id [n] s (acknowledge n s) :=
  .ite ((changeWarn_entries s n _).trans ((withdrawn_entries _ n).mono (by simp))) (.refl _ _ s)

/-! ### Posts -/

/-- A report of a drop marks a post as outstanding; the standing of every entry stays. -/
theorem keepOffering_standing (e : WarnEntry) : standingOf (keepOffering s e) = standingOf e := by
  unfold keepOffering
  repeat' split
  all_goals rfl

theorem chimeDropped_standing (src : ChimeSource) : WarnKept standingOf [] s (chimeDropped src s) := by
  unfold chimeDropped
  split
  · exact modifyWarn_kept_view s _ fun e => keepOffering_standing s _
  · exact .refl _ _ s

theorem messageDropped_standing (o : MsgOrigin) : WarnKept standingOf [] s (messageDropped o s) := by
  unfold messageDropped
  split
  · exact modifyWarn_kept_view s _ fun e => keepOffering_standing s _
  · exact (advanceReminder_entries s).viewed
  · exact .refl _ _ s

theorem postChime_standing (src : ChimeSource) (pat : ChimePattern) (prio reps : Nat) :
    WarnKept standingOf [] s (postChime src pat prio reps s).2 := by
  have post : WarnKept standingOf [] s (chimePost src pat prio reps s).2 := .of_free (chimePost_only _ _ _ _ s) rfl
  unfold postChime
  split <;> rename_i taken <;> rw [taken] at post
  · exact post
  · exact post
  · exact post.trans (chimeDropped_standing _ _)

theorem postMessage_standing (o : MsgOrigin) (x : Text) (prio : Nat) (mx : Option Nat) :
    WarnKept standingOf [] s (postMessage o x prio mx s).2 := by
  have post : WarnKept standingOf [] s _ := (msgPost_entries s o x prio mx).viewed
  unfold postMessage
  split <;> rename_i taken <;> rw [taken] at post
  · exact post
  · exact post
  · exact post.trans (messageDropped_standing _ _)

theorem postNote_standing (o : MsgOrigin) (x : Text) (prio : Nat) (mx : Option Nat) :
    WarnKept standingOf [] s (postNote o x prio mx s) := postMessage_standing s o x prio mx

theorem rearCall_standing : WarnKept standingOf [] s (rearCall s) :=
  (postChime_standing s _ _ _ _).trans (postNote_standing _ _ _ _ _)

theorem postWarnChime_standing (n : Nat) : WarnKept standingOf [] s (postWarnChime n s) := by
  have marked : ∀ t, WarnKept standingOf [] t (modifyWarn n (fun e => { e with chimeOut := false }) t) := fun t =>
    modifyWarn_kept_view t n fun _ => rfl
  unfold postWarnChime
  split
  · rename_i pat reps _
    have post := postChime_standing s (.warning n) pat (warnPriority n) reps
    split <;> rename_i taken <;> rw [taken] at post
    · exact post.trans (marked _)
    · exact post
  · exact marked s

theorem postWarnMessage_standing (n : Nat) : WarnKept standingOf [] s (postWarnMessage n s) := by
  have post := postMessage_standing s (.warning n) (.warning n) (warnPriority n) none
  unfold postWarnMessage
  split <;> rename_i taken <;> rw [taken] at post
  · exact post.trans (modifyWarn_kept_view _ n fun _ => rfl)
  · exact post

theorem postOutstanding_standing (n : Nat) : WarnKept standingOf [] s (postOutstanding n s) := by
  have chime : WarnKept standingOf [] s (if (warnEntry s n).chimeOut then postWarnChime n s else s) :=
    .ite (postWarnChime_standing s n) (.refl _ _ s)
  exact (chime.trans (.ite (postWarnMessage_standing _ n) (.refl _ _ _))).trans
    (modifyWarn_kept_view _ n fun _ => rfl)

/-! ### Evaluations leave the other entries -/

theorem changeWarn_standing (n : Nat) (f : WarnEntry → WarnEntry) : WarnKept standingOf [n] s (changeWarn n f s) :=
  (changeWarn_entries s n f).viewed

theorem enterIdle_standing (n : Nat) : WarnKept standingOf [n] s (enterIdle n s) := (enterIdle_entries s n).viewed

theorem enterActive_standing (n c : Nat) : WarnKept standingOf [n] s (enterActive n c s) :=
  .ite ((changeWarn_standing s n _).trans ((postOutstanding_standing _ n).mono (by simp))) (changeWarn_standing s n _)

theorem evaluatedTrue_standing (n : Nat) : WarnKept standingOf [n] s (evaluatedTrue n s) := by
  unfold evaluatedTrue returnToPrior
  dsimp only
  split
  case h_1 => exact .ite (enterActive_standing s n _) (changeWarn_standing s n _)
  case h_2 => exact .ite (enterActive_standing s n _) (changeWarn_standing s n _)
  case h_3 => exact .refl _ _ s
  case h_4 => exact .ite (enterActive_standing s n _) (.refl _ _ s)
  case h_5 => exact changeWarn_standing s n _

theorem evaluatedFalse_standing (n : Nat) : WarnKept standingOf [n] s (evaluatedFalse n s) := by
  unfold evaluatedFalse enterClearing
  dsimp only
  split
  case h_1 => exact .refl _ _ s
  case h_2 => exact changeWarn_standing s n _
  all_goals exact .ite (enterIdle_standing s n) (changeWarn_standing s n _)

theorem evaluate_standing (n : Nat) : WarnKept standingOf [n] s (evaluate s n) := by
  unfold evaluate
  dsimp only
  split
  · split
    · exact .ite (evaluatedTrue_standing s n) (evaluatedFalse_standing s n)
    · exact .refl _ _ s
  · exact .refl _ _ s

theorem evaluateReport_standing (k : ReportKind) : WarnKept standingOf (reportEntries k) s (evaluateReport k s) :=
  .foldl evaluate_standing _ s

end

end Sys2Proof.Machine
end

section
/-! PROOFS. Evaluations and gates: where one evaluation takes its entry (07 TABLE 7-4), what the evaluations of one event
take every entry to (R114), and what the judging of the gates leaves of every entry (R116). -/

namespace Sys2Proof.Machine

/-! ### Operations of several entries -/

/-- Operations of one entry each, one after another, where none changes what another makes of its own entry. -/
theorem foldl_entry {β : Type} {view : WarnEntry → β} {f : State → Nat → State} {p : State → Prop}
    {result : State → Nat → β} (others : ∀ t n, WarnKept view [n] t (f t n)) (keeps : ∀ t n, p t → p (f t n)) :
    ∀ {l : List Nat} {s : State}, l.Nodup → (∀ t, ∀ n ∈ l, p t → view (warnEntry (f t n) n) = result t n) →
      (∀ t, ∀ m ∈ l, ∀ n ∈ l, n ≠ m → result (f t m) n = result t n) → p s →
      ∀ n ∈ l, view (warnEntry (l.foldl f s) n) = result s n
  | [], _, _, _, _, _, _, inside => absurd inside List.not_mem_nil
  | m :: rest, s, nodup, own, alike, ps, n, inside => by
    obtain ⟨fresh, nodup⟩ := List.nodup_cons.mp nodup
    rw [List.foldl_cons]
    rcases List.mem_cons.mp inside with same | later
    · subst same
      rw [(WarnKept.foldl others rest _).entry n fresh]
      exact own s n List.mem_cons_self ps
    · have differs : n ≠ m := fun same => fresh (same ▸ later)
      rw [foldl_entry others keeps nodup (fun t x hx => own t x (List.mem_cons_of_mem _ hx))
        (fun t x hx y hy => alike t x (List.mem_cons_of_mem _ hx) y (List.mem_cons_of_mem _ hy)) (keeps s m ps) n later]
      exact alike s m List.mem_cons_self n inside differs

/-! ### Gates -/

/-- What the judging of its gate leaves of an entry (07 R116). -/
def gated (s : State) (n : Nat) : WarnEntry :=
  if gateTrue s (warnDef n).gate = true ∨ (warnEntry s n).status = .idle then warnEntry s n else .clear

theorem gateEntry_entries (s : State) (n : Nat) : WarnKept id [n] s (gateEntry s n) :=
  .ite (enterIdle_entries s n) (.refl _ _ s)

theorem warnEntry_gateEntry (s : State) (n : Nat) : warnEntry (gateEntry s n) n = gated s n := by
  unfold gateEntry gated
  by_cases gate : gateTrue s (warnDef n).gate = true
  · simp [gate]
  · by_cases idle : (warnEntry s n).status = .idle
    · simp [idle]
    · simp [gate, idle, warnEntry_enterIdle]

theorem isWarning_of_mem {n : Nat} (h : n ∈ warnNumbers) : isWarning n = true := by
  revert n
  decide

theorem mem_warnNumbers {n : Nat} (h : isWarning n = true) : n ∈ warnNumbers := by
  obtain ⟨low, high⟩ := isWarning_iff.mp h
  interval_cases n <;> decide

theorem warnNumbers_nodup : warnNumbers.Nodup := List.nodup_range' (s := 1) (n := 24)

theorem applyGates_entries (s : State) : WarnKept id warnNumbers s (applyGates s) := .foldl gateEntry_entries _ s

/-- Every entry after the gates are judged (07 R116). -/
theorem warnEntry_applyGates (s : State) (n : Nat) : warnEntry (applyGates s) n = gated s n := by
  by_cases number : n ∈ warnNumbers
  · unfold applyGates
    refine foldl_entry (view := id) (p := fun _ => True) gateEntry_entries (fun _ _ _ => trivial) warnNumbers_nodup
      (fun t m _ _ => warnEntry_gateEntry t m) (fun t m _ n _ differs => ?_) trivial n number
    have kept := gateEntry_entries t m
    have own : warnEntry (gateEntry t m) n = warnEntry t n := kept.entry n (by simpa using differs)
    simp only [gated, kept.gate, own]
  · have clear : ∀ t, warnEntry t n = .clear := fun t => by
      unfold warnEntry
      rw [if_neg fun h => number (mem_warnNumbers h)]
    simp [gated, clear]

/-! ### The evaluation of one entry -/

/-- How an entry is judged: by its test and its companion, or not at all behind a false gate or without a value (07 R114,
R115, R117). -/
def verdict (s : State) (n : Nat) : Option Bool :=
  if gateTrue s (warnDef n).gate then
    (warnInput s (warnDef n).input).map fun v =>
      testTrue s.trip.speedLimit (atRelease (warnEntry s n)) (warnDef n).test v && companionAllows s (warnDef n).companion
  else none

/-- State and count of an entry after its evaluation (07 TABLE 7-4). -/
def judged (s : State) (n : Nat) : WarnStatus × Nat :=
  match verdict s n with
  | some truth => table74 (warnDef n).debounce truth (warnEntry s n)
  | none => levelOf (warnEntry s n)

section
variable {s : State} {n : Nat}

/-- An entry after its change, in a whole list of entries. -/
theorem warnEntry_changed (whole : s.warn.entries.length = 24) (number : isWarning n = true)
    (f : WarnEntry → WarnEntry) : warnEntry (changeWarn n f s) n = f (warnEntry s n) :=
  (warnEntry_changeWarn s n f).trans (warnEntry_modifyWarn_same whole number)

theorem enterActive_level (whole : s.warn.entries.length = 24) (number : isWarning n = true) (c : Nat) :
    levelOf (warnEntry (enterActive n c s) n) = (.active, c) := by
  unfold enterActive
  split
  · rw [(postOutstanding_standing _ n).level.entry n (by simp), warnEntry_changed whole number]
    rfl
  · rw [warnEntry_changed whole number]
    rfl

theorem evaluatedTrue_level (whole : s.warn.entries.length = 24) (number : isWarning n = true) :
    levelOf (warnEntry (evaluatedTrue n s) n) = table74 (warnDef n).debounce true (warnEntry s n) := by
  have active := enterActive_level whole number
  unfold evaluatedTrue table74
  cases status : (warnEntry s n).status <;> simp only [status]
  case idle =>
    split
    · exact active 1
    · rw [warnEntry_changed whole number]
      rfl
  case arming =>
    split
    · exact active _
    · rw [warnEntry_changed whole number]
      simp [levelOf, status]
  case active => simp [levelOf, status]
  case noted =>
    split
    · exact active _
    · simp [levelOf, status]
  case clearing =>
    unfold returnToPrior
    rw [warnEntry_changed whole number]
    cases (warnEntry s n).prior <;> rfl

theorem evaluatedFalse_level (whole : s.warn.entries.length = 24) (number : isWarning n = true) :
    levelOf (warnEntry (evaluatedFalse n s) n) = table74 (warnDef n).debounce false (warnEntry s n) := by
  have idle : levelOf (warnEntry (enterIdle n s) n) = (.idle, 0) := by rw [warnEntry_enterIdle]; rfl
  have clearing : ∀ prior, levelOf (warnEntry (enterClearing n prior s) n) = (.clearing, 1) := fun prior => by
    unfold enterClearing
    rw [warnEntry_changed whole number]
    rfl
  unfold evaluatedFalse table74
  cases status : (warnEntry s n).status <;> simp only [status]
  case idle => simp [levelOf, status]
  case arming =>
    rw [warnEntry_changed whole number]
    rfl
  case active =>
    split
    · exact idle
    · exact clearing .active
  case noted =>
    split
    · exact idle
    · exact clearing .noted
  case clearing =>
    split
    · exact idle
    · rw [warnEntry_changed whole number]
      simp [levelOf, status]

/-- One evaluation takes its entry where TABLE 7-4 says. -/
theorem evaluate_level (whole : s.warn.entries.length = 24) (number : isWarning n = true) :
    levelOf (warnEntry (evaluate s n) n) = judged s n := by
  unfold evaluate judged verdict
  dsimp only
  split
  · cases warnInput s (warnDef n).input with
    | none => rfl
    | some v =>
      simp only [Option.map_some]
      split <;> rename_i truth
      · rw [truth]
        exact evaluatedTrue_level whole number
      · rw [Bool.eq_false_of_not_eq_true truth]
        exact evaluatedFalse_level whole number
  · rfl

end

/-! ### The evaluations of one event -/

section
variable {β : Type} {view : WarnEntry → β} {but : List Nat} {s t : State}

theorem atRelease_congr {a b : WarnEntry} (same : standingOf a = standingOf b) : atRelease a = atRelease b := by
  have status : a.status = b.status := congrArg (fun x => x.1) same
  simp only [atRelease, holdsLamp, status]

theorem table74_congr {a b : WarnEntry} (same : standingOf a = standingOf b) (debounce : Nat) (truth : Bool) :
    table74 debounce truth a = table74 debounce truth b := by
  simp only [standingOf, Prod.mk.injEq] at same
  obtain ⟨status, count, prior, due⟩ := same
  simp only [table74, status, count, prior, due]

/-- What the warnings change beside their entries, no test reads (07 R113, R114). -/
theorem warnInput_congr (only : OnlyIn warnBlocks s t) (counters : CountersKept s t) (kept : WarnKept view but s t)
    (i : WarnInput) : warnInput t i = warnInput s i := by
  have bus : t.bus = s.bus := only.bus (by decide)
  have straps : t.straps = s.straps := only.straps (by decide)
  have faults : t.faults = s.faults := only.faults (by decide)
  have ended : t.warn.graceEnded = s.warn.graceEnded := congrArg (fun u => u.graceEnded) kept.unit
  have speed : t.warn.gateSpeed = s.warn.gateSpeed := congrArg (fun u => u.gateSpeed) kept.unit
  have main : t.fuel.mainEst = s.fuel.mainEst := congrArg (fun f => f.mainEst) counters.fuel
  have aux : t.fuel.auxEst = s.fuel.auxEst := congrArg (fun f => f.auxEst) counters.fuel
  have pump : t.fuel.pumpLong = s.fuel.pumpLong := congrArg (fun f => f.pumpLong) counters.fuel
  have watch : t.fuel.senderWatch = s.fuel.senderWatch := congrArg (fun f => f.senderWatch) counters.fuel
  cases i <;> unfold warnInput
  case slot =>
    unfold entryIn
    rw [bus]
  case staleEntry =>
    unfold entryIn
    rw [bus, ended]
  case usableFuel => rw [usableFuel, usableFuel, main, aux, straps]
  case auxEmpty => rw [auxEmpty, auxEmpty, aux, pump, straps]
  case senderWatch => rw [watch]
  case dueCount => rw [dueCount, dueCount, counters.items]
  case overdueCount => rw [overdueCount, overdueCount, counters.items]
  case gateSpeed => rw [speed]
  case faultCount => rw [faultCount, faultCount, rivalFlag, rivalFlag, faults, bus]

theorem companionAllows_congr (kept : WarnKept standingOf but s t) {c : Option Nat} (out : ∀ m ∈ c, m ∉ but) :
    companionAllows t c = companionAllows s c := by
  cases c with
  | none => rfl
  | some m =>
    have status : (warnEntry t m).status = (warnEntry s m).status := congrArg (fun x => x.1) (kept.entry m (out m rfl))
    simp only [companionAllows, raised, status]

/-- What the warnings do to other entries does not change how an entry is judged. -/
theorem verdict_congr {n : Nat} (only : OnlyIn warnBlocks s t) (counters : CountersKept s t)
    (kept : WarnKept standingOf but s t) (own : n ∉ but) (companion : ∀ m ∈ (warnDef n).companion, m ∉ but) :
    verdict t n = verdict s n := by
  have trip : t.trip = s.trip := only.trip (by decide)
  simp only [verdict, kept.gate, warnInput_congr only counters kept, trip, atRelease_congr (kept.entry n own),
    companionAllows_congr kept companion]

theorem judged_congr {n : Nat} (only : OnlyIn warnBlocks s t) (counters : CountersKept s t)
    (kept : WarnKept standingOf but s t) (own : n ∉ but) (companion : ∀ m ∈ (warnDef n).companion, m ∉ but) :
    judged t n = judged s n := by
  have level : levelOf (warnEntry t n) = levelOf (warnEntry s n) := kept.level.entry n own
  simp only [judged, verdict_congr only counters kept own companion, table74_congr (kept.entry n own), level]

end

/-- The evaluations of one event take each of their entries where TABLE 7-4 says for the state before them, as no entry
evaluated is the companion of another. -/
theorem foldl_evaluate {l : List Nat} {s : State} (whole : s.warn.entries.length = 24) (nodup : l.Nodup)
    (numbers : ∀ n ∈ l, isWarning n = true) (apart : ∀ n ∈ l, ∀ m ∈ (warnDef n).companion, m ∉ l) :
    ∀ n ∈ l, levelOf (warnEntry (l.foldl evaluate s) n) = judged s n := by
  refine foldl_entry (p := fun t => t.warn.entries.length = 24) (fun t n => (evaluate_standing t n).level)
    (fun t n => (evaluate_banks t n).entries) nodup (fun t n inside whole => evaluate_level whole (numbers n inside))
    (fun t m evaluated n inside differs => ?_) whole
  refine judged_congr (evaluate_only t m) (evaluate_kept t m) (evaluate_standing t m) (by simpa using differs) ?_
  intro c companion same
  exact apart n inside c companion (by rw [List.mem_singleton.mp same]; exact evaluated)

end Sys2Proof.Machine
end

section
/-! PROOFS. Gates of every command and every step: no command leaves an entry out of IDLE behind a gate that it turned
false (07 R116, R126), and the statement about it (O9). -/

namespace Sys2Proof.Machine

/-! ### The relation -/

theorem gatesHold_iff {s : State} : gatesHold s = true ↔
    ∀ n ∈ warnNumbers, gateTrue s (warnDef n).gate = true ∨ (warnEntry s n).status = .idle := by
  simp only [gatesHold, List.all_eq_true, Bool.or_eq_true, decide_eq_true_eq]

/-- What stands IDLE behind its gate in `s` does so in `t`. -/
def GatesKept (s t : State) : Prop := gatesHold s = true → gatesHold t = true

/-- The blocks that no gate and no entry reads. -/
def gateFree : Block → Bool
  | .power | .warn => false
  | _ => true

section
variable {β : Type} {s t u : State}

theorem GatesKept.refl (s : State) : GatesKept s s := id

theorem GatesKept.trans (h : GatesKept s t) (k : GatesKept t u) : GatesKept s u := k ∘ h

theorem GatesKept.ite {c : Prop} [Decidable c] (h : GatesKept s t) (k : GatesKept s u) :
    GatesKept s (if c then t else u) := by
  split <;> assumption

theorem GatesKept.foldl {f : State → Nat → State} (h : ∀ t n, GatesKept t (f t n)) :
    ∀ (l : List Nat) (s : State), GatesKept s (l.foldl f s)
  | [], s => .refl s
  | n :: rest, s => (h s n).trans (GatesKept.foldl h rest (f s n))

/-- An operation that closes no gate and moves no entry out of IDLE. -/
theorem GatesKept.of_open (gates : ∀ g, gateTrue s g = true → gateTrue t g = true)
    (idle : ∀ n, (warnEntry s n).status = .idle → (warnEntry t n).status = .idle) : GatesKept s t := fun h =>
  gatesHold_iff.mpr fun n inside => (gatesHold_iff.mp h n inside).imp (gates _) (idle n)

theorem GatesKept.of_warned {view : WarnEntry → β} (h : WarnKept view [] s t)
    (status : ∀ a b, view a = view b → a.status = b.status) : GatesKept s t :=
  .of_open (fun g gate => (h.gate g).trans gate) fun n idle => (status _ _ (h.entry n (by simp))).trans idle

theorem GatesKept.of_standing (h : WarnKept standingOf [] s t) : GatesKept s t :=
  .of_warned h fun _ _ same => congrArg (fun x => x.1) same

theorem GatesKept.of_entries (h : WarnKept id [] s t) : GatesKept s t := .of_standing h.viewed

/-- An operation that leaves what the gates read as it stands, and every entry. -/
theorem GatesKept.of_same (mode : t.power.mode = s.power.mode := by rfl) (dip : t.power.dip = s.power.dip := by rfl)
    (proving : t.warn.provingTimer = s.warn.provingTimer := by rfl)
    (established : t.warn.engineEst = s.warn.engineEst := by rfl) (speed : t.warn.gateSpeed = s.warn.gateSpeed := by rfl)
    (window : t.warn.window = s.warn.window := by rfl) (entries : t.warn.entries = s.warn.entries := by rfl) :
    GatesKept s t := by
  refine .of_open (fun g gate => ?_) fun n idle => (congrArg _ (warnEntry_congr entries n)).trans idle
  rw [← gate]
  cases g <;> simp only [gateTrue, runGate, awake, mode, dip, proving, established, speed, window]

theorem GatesKept.of_warn (mode : t.power.mode = s.power.mode) (dip : t.power.dip = s.power.dip)
    (warn : t.warn = s.warn) : GatesKept s t :=
  .of_same mode dip (by rw [warn]) (by rw [warn]) (by rw [warn]) (by rw [warn]) (by rw [warn])

theorem GatesKept.of_free {bs : List Block} (only : OnlyIn bs s t) (free : bs.all gateFree = true) :
    GatesKept s t := by
  have out : ∀ b, gateFree b = false → b ∉ bs := fun b held inside => by
    simp [List.all_eq_true.mp free b inside] at held
  have power := only.power (out .power rfl)
  exact .of_warn (by rw [power]) (by rw [power]) (only.warn (out .warn rfl))

theorem GatesKept.of_hold (h : gatesHold t = true) : GatesKept s t := fun _ => h

theorem GatesKept.settled (h : GatesKept s t) : GatesKept s (settled t) :=
  h.trans (.of_warn (settled_mode t) (settled_dip t) (settled_warn t))

/-- In STARTING every gate is false already. -/
theorem GatesKept.of_starting {x : StartStep} (mode : s.power.mode = .starting x) (warn : t.warn = s.warn) :
    GatesKept s t := by
  refine .of_open (fun g gate => ?_) fun n idle => (congrArg _ (warnEntry_congr (by rw [warn]) n)).trans idle
  cases g <;> simp [gateTrue, runGate, awake, mode] at gate

end

/-! ### States in which the gates hold -/

theorem gatesHold_of_clear {s : State} (clear : s.warn.entries = List.replicate 24 .clear) : gatesHold s = true := by
  refine gatesHold_iff.mpr fun n _ => .inr ?_
  unfold warnEntry
  rw [clear]
  split
  · rw [List.getD_eq_getElem?_getD, List.getElem?_replicate]
    split <;> rfl
  · rfl

theorem gatesHold_applyGates (s : State) : gatesHold (applyGates s) = true := by
  refine gatesHold_iff.mpr fun n _ => ?_
  rw [(applyGates_entries s).gate, warnEntry_applyGates]
  unfold gated
  split
  · exact ‹_›
  · exact .inr rfl

/-! ### Entries -/

theorem evaluate_gates (s : State) (n : Nat) : GatesKept s (evaluate s n) := by
  by_cases gate : gateTrue s (warnDef n).gate = true
  · have kept := evaluate_standing s n
    refine fun h => gatesHold_iff.mpr fun m inside => ?_
    rw [kept.gate]
    by_cases own : m = n
    · exact .inl (own ▸ gate)
    · have status : (warnEntry (evaluate s n) m).status = (warnEntry s m).status :=
        congrArg (fun x => x.1) (kept.entry m (by simpa using own))
      rw [status]
      exact gatesHold_iff.mp h m inside
  · have left : evaluate s n = s := by simp [evaluate, gate]
    rw [left]
    exact .refl s

theorem evaluateReport_gates (k : ReportKind) (s : State) : GatesKept s (evaluateReport k s) := .foldl evaluate_gates _ s

/-- NOTE leaves an entry in IDLE alone. -/
theorem acknowledge_gates (n : Nat) (s : State) : GatesKept s (acknowledge n s) := by
  have kept := acknowledge_entries s n
  refine .of_open (fun g gate => (kept.gate g).trans gate) fun m idle => ?_
  by_cases own : m = n
  · subst own
    have left : acknowledge m s = s := by simp [acknowledge, unacknowledged, idle]
    rw [left]
    exact idle
  · have same : warnEntry (acknowledge n s) m = warnEntry s m := kept.entry m (by simpa using own)
    rw [same]
    exact idle

theorem rechime_gates (n : Nat) (s : State) : GatesKept s (modifyWarn n rechimeFalls s) := by
  refine .of_warned (view := WarnEntry.status) (modifyWarn_kept_view s n fun e => ?_) fun _ _ => id
  unfold rechimeFalls
  split <;> rfl

/-! ### Posts of the units -/

theorem postNote_gates (o : MsgOrigin) (x : Text) (prio : Nat) (mx : Option Nat) (s : State) :
    GatesKept s (postNote o x prio mx s) := .of_standing (postNote_standing s o x prio mx)

theorem resetItem_gates (s : State) (i : Nat) : GatesKept s (resetItem s i) := by
  have cursor : ∀ t, WarnKept id [] t (cursorAfterReset i t) := fun t => by
    unfold cursorAfterReset
    split
    · split
      · exact setCursor_entries t _
      · exact endReminders_entries t
    · exact .refl _ _ t
  exact (GatesKept.trans (.of_free (modifyItem_only i _ s) rfl) (.of_free (markItem_only i _) rfl)).trans
    (.of_entries (cursor _))

theorem serviceResetOp_gates (i : Nat) (s : State) : GatesKept s (serviceResetOp i s) :=
  .ite ((GatesKept.foldl resetItem_gates _ s).trans (postNote_gates _ _ _ _ _))
    ((resetItem_gates s i).trans (postNote_gates _ _ _ _ _))

theorem openJourneyOp_gates (s : State) : GatesKept s (openJourneyOp s) :=
  (GatesKept.trans (.of_free (only_journey s _) rfl) (.of_free (markOpenSlot_only _) rfl)).trans
    (postNote_gates _ _ _ _ _)

theorem closeJourneyOp_gates (j : Journey) (s : State) : GatesKept s (closeJourneyOp j s) := by
  refine GatesKept.trans ?_ (postNote_gates _ _ _ _ _)
  refine GatesKept.trans ?_ (.of_free (offerRecord_only .openSlot _) rfl)
  exact (GatesKept.trans (.of_free (only_journey s _) rfl) (.of_free (offerRecord_only (.position _) _) rfl)).trans
    (.of_free (offerRecord_only .header _) rfl)

theorem clearJourneys_gates (s : State) : GatesKept s (clearJourneys s) := by
  rw [clearJourneys_eq]
  refine GatesKept.trans (.trans ?_ (.foldl (fun t p => .of_free (offerRecord_only (.position p) t) rfl) _ _))
    (postNote_gates _ _ _ _ _)
  exact .of_same

/-! ### Reports -/

theorem noteHeard_gates (h : Heard) (s : State) : GatesKept s (noteHeard h s) :=
  .of_warn (noteHeard_mode h s) (by rw [noteHeard_power]) (noteHeard_warn h s)

theorem hearFrame_gates {handle : State → State} (handles : ∀ t, GatesKept t (handle t)) (fits : Bool) (h : Heard)
    (s : State) : GatesKept s (hearFrame fits h handle s) := by
  unfold hearFrame
  split
  · exact .refl s
  · exact .refl s
  · exact .of_free (noteClash_only s) rfl
  · exact (noteHeard_gates h s).trans (handles _)

/-- ENGINE and CHASSIS judge the gates anew before they evaluate; no other kind changes what a gate reads. -/
theorem consumers_gates (k : ReportKind) (h : Heard) (d e : Nat) (c : Bool) (s : State) :
    GatesKept s (consumers k h d e c s) := by
  cases k
  case engine | chassis => exact .trans (.of_hold (gatesHold_applyGates _)) (evaluateReport_gates _ _)
  case fuelFlow => exact .of_free (consumers_only .fuelFlow h d e c s) rfl
  case tank => exact .of_free (consumers_only .tank h d e c s) rfl
  case bodyDoors | bodyLamps => exact evaluateReport_gates _ s
  case rearConsole =>
    have call : GatesKept s (rearCall s) := .of_standing (rearCall_standing s)
    exact GatesKept.trans (.ite call (.refl s)) (.of_free (hushChanged_only _) rfl)

theorem offerReport_gates (k : ReportKind) (h : Heard) (s : State) : GatesKept s (offerReport k h s) := by
  unfold offerReport
  split
  · exact GatesKept.trans (.of_free (only_bus s _) rfl) (consumers_gates k h _ _ _ _)
  · exact .of_free (markRival_only k _ s) rfl
  · exact .refl s

/-! ### Power states -/

theorem startInto_gates (toRun : Bool) (s : State) : gatesHold (startInto toRun s) = true := by
  unfold startInto
  split <;> exact gatesHold_applyGates _

theorem enterWatch_gates (s : State) : gatesHold (enterWatch s) = true :=
  GatesKept.of_free (offerStores_only _) rfl (gatesHold_applyGates _)

theorem wakeStart_gates (toRun : Bool) (s : State) : gatesHold (wakeStart toRun s) = true :=
  GatesKept.of_free (((reofferAll_only _).trans ((kickWriter_only _).mono (by decide))).mono
    (List.subset_cons_self Block.port _) |>.trans ((offerOwned_only .presence _).mono (by decide))) rfl
    (startInto_gates toRun _)

theorem warmRestart_gates (s : State) : gatesHold (warmRestart s) = true :=
  GatesKept.of_free (offerOwned_only .presence _) rfl (startInto_gates _ _)

theorem endListen_gates (s : State) : gatesHold (endListen s) = true :=
  GatesKept.of_free (offerOwned_only .presence _) rfl (startInto_gates _ _)

theorem setIgn_gates (on : Bool) (s : State) : GatesKept s (setIgn on s) := .of_same

theorem ignitionOn_gates (s : State) : GatesKept s (ignitionOn s) := by
  unfold ignitionOn
  split
  · exact .refl s
  · exact setIgn_gates true s
  · exact setIgn_gates true s
  · exact (GatesKept.of_hold (gatesHold_applyGates _)).settled
  · exact (GatesKept.of_hold (wakeStart_gates true _)).settled

theorem ignitionOff_gates (s : State) : GatesKept s (ignitionOff s) := by
  unfold ignitionOff
  split
  · exact .refl s
  · exact setIgn_gates false s
  · exact setIgn_gates false s
  · exact setIgn_gates false s
  · exact (GatesKept.of_hold (enterWatch_gates _)).settled

theorem pulseHeard_gates (s : State) : GatesKept s (pulseHeard s) := by
  unfold pulseHeard
  split
  · exact .refl s
  · exact (GatesKept.of_hold (wakeStart_gates _ _)).settled
  all_goals exact .of_free (only_port s _) rfl

theorem keyWakes_gates (key : Key) (s : State) : GatesKept s (keyWakes key s) := by
  have wanted : ∀ (t : State) p k, GatesKept t { t with port := p, keys := k } := fun _ _ _ => .of_same
  exact .of_hold (wanted _ _ _ (wakeStart_gates false s))

/-- A dip that begins has the gates judged; an input of a dip in force is read by no gate. -/
theorem dipInput_gates (input : DipInput) (s : State) : GatesKept s (dipInput input s) := by
  have active : GatesKept s { s with power := setDipInput input s.power } := by cases input <;> exact .of_same
  exact .ite active (.of_hold (gatesHold_applyGates _))

/-- The end of a dip closes no gate. -/
theorem endDip_gates (s : State) : GatesKept s (endDip s) := by
  have ended : ∀ x, GatesKept s { s with power := { s.power with dip := false, settleTimer := x } } := fun x => by
    refine .of_open (fun g gate => ?_) fun _ => id
    cases g <;> simp_all [gateTrue, runGate, awake]
  exact ((ended _).trans (.of_free (hushChanged_only _) rfl)).trans (.of_free (dipFreesWriter_only _) rfl)

theorem answerOperation_gates (answer : StoreAnswer) (s : State) : GatesKept s (answerOperation answer s) := by
  unfold answerOperation
  split
  · rename_i load
    refine .of_starting load ?_
    unfold answerLoad
    split
    · rfl
    · split
      · rfl
      · exact (failLoad_only s).warn (by decide)
    · rfl
  · exact .of_free (answerWrite_only answer s) rfl

/-! ### Keys and messages -/

theorem acceptPress_gates {act : State → State} (acts : ∀ t, GatesKept t (act t)) (k : Key)
    (holds : State → KeyAction) (s : State) : GatesKept s (acceptPress k holds act s) := by
  have noted : ∀ t, GatesKept t (pressNoted t) := fun t =>
    GatesKept.trans (.of_entries (wakeDisplay_entries t)) (.of_standing (postChime_standing _ _ _ _ _))
  have held : ∀ v t, GatesKept t (holdKey k v t) := fun v t => .of_free (holdKey_only k v t) rfl
  refine .ite (.ite ?_ ?_) (.refl s)
  · exact (GatesKept.trans (.of_free (only_keys s _) rfl) (noted _)).trans (held _ _)
  · exact (((noted s).trans (.of_free (keepSetMode_only _) rfl)).trans (acts _)).trans (held _ _)

theorem acceptRelease_gates {act : KeyAction → State → State} (acts : ∀ a t, GatesKept t (act a t)) (k : Key)
    (s : State) : GatesKept s (acceptRelease k act s) := by
  unfold acceptRelease
  split
  · exact .ite (GatesKept.trans (.of_free (holdKey_only k _ s) rfl) (acts _ _)) (.refl s)
  · exact .refl s

theorem closeReview_gates (s : State) : GatesKept s (closeReview s) := .of_entries (closeReview_entries s)

theorem modeAction_gates (s : State) : GatesKept s (modeAction s) := by
  unfold modeAction
  split
  · exact .refl s
  · exact (closeReview_gates s).trans (.of_free (nextReadout_only _) rfl)
  · exact .of_free (nextReadout_only s) rfl
  · exact .of_free ((leaveSetMode_only s).trans (nextReadout_only _)) rfl

theorem selectAction_gates (s : State) : GatesKept s (selectAction s) := by
  unfold selectAction
  split
  · exact .refl s
  · exact (closeReview_gates s).trans (.of_free (selectOnReadout_only _) rfl)
  · exact .of_free (selectOnReadout_only s) rfl
  · exact .ite (.of_free (setModeTo_only _ s) rfl) (.of_free (leaveSetMode_only s) rfl)

theorem resetAction_gates (s : State) : GatesKept s (resetAction s) := by
  unfold resetAction
  split
  · exact .refl s
  · exact .refl s
  · exact closeReview_gates s
  · exact .of_free (stepValue_only s) rfl

theorem departRecord_gates (o : MsgOrigin) (s : State) : GatesKept s (departRecord o s) := by
  unfold departRecord
  split
  · exact .of_entries ((removeRecord_entries s .reminder).trans (advanceReminder_entries _))
  · exact .of_entries (removeRecord_entries s o)

theorem noteAction_gates (s : State) : GatesKept s (noteAction s) := by
  unfold noteAction
  split
  · unfold noteRecord
    split
    · exact (acknowledge_gates _ s).trans (departRecord_gates _ _)
    · exact departRecord_gates _ s
  · exact .of_entries (moveReview_entries s)
  · exact .of_entries (openReview_entries s)
  · exact GatesKept.trans (.of_free (leaveSetMode_only s) rfl) (.of_entries (openReview_entries _))

theorem journeyShort_gates (a : KeyAction) (s : State) : GatesKept s (journeyShort a s) := by
  unfold journeyShort
  split
  · exact .ite (.of_free (setReadout_only _ s) rfl) (openJourneyOp_gates s)
  · exact .refl s

theorem journeyLong_gates (s : State) : GatesKept s (journeyLong s) := by
  unfold journeyLong
  split
  · exact closeJourneyOp_gates _ s
  · exact openJourneyOp_gates s

theorem showTimeOver_gates (s : State) : GatesKept s (showTimeOver s) := by
  unfold showTimeOver
  split
  · exact departRecord_gates _ s
  · exact .refl s

theorem repost_gates (s : State) : GatesKept s (repost s) := by
  unfold repost
  split
  · exact .ite (.of_entries (postReminder_entries s _)) (.refl s)
  · exact .refl s

theorem elementOver_gates (s : State) : GatesKept s (elementOver s) := by
  unfold elementOver
  split
  · exact GatesKept.trans (.of_free (endElement_only _ s) rfl) (.of_free (reportSource_only s _) rfl)
  · exact .refl s

/-! ### Timers of the Warning Unit -/

/-- The end of lamp proving opens gates alone. -/
theorem endProving_gates (s : State) : GatesKept s (endProving s) := by
  have proved : ∀ w g, GatesKept s { s with warn := { s.warn with
      provingTimer := none, windowTimer := w, window := true, graceTimer := g } } := fun w g => by
    refine .of_open (fun g gate => ?_) fun _ => id
    cases g <;> simp_all [gateTrue, runGate, awake, runs]
  exact (proved _ _).trans (.of_entries (setCursor_entries _ _))

/-- The engine-running timer's expiry opens the ENGINE gate (07 R115). -/
theorem engineEstablished_gates (s : State) :
    GatesKept s { s with warn := { s.warn with engineTimer := none, engineEst := true } } := by
  refine .of_open (fun g gate => ?_) fun _ => id
  cases g <;> simp_all [gateTrue, runGate, awake]

/-! ### Every command -/

/-- Every command keeps the entries behind false gates in IDLE. -/
theorem exec_gates (c : Instr) (s : State) : ∃ t, exec c s = .next t ∧ GatesKept s t := by
  have head : GatesKept s (dropHead s) := .of_free (dropHead_only s) rfl
  have ended : ∀ act, GatesKept s (endAttempt act s) := fun act => .of_free (endAttempt_only act s) rfl
  cases c
  case standbySupplyUp crank lowv => exact ⟨_, rfl, .ite (.refl s) (.of_hold (gatesHold_of_clear rfl))⟩
  case standbySupplyLoss cut => exact ⟨_, rfl, .ite (.of_hold (gatesHold_of_clear rfl)) (.refl s)⟩
  case settleEnd pins =>
    refine ⟨_, rfl, ?_⟩
    split
    · exact .of_starting ‹_› rfl
    · exact .refl s
  case loadComplete whole =>
    refine ⟨_, rfl, ?_⟩
    split
    · rename_i load
      refine .of_starting load ?_
      split
      · exact (completeLoad_only s).warn (by decide)
      · exact (failLoad_only s).warn (by decide)
    · exact .refl s
  case listenEnd => exact ⟨_, rfl, .ite (GatesKept.of_hold (endListen_gates s)).settled (.refl s)⟩
  case ignOn => exact ⟨_, rfl, ignitionOn_gates s⟩
  case ignOff => exact ⟨_, rfl, ignitionOff_gates s⟩
  case sleepTimerExpiry => exact ⟨_, rfl, .ite (GatesKept.of_hold (gatesHold_of_clear rfl)).settled (.refl s)⟩
  case wakePulseHeard => exact ⟨_, rfl, pulseHeard_gates s⟩
  case keyWake key => exact ⟨_, rfl, .ite (keyWakes_gates key s).settled (.refl s)⟩
  case supplyDipBegin input => exact ⟨_, rfl, .ite (dipInput_gates input s).settled (.refl s)⟩
  case dipInputsClear => exact ⟨_, rfl, .ite .of_same (.refl s)⟩
  case supplyDipEnd => exact ⟨_, rfl, .ite (endDip_gates s).settled (.refl s)⟩
  case restartRequestRosterRefresh =>
    refine ⟨_, rfl, ?_⟩
    split
    · exact (head.trans (.of_free (rosterRefresh_only _) rfl)).settled
    · exact .refl s
  case restartRequestWarmRestart =>
    refine ⟨_, rfl, ?_⟩
    split
    · exact (GatesKept.of_hold (warmRestart_gates _)).settled
    · exact .refl s
  case reportArrival kind frame => exact ⟨_, rfl, (hearFrame_gates (offerReport_gates kind frame) _ frame s).settled⟩
  case rollCall frame => exact ⟨_, rfl, hearFrame_gates (fun t => .of_free (offerOwned_only .presence t) rfl) _ frame s⟩
  case presence frame => exact ⟨_, rfl, hearFrame_gates (fun t => .of_free (heardPresence_only frame t) rfl) _ frame s⟩
  case otherFrameHeard kind target frame => exact ⟨_, rfl, .ite (hearFrame_gates .refl _ frame s) (.refl s)⟩
  case ownAddressFrameHeard => exact ⟨_, rfl, .ite (.of_free (noteClash_only s) rfl) (.refl s)⟩
  case frameDiscarded cause =>
    refine ⟨_, rfl, .ite ?_ (.refl s)⟩
    cases cause
    case wakePulse => exact .of_free (only_port s _) rfl
    all_goals exact .refl s
  case addressedFrameAnswer kind frame =>
    exact ⟨_, rfl, hearFrame_gates (fun t => .of_free (answerHeard_only kind frame t) rfl) _ frame s⟩
  case demand =>
    refine ⟨_, rfl, ?_⟩
    split
    · exact head.trans (.of_free (takeDemand_only _ _ _ _) rfl)
    · exact .refl s
  case chimeRequest =>
    refine ⟨_, rfl, ?_⟩
    split
    · exact (head.trans (.ite (.of_free (withdrawChime_only _ _) rfl)
        (.of_standing (postChime_standing _ _ _ _ _)))).settled
    · exact .refl s
  case notice =>
    refine ⟨_, rfl, ?_⟩
    split
    · exact (head.trans (postNote_gates _ _ _ _ _)).settled
    · exact .refl s
  case serviceReset =>
    refine ⟨_, rfl, ?_⟩
    split
    · exact .ite (head.trans (serviceResetOp_gates _ _)).settled head
    · exact .refl s
  case journeyClear =>
    refine ⟨_, rfl, ?_⟩
    split
    · exact .ite (head.trans (clearJourneys_gates _)).settled head
    · exact .refl s
  case clockSet =>
    refine ⟨_, rfl, ?_⟩
    split
    · exact (head.trans (.of_free (setClock_only _ _) rfl)).settled
    · exact .refl s
  case attemptBegin => exact ⟨_, rfl, .of_free (beginAttempt_only s) rfl⟩
  case lostArbitration =>
    refine ⟨_, rfl, ?_⟩
    split
    · exact ended some
    · exact .refl s
  case readbackFault =>
    refine ⟨_, rfl, ?_⟩
    split
    · exact (ended some).trans (.of_free (countFault_only _) rfl)
    · exact .refl s
  case broadcastSentWhole =>
    refine ⟨_, rfl, ?_⟩
    split
    · exact .ite ((ended _).trans (.of_free (markSentWhole_only _ _) rfl)) (.refl s)
    · exact .refl s
  case answerSlotClose run =>
    refine ⟨_, rfl, ?_⟩
    split
    · have sent : ∀ act k, GatesKept s (markSentWhole k (endAttempt act s)) := fun act k =>
        (ended act).trans (.of_free (markSentWhole_only k _) rfl)
      exact .ite (.refl s) (.ite ((sent _ _).trans (.of_free (modifyRoster_only _ _ _) rfl)) (sent _ _))
    · exact .refl s
  case lineFaultPauseExpiry | retryDelayExpiry | holdOffExpiry => exact ⟨_, rfl, .of_free (only_port s _) rfl⟩
  case ownerReoffer what =>
    refine ⟨_, rfl, .ite ?_ (.refl s)⟩
    unfold reoffer
    split
    · exact .ite (.of_free (answerBits_only _ _ s) rfl) (.refl s)
    · exact .ite (.of_free (offerOwned_only _ s) rfl) (.refl s)
  case wakePulseSend => exact ⟨_, rfl, .ite (.of_free (only_port s _) rfl) (.refl s)⟩
  case staleTimerExpiry kind => exact ⟨_, rfl, (GatesKept.of_free (expireStale_only kind s) rfl).settled⟩
  case rosterTimerExpiry station => exact ⟨_, rfl, .of_free (modifyRoster_only station expireRoster s) rfl⟩
  case mirrorTimerExpiry =>
    have next : ∀ b, GatesKept s { s with bus := b } := fun b => .of_free (only_bus s b) rfl
    exact ⟨_, rfl, .ite (.ite ((next _).trans (.of_free (offerPeriodicMirror_only _) rfl)) (next _)) (.refl s)⟩
  case dampingStep => exact ⟨_, rfl, .ite (.of_free (dampingPeriod_only s) rfl) (.refl s)⟩
  case coilOffTimerExpiry => exact ⟨_, rfl, .ite (.of_free (only_gauges s _) rfl) (.refl s)⟩
  case correctionTimerExpiry =>
    exact ⟨_, rfl, .ite (GatesKept.of_free (correctionPeriod_only s) rfl).settled (.refl s)⟩
  case standstillTimerExpiry | pumpTimerExpiry => exact ⟨_, rfl, .ite (.of_free (only_fuel s _) rfl) (.refl s)⟩
  case transferStopTimerExpiry =>
    have next : ∀ f, GatesKept s { s with fuel := f } := fun f => .of_free (only_fuel s f) rfl
    exact ⟨_, rfl, .ite (.ite ((next _).trans (.of_free (offerOwned_only _ _) rfl)) (next _)) (.refl s)⟩
  case tripSecondTimerExpiry | instantSamplerExpiry =>
    exact ⟨_, rfl, .ite (GatesKept.of_free (only_trip s _) rfl).settled (.refl s)⟩
  case clockSecond => exact ⟨_, rfl, .ite (GatesKept.of_free (clockPeriod_only s) rfl).settled (.refl s)⟩
  case modePress => exact ⟨_, rfl, (acceptPress_gates modeAction_gates _ _ s).settled⟩
  case selectPress => exact ⟨_, rfl, (acceptPress_gates selectAction_gates _ _ s).settled⟩
  case resetPress => exact ⟨_, rfl, (acceptPress_gates resetAction_gates _ _ s).settled⟩
  case notePress => exact ⟨_, rfl, (acceptPress_gates noteAction_gates _ _ s).settled⟩
  case journeyPress =>
    exact ⟨_, rfl, (acceptPress_gates (fun t => .of_free (journeyAction_only t) rfl) _ _ s).settled⟩
  case journeyRelease => exact ⟨_, rfl, (acceptRelease_gates journeyShort_gates _ s).settled⟩
  case journeyLongPress =>
    refine ⟨_, rfl, ?_⟩
    split
    · exact .ite (GatesKept.trans (.of_free (holdKey_only _ _ s) rfl) (journeyLong_gates _)).settled (.refl s)
    · exact .refl s
  case tripReset =>
    refine ⟨_, rfl, ?_⟩
    split
    · exact .ite (GatesKept.trans (.of_free (holdKey_only _ _ s) rfl)
        (.of_free (tripResetOp_only _ _) rfl)).settled (.refl s)
    · exact .refl s
  case serviceResetPress =>
    refine ⟨_, rfl, ?_⟩
    split
    · exact .ite (GatesKept.trans (.of_free (holdKey_only _ _ s) rfl)
        (.ite (serviceResetOp_gates _ _) (.refl _))).settled (.refl s)
    · exact .refl s
  case setModeTimeout | blinkTimerExpiry | journeyReadoutAlternate | displayTimerExpiry =>
    exact ⟨_, rfl, .ite (GatesKept.of_free (only_disp s _) rfl).settled (.refl s)⟩
  case displayTransferComplete =>
    refine ⟨_, rfl, ?_⟩
    unfold completeTransfer
    split
    · exact .ite .of_same .of_same
    · exact .refl s
  case minimumShowTimeExpiry =>
    exact ⟨_, rfl, .ite (GatesKept.trans (.of_free (only_msg s _) rfl) (.of_entries (select_entries _))).settled
      (.refl s)⟩
  case maximumShowTimeExpiry => exact ⟨_, rfl, .ite (showTimeOver_gates s).settled (.refl s)⟩
  case reminderRepostTimerExpiry => exact ⟨_, rfl, .ite (repost_gates s).settled (.refl s)⟩
  case evaluationTimerExpiry =>
    refine ⟨_, rfl, .ite (GatesKept.trans ?_ (.foldl evaluate_gates timedEntries _)).settled (.refl s)⟩
    exact .of_same
  case reOfferTimerExpiry entry =>
    exact ⟨_, rfl, .ite (GatesKept.of_standing (postOutstanding_standing s entry)).settled (.refl s)⟩
  case reChimeTimerExpiry entry => exact ⟨_, rfl, rechime_gates entry s⟩
  case reviewTimerExpiry => exact ⟨_, rfl, .ite (GatesKept.of_entries (moveReview_entries s)).settled (.refl s)⟩
  case flashTimerExpiry | staleGraceExpiry => exact ⟨_, rfl, .ite .of_same (.refl s)⟩
  case lampProvingExpiry => exact ⟨_, rfl, .ite (endProving_gates s).settled (.refl s)⟩
  case windowTimerExpiry => exact ⟨_, rfl, .ite (GatesKept.of_hold (gatesHold_applyGates _)).settled (.refl s)⟩
  case engineRunningTimerExpiry => exact ⟨_, rfl, .ite (engineEstablished_gates s) (.refl s)⟩
  case elementEnd => exact ⟨_, rfl, .ite (elementOver_gates s).settled (.refl s)⟩
  case busyPollRetry answer => exact ⟨_, rfl, (answerOperation_gates answer s).settled⟩
  case failedWriteWaitExpiry => exact ⟨_, rfl, (GatesKept.of_free (endWriteWait_only s) rfl).settled⟩
  case writeComplete => exact ⟨_, rfl, (GatesKept.of_free (completeWrite_only s) rfl).settled⟩
  case keyRelease key => exact ⟨_, rfl, .ite (.refl s) (acceptRelease_gates (fun _ t => .refl t) key s)⟩
  case wakePulseEnd =>
    refine ⟨_, rfl, ?_⟩
    split
    · exact .refl s
    · exact .refl s
    all_goals exact .of_free (only_port s _) rfl

/-- Every step keeps the entries behind false gates in IDLE. -/
theorem step_gates {s t : State} (stepped : step s = .next t) : GatesKept s t := by
  unfold step at stepped
  split at stepped
  · cases stepped
    exact .of_same
  · rename_i c rest _
    obtain ⟨u, carried, kept⟩ := exec_gates c { s with pending := rest }
    cases carried.symm.trans stepped
    have taken : GatesKept s { s with pending := rest } := .of_same
    exact taken.trans kept

end Sys2Proof.Machine

open Sys2Proof Sys2Proof.Machine

/-- Settles O9: the gates are judged wherever one may turn false, an evaluation moves an entry behind a true gate alone,
and nothing else takes an entry out of IDLE. -/
theorem entriesIdleBehindFalseGates : Obligations.EntriesIdleBehindFalseGates :=
  fun _ _ held stepped => step_gates stepped held
end

section
/-! PROOFS. Evaluations: the tests of TABLE 7-2, what an accepted report leaves before its evaluations, and the
statement about the evaluations of the timer and of the reports (O56). -/

namespace Sys2Proof.Machine

/-! ### Tests -/

theorem atRelease_eq (e : WarnEntry) :
    atRelease e = decide (e.status = .active ∨ e.status = .noted ∨ e.status = .clearing) := by
  simp only [atRelease, holdsLamp, Bool.decide_or, Bool.or_assoc]

theorem getLsbD_wordOf (v : Nat) {i : Nat} (low : i < 16) : (wordOf v).getLsbD i = v.testBit i := by
  rw [wordOf, BitVec.getLsbD_ofNat]
  simp [low]

/-- A value under a mask of one bit. -/
theorem wordOf_and_twoPow (v : Nat) {i : Nat} (low : i < 16) :
    wordOf v &&& BitVec.twoPow 16 i = if v.testBit i then BitVec.twoPow 16 i else 0#16 := by
  rw [BitVec.and_twoPow, getLsbD_wordOf v low]

/-- A value under the mask of the six lowest bits. -/
theorem wordOf_and_low6 (v : Nat) : wordOf v &&& 0x003F = 0 ↔ v % 64 = 0 := by
  have mask : (v % 65536) &&& 63 = v % 65536 % 64 := Nat.and_two_pow_sub_one_eq_mod _ 6
  rw [← BitVec.toNat_inj, BitVec.toNat_and]
  change (v % 65536) &&& 63 = 0 ↔ v % 64 = 0
  rw [mask]
  omega

/-- A value under the mask of bits 0 and 8. -/
theorem wordOf_and_bits0and8 (v : Nat) : wordOf v &&& 0x0101 = 0x0101 ↔ v.testBit 0 = true ∧ v.testBit 8 = true := by
  constructor
  · intro both
    have bits : ∀ i, (wordOf v &&& 0x0101).getLsbD i = (0x0101 : Word).getLsbD i := fun i => by rw [both]
    have zero := bits 0
    have eight := bits 8
    rw [BitVec.getLsbD_and, getLsbD_wordOf v (by decide)] at zero eight
    exact ⟨by simpa using zero, by simpa using eight⟩
  · rintro ⟨zero, eight⟩
    refine BitVec.eq_of_getLsbD_eq fun i low => ?_
    rw [BitVec.getLsbD_and, getLsbD_wordOf v low]
    interval_cases i <;> simp [zero, eight]

section
variable (limit v : Nat) (release : Bool)

theorem testTrue_bitSet {i : Nat} (low : i < 16) :
    testTrue limit release (.mask (.twoPow 16 i) (.twoPow 16 i) true) v = v.testBit i := by
  have bit : BitVec.twoPow 16 i ≠ 0#16 := fun zero => by
    have set := congrArg (fun w => w.getLsbD i) zero
    simp [low] at set
  cases set : v.testBit i <;> simp [testTrue, wordOf_and_twoPow v low, set, bit.symm]

theorem testTrue_bitClear {i : Nat} (low : i < 16) :
    testTrue limit release (.mask (.twoPow 16 i) 0#16 true) v = !v.testBit i := by
  have bit : BitVec.twoPow 16 i ≠ 0#16 := fun zero => by
    have set := congrArg (fun w => w.getLsbD i) zero
    simp [low] at set
  cases set : v.testBit i <;> simp [testTrue, wordOf_and_twoPow v low, set, bit]

theorem testTrue_anyOfLow6 : testTrue limit release (.mask 0x003F 0x0000 false) v = decide (v % 64 ≠ 0) :=
  decide_eq_decide.mpr (not_congr (wordOf_and_low6 v))

theorem testTrue_bits0and8 :
    testTrue limit release (.mask 0x0101 0x0101 true) v = (v.testBit 0 && v.testBit 8) := by
  rw [Bool.eq_iff_iff, Bool.and_eq_true]
  exact decide_eq_true_iff.trans (wordOf_and_bits0and8 v)

theorem testTrue_atOrAbove {level hysteresis : Nat} (above : hysteresis ≤ level) :
    testTrue limit release (.atOrAbove level hysteresis) v
      = decide ((if release then level - hysteresis else level) ≤ v) := by
  cases release
  · rfl
  · exact decide_eq_decide.mpr (by simp only [if_true]; omega)

theorem testTrue_atOrBelow (level hysteresis : Nat) :
    testTrue limit release (.atOrBelow level hysteresis) v
      = decide (v ≤ if release then level + hysteresis else level) := by
  cases release <;> rfl

/-- A level without hysteresis is the release level as well. -/
theorem testTrue_atLeast (level : Nat) : testTrue limit release (.atOrAbove level 0) v = decide (level ≤ v) := by
  cases release <;> rfl

theorem testTrue_stale : testTrue limit release .stale v = decide (1 ≤ v) :=
  decide_eq_decide.mpr Nat.one_le_iff_ne_zero.symm

theorem testTrue_speedLimit : testTrue limit release (.speedLimit 20) v
    = (decide (limit ≠ 0) && decide ((if release then limit * 10 - 20 else limit * 10) ≤ v)) := by
  cases release
  · rfl
  · have below : limit * 10 ≤ v + 20 ↔ limit * 10 - 20 ≤ v := by omega
    exact congrArg (decide (limit ≠ 0) && ·) (decide_eq_decide.mpr below)

/-- The tests have the levels, the release levels and the masks of TABLE 7-2. -/
theorem testTrue_eq_table72 {n : Nat} (inside : n ∈ warnNumbers) :
    testTrue limit release (warnDef n).test v = table72 n limit release v := by
  fin_cases inside
  · exact testTrue_atOrBelow limit v release 50 20
  · exact testTrue_atOrAbove limit v release (by decide)
  · exact testTrue_atOrBelow limit v release 118 5
  · exact testTrue_bitSet limit v release (i := 0) (by decide)
  · exact testTrue_bitSet limit v release (i := 1) (by decide)
  · exact testTrue_atOrBelow limit v release 100 20
  · exact testTrue_atLeast limit v release 1
  · exact testTrue_atLeast limit v release 100
  · exact testTrue_anyOfLow6 limit v release
  · exact testTrue_anyOfLow6 limit v release
  · exact testTrue_bitClear limit v release (i := 0) (by decide)
  · exact testTrue_bitClear limit v release (i := 0) (by decide)
  · exact testTrue_bits0and8 limit v release
  · exact testTrue_bitSet limit v release (i := 0) (by decide)
  · exact testTrue_bitSet limit v release (i := 3) (by decide)
  · exact testTrue_bitSet limit v release (i := 2) (by decide)
  · exact testTrue_atOrBelow limit v release 86 2
  · exact testTrue_stale limit v release
  · exact testTrue_stale limit v release
  · exact testTrue_atLeast limit v release 1
  · exact testTrue_atLeast limit v release 1
  · exact testTrue_speedLimit limit v release
  · exact testTrue_bitSet limit v release (i := 0) (by decide)
  · exact testTrue_atLeast limit v release 1

end

/-! ### Values -/

/-- The value of a STALE test is 1 for a stale entry, or for an unbound one once the grace has ended (07 R113). -/
theorem one_le_staleEntry_iff (s : State) (k : ReportKind) {v : Nat} (value : v ∈ warnInput s (.staleEntry k)) :
    1 ≤ v ↔ (entryIn s k).stale = true ∨ ((entryIn s k).bound = none ∧ s.warn.graceEnded = true) := by
  have counted : v = if (entryIn s k).stale || ((entryIn s k).bound.isNone && s.warn.graceEnded) then 1 else 0 :=
    (Option.some.inj value).symm
  rw [counted]
  split <;> simp_all

theorem dueCount_eq (s : State) :
    dueCount s = s.service.items.countP (fun x => decide (x.state = .due ∨ x.state = .overdue)) := by
  simp only [dueCount, Bool.decide_or]

/-! ### The evaluation timer -/

theorem evaluationPeriod_eq (s : State) : evaluationPeriod s
    = timedEntries.foldl evaluate { s with warn := { s.warn with evalTimer := startFor s 250 } } := rfl

theorem timedEntries_companion {n : Nat} (timed : n ∈ timedEntries) : (warnDef n).companion = none := by
  revert n
  decide

/-- Each timed entry goes where TABLE 7-4 says for the state in which the timer ended. -/
theorem evaluationPeriod_timed {s : State} (whole : s.warn.entries.length = 24) {n : Nat} (timed : n ∈ timedEntries) :
    levelOf (warnEntry (evaluationPeriod s) n) = judged s n :=
  foldl_evaluate (s := { s with warn := { s.warn with evalTimer := startFor s 250 } }) whole (by decide)
    (by decide) (fun m timed c companion => by simp [timedEntries_companion timed] at companion) n timed

theorem evaluationPeriod_untimed (s : State) {n : Nat} (untimed : n ∉ timedEntries) :
    levelOf (warnEntry (evaluationPeriod s) n) = levelOf (warnEntry s n) :=
  (WarnKept.foldl evaluate_standing timedEntries _).level.entry n untimed

theorem evaluationPeriod_evalTimer (s : State) : (evaluationPeriod s).warn.evalTimer = some (s.now + 250) :=
  congrArg (fun u => u.evalTimer) (WarnKept.foldl evaluate_standing timedEntries _).unit

theorem evaluationPeriod_only (s : State) : OnlyIn warnBlocks s (evaluationPeriod s) :=
  ((only_warn s _).mono (by decide)).trans (.foldl evaluate_only timedEntries _)

/-! ### What a report leaves before its evaluations -/

/-- The state in which the entries of a kind are evaluated: its other consumers are told, and its gates are judged. -/
def told (k : ReportKind) (h : Heard) (d e : Nat) (c : Bool) (s : State) : State :=
  match k with
  | .engine => applyGates (followEngine h.ready (slotAt h.slots 5) s)
  | .chassis => applyGates (takeGateSpeed h.ready (slotAt h.slots 2)
      (holdSpeed (slotAt h.slots 2) (followStandstill (slotAt h.slots 2) (issue pulseDelta d s))))
  | .bodyDoors | .bodyLamps => s
  | .fuelFlow => consumers .fuelFlow h d e c s
  | .tank => consumers .tank h d e c s
  | .rearConsole => consumers .rearConsole h d e c s

theorem told_engine (h : Heard) (d e : Nat) (c : Bool) (s : State) :
    told .engine h d e c s = applyGates (followEngine h.ready (slotAt h.slots 5) s) := rfl

theorem told_chassis (h : Heard) (d e : Nat) (c : Bool) (s : State) :
    told .chassis h d e c s = applyGates (takeGateSpeed h.ready (slotAt h.slots 2)
      (holdSpeed (slotAt h.slots 2) (followStandstill (slotAt h.slots 2) (issue pulseDelta d s)))) := rfl

theorem consumers_told (k : ReportKind) (h : Heard) (d e : Nat) (c : Bool) (s : State) :
    consumers k h d e c s = evaluateReport k (told k h d e c s) := by cases k <;> rfl

/-- What a report that judges the gates, or leaves them, makes of every entry before its evaluations. -/
structure GatesJudged (s t : State) : Prop where
  opened : ∀ n, gateTrue t (warnDef n).gate = true → standingOf (warnEntry t n) = standingOf (warnEntry s n)
  closed : ∀ n ∈ warnNumbers, gateTrue t (warnDef n).gate = false →
    levelOf (warnEntry t n) = (.idle, if (warnEntry s n).status = .idle then (warnEntry s n).count else 0)

theorem GatesJudged.of_applyGates {s t : State} (entries : t.warn.entries = s.warn.entries) :
    GatesJudged s (applyGates t) := by
  have gate := (applyGates_entries t).gate
  refine ⟨fun n open_ => ?_, fun n _ shut => ?_⟩ <;> rw [gate] at * <;> rw [warnEntry_applyGates, gated] <;>
    simp only [warnEntry_congr entries]
  · rw [if_pos (.inl open_)]
  · by_cases idle : (warnEntry s n).status = .idle
    · simp [levelOf, idle]
    · simp [levelOf, shut, idle, WarnEntry.clear]

theorem GatesJudged.of_kept {s t : State} (kept : WarnKept standingOf [] s t) (hold : gatesHold s = true) :
    GatesJudged s t := by
  refine ⟨fun n _ => kept.entry n (by simp), fun n inside shut => ?_⟩
  have level : levelOf (warnEntry t n) = levelOf (warnEntry s n) := kept.level.entry n (by simp)
  have idle : (warnEntry s n).status = .idle :=
    (gatesHold_iff.mp hold n inside).resolve_left (by rw [← kept.gate, shut]; simp)
  rw [level]
  simp [levelOf, idle]

theorem followEngine_warnEntries (ready : Bool) (flags : Slot) (s : State) :
    (followEngine ready flags s).warn.entries = s.warn.entries := by
  unfold followEngine
  repeat' split
  all_goals rfl

theorem takeGateSpeed_warnEntries (ready : Bool) (speed : Slot) (s : State) :
    (takeGateSpeed ready speed s).warn.entries = s.warn.entries := by
  unfold takeGateSpeed
  repeat' split
  all_goals rfl

/-- The consumers of a CHASSIS arrival that come before its gate speed. -/
theorem chassisConsumers_warn (speed : Slot) (d : Nat) (s : State) :
    (holdSpeed speed (followStandstill speed (issue pulseDelta d s))).warn = s.warn :=
  ((holdSpeed_only _ _).warn (by decide)).trans
    (((followStandstill_only _ _).warn (by decide)).trans ((issue_only pulseDelta_only d s).warn (by decide)))

theorem rearConsole_standing (h : Heard) (d e : Nat) (c : Bool) (s : State) :
    WarnKept standingOf [] s (consumers .rearConsole h d e c s) := by
  have posted : WarnKept standingOf [] s (if c then rearCall s else s) := .ite (rearCall_standing s) (.refl _ _ s)
  exact posted.trans (.of_free (hushChanged_only _) rfl)

theorem told_gatesJudged (k : ReportKind) (h : Heard) (d e : Nat) (c : Bool) {s : State} (hold : gatesHold s = true) :
    GatesJudged s (told k h d e c s) := by
  cases k
  case engine => exact .of_applyGates (followEngine_warnEntries _ _ s)
  case chassis =>
    exact .of_applyGates ((takeGateSpeed_warnEntries _ _ _).trans
      (congrArg Warn.entries (chassisConsumers_warn _ d s)))
  case fuelFlow => exact .of_kept (.of_free (consumers_only .fuelFlow h d e c s) rfl) hold
  case tank => exact .of_kept (.of_free (consumers_only .tank h d e c s) rfl) hold
  case bodyDoors | bodyLamps => exact .of_kept (.refl _ _ s) hold
  case rearConsole => exact .of_kept (rearConsole_standing h d e c s) hold

/-- The kinds that entries are sourced from leave their number. -/
theorem told_length {k : ReportKind} (h : Heard) (d e : Nat) (c : Bool) {s : State} {n : Nat}
    (sourced : n ∈ reportEntries k) (whole : s.warn.entries.length = 24) :
    (told k h d e c s).warn.entries.length = 24 := by
  cases k
  case fuelFlow | tank | rearConsole => simp [reportEntries] at sourced
  case bodyDoors | bodyLamps => exact whole
  case engine =>
    rw [told_engine]
    exact (applyGates_banks _).entries (by rw [followEngine_warnEntries, whole])
  case chassis =>
    rw [told_chassis]
    exact (applyGates_banks _).entries (by rw [takeGateSpeed_warnEntries, chassisConsumers_warn, whole])

theorem distanceSteps_speedLimit : ∀ (n : Nat) (s : State),
    (distanceSteps n s).trip.speedLimit = s.trip.speedLimit
  | 0, _ => rfl
  | n + 1, s => by
    obtain ⟨_, trip⟩ := distanceStep_trip s
    rw [distanceSteps, distanceSteps_speedLimit n, trip, segmentStep_others]

theorem issue_pulseDelta_speedLimit (d : Nat) (s : State) :
    (issue pulseDelta d s).trip.speedLimit = s.trip.speedLimit := by
  unfold issue
  split
  · rfl
  · exact distanceSteps_speedLimit _ _

/-- The kinds that entries are sourced from leave the speed limit. -/
theorem told_speedLimit {k : ReportKind} (h : Heard) (d e : Nat) (c : Bool) (s : State) {n : Nat}
    (sourced : n ∈ reportEntries k) : (told k h d e c s).trip.speedLimit = s.trip.speedLimit := by
  cases k
  case fuelFlow | tank | rearConsole => simp [reportEntries] at sourced
  case bodyDoors | bodyLamps => rfl
  case engine =>
    have trip : (told .engine h d e c s).trip = s.trip :=
      ((applyGates_only _).trip (by decide)).trans ((followEngine_only _ _ s).trip (by decide))
    rw [trip]
  case chassis =>
    have trip : (told .chassis h d e c s).trip = (issue pulseDelta d s).trip :=
      ((applyGates_only _).trip (by decide)).trans (((takeGateSpeed_only _ _ _).trip (by decide)).trans
        (((holdSpeed_only _ _).trip (by decide)).trans ((followStandstill_only _ _).trip (by decide))))
    rw [trip, issue_pulseDelta_speedLimit]

/-- The entry of the kind is the accepted one when its warnings are evaluated. -/
theorem entryIn_told (k : ReportKind) (h : Heard) (d e : Nat) (c : Bool) (s : State) :
    entryIn (told k h d e c (entered k h s)) k = acceptedEntry s k h := by
  obtain ⟨speed, bus⟩ := consumers_bus k h d e c (entered k h s)
  have evaluated : (consumers k h d e c (entered k h s)).bus = (told k h d e c (entered k h s)).bus := by
    rw [consumers_told]
    exact (evaluateReport_only k _).bus (by decide)
  unfold entryIn
  rw [← evaluated, bus, entryOf_heldSpeed]
  exact entryOf_setEntry_same _ _ _

theorem warnInput_told (k : ReportKind) (h : Heard) (d e : Nat) (c : Bool) (s : State) {i : Nat} (low : 1 ≤ i)
    (high : i ≤ 6) : warnInput (told k h d e c (entered k h s)) (.slot k i)
      = if h.ready then (slotAt h.slots i).map (fun v => v.toNat) else none := by
  have slot : slotAt (acceptedEntry s k h).slots i = slotAt h.slots i := slotAt_padded h.slots low high
  simp only [warnInput, entryIn_told, slot]
  rfl

/-! ### The entries of a report kind -/

theorem reportEntries_input {k : ReportKind} {n : Nat} (sourced : n ∈ reportEntries k) :
    ∃ i, 1 ≤ i ∧ i ≤ 6 ∧ (warnDef n).input = .slot k i := by
  cases k <;> fin_cases sourced <;> exact ⟨_, by decide, by decide, rfl⟩

theorem mem_reportEntries {k : ReportKind} {n i : Nat} (inside : n ∈ warnNumbers)
    (input : (warnDef n).input = .slot k i) : n ∈ reportEntries k := by
  fin_cases inside <;> cases input <;> decide

theorem reportEntries_isWarning {k : ReportKind} {n : Nat} (sourced : n ∈ reportEntries k) : isWarning n = true := by
  cases k <;> fin_cases sourced <;> rfl

theorem reportEntries_nodup (k : ReportKind) : (reportEntries k).Nodup := by cases k <;> decide

/-- The companion of an entry is sourced from another kind, and only BODY LAMPS has an entry with one. -/
theorem reportEntries_companion {k : ReportKind} {n : Nat} (sourced : n ∈ reportEntries k) :
    (∀ m ∈ (warnDef n).companion, m ∉ reportEntries k) ∧ ((warnDef n).companion = none ∨ k = .bodyLamps) := by
  cases k <;> fin_cases sourced <;> decide

/-! ### Where a report takes its entries -/

theorem entered_warn (k : ReportKind) (h : Heard) (s : State) : (entered k h s).warn = s.warn := noteHeard_warn h s

theorem entered_gate (k : ReportKind) (h : Heard) (s : State) (g : Gate) :
    gateTrue (entered k h s) g = gateTrue s g := by
  have dip : (noteHeard h s).power.dip = s.power.dip := by rw [noteHeard_power]
  have warn := noteHeard_warn h s
  have disp := noteHeard_disp h s
  exact (WarnKept.of_entries (view := id) (but := []) (t := entered k h s) (noteHeard_mode h s) dip
    (congrArg unitOf warn) (congrArg Display.image disp) (congrArg Display.transfer disp)
    (congrArg Warn.entries warn)).gate g

theorem warnEntry_entered (k : ReportKind) (h : Heard) (s : State) (n : Nat) :
    warnEntry (entered k h s) n = warnEntry s n :=
  warnEntry_congr (by rw [entered_warn]) n

theorem entered_gatesHold (k : ReportKind) (h : Heard) {s : State} (hold : gatesHold s = true) :
    gatesHold (entered k h s) = true :=
  gatesHold_iff.mpr fun n inside => by
    rw [entered_gate, warnEntry_entered]
    exact gatesHold_iff.mp hold n inside

theorem gateTrue_settled (s : State) (g : Gate) : gateTrue (settled s) g = gateTrue s g := by
  cases g <;> simp only [gateTrue, runGate, awake, settled_mode, settled_dip, settled_warn]

theorem warnEntry_settled (s : State) (n : Nat) : warnEntry (settled s) n = warnEntry s n :=
  warnEntry_congr (by rw [settled_warn]) n

/-- State and count of an entry after an evaluation with the value of its slot, or without one. -/
def reported (s : State) (n : Nat) : Option Nat → WarnStatus × Nat
  | some v => table74 (warnDef n).debounce
      (testTrue s.trip.speedLimit (atRelease (warnEntry s n)) (warnDef n).test v
        && companionAllows s (warnDef n).companion) (warnEntry s n)
  | none => levelOf (warnEntry s n)

/-- An open entry is judged as it stood before the report, by the slot that the report brought. -/
theorem judged_told {k : ReportKind} {h : Heard} {d e : Nat} {c : Bool} {s : State} {n i : Nat}
    (hold : gatesHold s = true) (sourced : n ∈ reportEntries k) (low : 1 ≤ i) (high : i ≤ 6)
    (input : (warnDef n).input = .slot k i)
    (open_ : gateTrue (told k h d e c (entered k h s)) (warnDef n).gate = true) :
    judged (told k h d e c (entered k h s)) n
      = reported s n (if h.ready then (slotAt h.slots i).map (fun v => v.toNat) else none) := by
  have standing : standingOf (warnEntry (told k h d e c (entered k h s)) n) = standingOf (warnEntry s n) := by
    rw [(told_gatesJudged k h d e c (entered_gatesHold k h hold)).opened n open_, warnEntry_entered]
  have limit : (told k h d e c (entered k h s)).trip.speedLimit = s.trip.speedLimit := by
    rw [told_speedLimit h d e c _ sourced, (entered_only k h s).trip (by decide)]
  have companion : companionAllows (told k h d e c (entered k h s)) (warnDef n).companion
      = companionAllows s (warnDef n).companion := by
    rcases (reportEntries_companion sourced).2 with alone | lamps
    · rw [alone]
      rfl
    · subst lamps
      have same : ∀ m, warnEntry (told .bodyLamps h d e c (entered .bodyLamps h s)) m = warnEntry s m :=
        warnEntry_entered .bodyLamps h s
      unfold companionAllows
      simp only [same]
  have level : levelOf (warnEntry (told k h d e c (entered k h s)) n) = levelOf (warnEntry s n) :=
    congrArg (fun x => (x.1, x.2.1)) standing
  simp only [judged, verdict, open_, if_true, input, warnInput_told k h d e c s low high, limit, companion,
    atRelease_congr standing, table74_congr standing, level]
  cases (if h.ready then (slotAt h.slots i).map (fun v => v.toNat) else none) <;> rfl

/-- The entries of the kind are judged in the state left by its other consumers. -/
theorem evaluateReport_sourced {k : ReportKind} {s : State} {n : Nat} (whole : s.warn.entries.length = 24)
    (sourced : n ∈ reportEntries k) : levelOf (warnEntry (evaluateReport k s) n) = judged s n :=
  foldl_evaluate whole (reportEntries_nodup k) (fun _ => reportEntries_isWarning)
    (fun _ here => (reportEntries_companion here).1) n sourced

/-- An entry behind a gate that is false is not judged. -/
theorem judged_shut {s : State} {n : Nat} (shut : gateTrue s (warnDef n).gate = false) :
    judged s n = levelOf (warnEntry s n) := by
  simp [judged, verdict, shut]

theorem evaluateReport_shut {k : ReportKind} {s : State} {n : Nat} (whole : n ∈ reportEntries k →
    s.warn.entries.length = 24) (shut : gateTrue s (warnDef n).gate = false) :
    levelOf (warnEntry (evaluateReport k s) n) = levelOf (warnEntry s n) := by
  by_cases sourced : n ∈ reportEntries k
  · rw [evaluateReport_sourced (whole sourced) sourced, judged_shut shut]
  · exact (evaluateReport_standing s k).level.entry n sourced

/-- What an accepted report makes of an entry: IDLE behind a false gate, else judged by its slot if the kind is its own,
and otherwise left. -/
theorem accepted_level {k : ReportKind} {h : Heard} {d e : Nat} {c : Bool} {s : State} {n : Nat}
    (whole : banksWhole s = true) (hold : gatesHold s = true) (inside : n ∈ warnNumbers) :
    levelOf (warnEntry (consumers k h d e c (entered k h s)) n)
      = if gateTrue (consumers k h d e c (entered k h s)) (warnDef n).gate = true then
          (match (warnDef n).input with
           | .slot j i =>
             reported s n ((if j = k ∧ h.ready = true then slotAt h.slots i else none).map (fun v => v.toNat))
           | _ => levelOf (warnEntry s n))
        else (.idle, if (warnEntry s n).status = .idle then (warnEntry s n).count else 0) := by
  obtain ⟨_, _, entries, _, _⟩ := banksWhole_iff.mp whole
  have length : n ∈ reportEntries k → (told k h d e c (entered k h s)).warn.entries.length = 24 := fun sourced =>
    told_length h d e c sourced (by rw [entered_warn, entries])
  have gates := told_gatesJudged k h d e c (entered_gatesHold k h hold)
  rw [consumers_told, (evaluateReport_standing _ k).gate]
  split
  case isTrue open_ =>
    by_cases sourced : n ∈ reportEntries k
    · obtain ⟨i, low, high, input⟩ := reportEntries_input sourced
      rw [evaluateReport_sourced (length sourced) sourced, judged_told hold sourced low high input open_, input]
      cases h.ready <;> simp
    · have kept :
          levelOf (warnEntry (evaluateReport k (told k h d e c (entered k h s))) n) = levelOf (warnEntry s n) := by
        rw [(evaluateReport_standing _ k).level.entry n sourced, ← warnEntry_entered k h s n]
        exact congrArg (fun x => (x.1, x.2.1)) (gates.opened n open_)
      rw [kept]
      split
      · rename_i j i input
        have other : ¬(j = k ∧ h.ready = true) := fun own => sourced (mem_reportEntries inside (own.1 ▸ input))
        rw [if_neg other]
        rfl
      · rfl
  case isFalse shut =>
    rw [Bool.not_eq_true] at shut
    rw [evaluateReport_shut length shut, gates.closed n inside shut, warnEntry_entered]

/-- An accepted report tells the consumers of its kind. -/
theorem reportArrival_carried {k : ReportKind} {h : Heard} {s : State}
    (heard : heardBy s (fitsKind (reportFrameKind k) h) h = true) (accepted : acceptedBy s k h = true)
    (whole : banksWhole s = true) : ∃ d e c,
      exec (.reportArrival k h) s = .next (settled (consumers k h d e c (entered k h s)))
      ∧ OnlyIn (mayChange (.reportArrival k h)) s (settled (consumers k h d e c (entered k h s))) := by
  have station := (heardBy_iff.mp heard).2.1
  have offered : offerReport k h (noteHeard h s) = consumers k h (slotDelta s k h 1).2 (slotDelta s k h 2).2
      (raisesCall (callBefore s h.source) h) (entered k h s) := by
    rw [offerReport_accept (offerDecision_accepted whole station accepted), acceptArrival_noteHeard]
  refine ⟨_, _, _, (exec_reportArrival_heard heard).trans (by rw [offered]), ?_⟩
  rw [← offered]
  exact reportArrival_only k h s

end Sys2Proof.Machine

open Sys2Proof Sys2Proof.Machine

/-- Settles O56, by what one evaluation makes of its entry, and as no evaluation changes what another one reads. -/
theorem evaluationsFollowTheTable : Obligations.EvaluationsFollowTheTable := by
  refine ⟨fun n inside limit v e => ?tests, fun s => ?values, fun s on whole => ?timed,
    fun k h s heard accepted whole hold => ?report⟩
  case tests =>
    rw [← atRelease_eq]
    exact testTrue_eq_table72 limit v (atRelease e) inside
  case values =>
    exact ⟨rfl, rfl, rfl, fun v => one_le_staleEntry_iff s .engine, rfl, fun v => one_le_staleEntry_iff s .chassis, rfl,
      congrArg some (dueCount_eq s), rfl, rfl, rfl⟩
  case timed =>
    obtain ⟨_, _, entries, _, _⟩ := banksWhole_iff.mp whole
    have carried : exec .evaluationTimerExpiry s = .next (settled (evaluationPeriod s)) :=
      congrArg Host.Outcome.next (if_pos (Option.isSome_iff_ne_none.mpr on))
    have only : OnlyIn (mayChange .evaluationTimerExpiry) s (settled (evaluationPeriod s)) :=
      ((evaluationPeriod_only s).mono (by decide)).settled (by decide) (by decide)
    refine ⟨_, carried, ?_, fun n timed => ?_, fun n untimed => ?_, only⟩
    · rw [settled_warn, evaluationPeriod_evalTimer]
    · rw [warnEntry_settled]
      refine (evaluationPeriod_timed entries timed).trans ?_
      unfold judged verdict
      rw [timedEntries_companion timed]
      cases gateTrue s (warnDef n).gate
      · rfl
      · cases warnInput s (warnDef n).input
        · rfl
        · simp [companionAllows]
    · rw [warnEntry_settled]
      exact evaluationPeriod_untimed s untimed
  case report =>
    obtain ⟨_, _, _, carried, only⟩ := reportArrival_carried heard accepted whole
    refine ⟨_, carried, fun n inside => ?_, only⟩
    rw [warnEntry_settled, gateTrue_settled]
    refine (accepted_level whole hold inside).trans ?_
    split
    · cases (warnDef n).input
      case slot j i =>
        dsimp only
        cases (if j = k ∧ h.ready = true then slotAt h.slots i else none) <;> rfl
      all_goals rfl
    · rfl

end

section
/-! PROOFS. Reports and what they reach: the engine-running timer, the helper entry and the display's brightness
(O35). -/

namespace Sys2Proof.Machine

/-! ### The engine-running timer -/

theorem followEngine_running {v : Word} {s : State} (running : v.getLsbD 0 = true) (off : s.warn.engineTimer = none)
    (unknown : s.warn.engineEst = false) :
    followEngine true (some v) s = { s with warn := { s.warn with engineTimer := startFor s 5000 } } := by
  simp [followEngine, running, off, unknown, runs]

theorem followEngine_still {v : Word} (still : v.getLsbD 0 = false) (s : State) :
    followEngine true (some v) s = { s with warn := { s.warn with engineTimer := none, engineEst := false } } := by
  simp only [followEngine, still, if_true, Bool.false_eq_true, if_false]

/-- The gates and the evaluations leave the engine as the arrival has put it. -/
theorem engineArrival_engine (h : Heard) (d e : Nat) (c : Bool) (s : State) :
    (consumers .engine h d e c s).warn.engineTimer = (followEngine h.ready (slotAt h.slots 5) s).warn.engineTimer
    ∧ (consumers .engine h d e c s).warn.engineEst = (followEngine h.ready (slotAt h.slots 5) s).warn.engineEst := by
  have unit : unitOf (consumers .engine h d e c s).warn = unitOf (followEngine h.ready (slotAt h.slots 5) s).warn := by
    rw [consumers_told, told_engine, (evaluateReport_standing _ .engine).unit, (applyGates_entries _).unit]
  have timer := congrArg Warn.engineTimer unit
  have established := congrArg Warn.engineEst unit
  simp only [unitOf] at timer established
  exact ⟨timer, established⟩

/-! ### The helper entry -/

/-- The helper has no gate but the part's being awake, and a debounce of 1. -/
theorem helper_active {h : Heard} {v : Word} {d e : Nat} {c : Bool} {s : State} (whole : banksWhole s = true)
    (up : awake s = true) (ready : h.ready = true) (slot : slotAt h.slots 1 = some v) (door : v.getLsbD 0 = true)
    (idle : warnEntry s 23 = .clear) :
    (warnEntry (consumers .bodyDoors h d e c (entered .bodyDoors h s)) 23).status = .active := by
  obtain ⟨_, _, entries, _, _⟩ := banksWhole_iff.mp whole
  have length : (entered .bodyDoors h s).warn.entries.length = 24 := by rw [entered_warn, entries]
  have gate : gateTrue (entered .bodyDoors h s) .any = true := (entered_gate .bodyDoors h s .any).trans up
  have value : warnInput (entered .bodyDoors h s) (.slot .bodyDoors 1) = some v.toNat := by
    refine (warnInput_told .bodyDoors h d e c s (i := 1) (by decide) (by decide)).trans ?_
    simp [ready, slot]
  have test : ∀ release, testTrue (entered .bodyDoors h s).trip.speedLimit release (warnDef 23).test v.toNat = true :=
    fun release => (testTrue_bitSet _ _ release (i := 0) (by decide)).trans door
  have true_ : verdict (entered .bodyDoors h s) 23 = some true := by
    have input : warnInput (entered .bodyDoors h s) (warnDef 23).input = some v.toNat := value
    have open_ : gateTrue (entered .bodyDoors h s) (warnDef 23).gate = true := gate
    rw [verdict, if_pos open_, input, Option.map_some, test]
    rfl
  have level : levelOf (warnEntry (consumers .bodyDoors h d e c (entered .bodyDoors h s)) 23) = (.active, 1) := by
    refine (evaluateReport_sourced length (by decide)).trans ?_
    rw [judged, true_, warnEntry_entered, idle]
    rfl
  exact congrArg Prod.fst level

/-! ### The display -/

/-- A report's slots are fresh when it has been accepted. -/
theorem freshSlot_accepted {k : ReportKind} {h : Heard} {s t : State} (bus : t.bus = (entered k h s).bus) {i : Nat}
    (low : 1 ≤ i) (high : i ≤ 6) : freshSlot t k i = slotAt h.slots i := by
  have entry : entryIn t k = acceptedEntry s k h := by
    unfold entryIn
    rw [bus]
    exact entryOf_setEntry_same _ _ _
  have accepted : fresh (acceptedEntry s k h) = true := rfl
  rw [freshSlot, entry, if_pos accepted]
  exact slotAt_padded h.slots low high

/-- Headlamps on, the display takes the level of BODY LAMPS (09 R141). -/
theorem brightness_dimmed {h : Heard} {v level : Word} {s t : State} (bus : t.bus = (entered .bodyLamps h s).bus)
    (slot : slotAt h.slots 1 = some v) (lamps : v.getLsbD 1 = true) (dimmed : slotAt h.slots 3 = some level) :
    brightness t = min 15 level.toNat := by
  have on : headlampsOn t = true := by
    rw [headlampsOn, freshSlot_accepted bus (by decide) (by decide), slot]
    exact lamps
  rw [brightness, if_pos on, freshSlot_accepted bus (by decide) (by decide), dimmed]

/-- A changed image is sent at once where no transfer is in progress. -/
theorem refreshDisplay_sends {s : State} (free : s.disp.transfer = none)
    (changed : (refreshDisplay s).disp.image ≠ s.disp.image) :
    (refreshDisplay s).disp.transfer = some (refreshDisplay s).disp.image := by
  unfold refreshDisplay at changed ⊢
  split
  · simp_all
  · rw [free]

theorem settled_sends {s : State} (free : s.disp.transfer = none) (changed : (settled s).disp.image ≠ s.disp.image) :
    (settled s).disp.transfer = some (settled s).disp.image := by
  unfold settled at changed ⊢
  have same : (settleSleep s).disp = s.disp := settleSleep_disp s
  rw [← same] at free changed
  exact refreshDisplay_sends free changed

end Sys2Proof.Machine

open Sys2Proof Sys2Proof.Machine

/-- Settles O35, by what the consumers of each kind leave of the engine, the helper entry and the image. -/
theorem reportsReachTheirWarnings : Obligations.ReportsReachTheirWarnings := by
  refine ⟨fun h v s heard accepted whole ready slot => ?engine,
    fun h v s heard accepted ready slot door up whole idle => ?doors,
    fun h v level s heard accepted slot lamps dimmed whole => ?lamps⟩
  case engine =>
    obtain ⟨d, e, c, carried, only⟩ := reportArrival_carried (k := .engine) heard accepted whole
    obtain ⟨timer, established⟩ := engineArrival_engine h d e c (entered .engine h s)
    rw [ready, slot] at timer established
    refine ⟨_, carried, fun running off unknown => ?_, fun still => ?_, only⟩
    · rw [followEngine_running running (by rw [entered_warn, off]) (by rw [entered_warn, unknown])] at timer established
      rw [settled_warn, timer, established, startFor, (entered_only .engine h s).now, entered_warn]
      exact ⟨rfl, unknown⟩
    · rw [followEngine_still still] at timer established
      rw [settled_warn, timer, established]
      exact ⟨rfl, rfl⟩
  case doors =>
    obtain ⟨d, e, c, carried, only⟩ := reportArrival_carried (k := .bodyDoors) heard accepted whole
    refine ⟨_, carried, ?_, only⟩
    rw [warnEntry_settled]
    exact helper_active whole up ready slot door idle
  case lamps =>
    obtain ⟨d, e, c, carried, only⟩ := reportArrival_carried (k := .bodyLamps) heard accepted whole
    have bus : (settled (consumers .bodyLamps h d e c (entered .bodyLamps h s))).bus = (entered .bodyLamps h s).bus :=
      (settled_bus _).trans ((evaluateReport_only .bodyLamps _).bus (by decide))
    have kept : WarnKept standingOf (reportEntries .bodyLamps) (entered .bodyLamps h s)
        (consumers .bodyLamps h d e c (entered .bodyLamps h s)) := evaluateReport_standing _ .bodyLamps
    have disp := (entered_only .bodyLamps h s).disp (by decide)
    refine ⟨_, carried, ?_, fun quiet => ?_, fun free changed => ?_, only⟩
    · rw [(settled_from _).image]
      exact brightness_dimmed bus slot lamps dimmed
    · have asleep : awake (settled (consumers .bodyLamps h d e c (entered .bodyLamps h s))) = false :=
        (gateTrue_settled _ .any).trans ((kept.gate .any).trans ((entered_gate .bodyLamps h s .any).trans quiet))
      rw [(settled_from _).image, composeImage_quiet _ asleep]
      exact ⟨rfl, rfl⟩
    · refine settled_sends ?_ ?_
      · rw [kept.transfer, disp, free]
      · rw [kept.image, disp]
        exact changed

end

section
/-! PROOFS. Timers of the Warning Unit: the posts made again, the review, the end of lamp proving and the end of the
window (O57). -/

namespace Sys2Proof.Machine

/-! ### Posts that find room -/

section
variable {n : Nat} {s : State}

/-- An entry after a change of it, where the other changes leave every entry. -/
theorem warnEntry_modified {t : State} (kept : WarnKept id [] s t) (whole : t.warn.entries.length = 24)
    (number : isWarning n = true) (f : WarnEntry → WarnEntry) :
    warnEntry (modifyWarn n f t) n = f (warnEntry s n) := by
  have same : warnEntry t n = warnEntry s n := kept.entry n (by simp)
  rw [warnEntry_modifyWarn_same whole number, same]

/-- With room in the set a request drops none, so no entry is told of a drop. -/
theorem postChime_taken (src : ChimeSource) (pat : ChimePattern) (prio reps : Nat) (up : awake s = true)
    (room : s.chime.requests.length < 8) :
    (postChime src pat prio reps s).1 = true ∧ WarnKept id [] s (postChime src pat prio reps s).2 := by
  have kept : WarnKept id [] s (chimePost src pat prio reps s).2 := .of_free (chimePost_only _ _ _ _ s) rfl
  have taken : (chimePost src pat prio reps s).1 = .taken := by
    rcases chimePost_cases src pat prio reps s with
      ⟨down, _⟩ | ⟨_, _, post⟩ | ⟨_, _, _, post⟩ | ⟨_, _, _, full, _⟩ | ⟨_, _, full, _⟩
    · simp [up] at down
    · rw [post]
    · rw [post]
    · omega
    · omega
  unfold postChime
  split <;> rename_i post <;> rw [post] at taken kept
  · exact ⟨rfl, kept⟩
  · cases taken
  · cases taken

/-- With room in the queue a record drops none, so no entry is told of a drop. -/
theorem postMessage_taken (o : MsgOrigin) (x : Text) (prio : Nat) (mx : Option Nat) (room : s.msg.queue.length < 8) :
    (postMessage o x prio mx s).1 = true ∧ WarnKept id [] s (postMessage o x prio mx s).2 := by
  have kept := msgPost_entries s o x prio mx
  have taken : (msgPost o x prio mx s).1 = .taken := by
    rcases msgPost_cases o x prio mx s with ⟨_, post⟩ | ⟨_, _, post⟩ | ⟨_, _, full, _⟩ | ⟨_, full, _⟩
    · rw [post]
    · rw [post]
    · omega
    · omega
  unfold postMessage
  split <;> rename_i post <;> rw [post] at taken kept
  · exact ⟨rfl, kept⟩
  · cases taken
  · cases taken

/-- An entry's request with room in the set: it is there, and no longer outstanding. -/
theorem postWarnChime_taken (whole : s.warn.entries.length = 24) (number : isWarning n = true) (up : awake s = true)
    (room : s.chime.requests.length < 8) :
    WarnKept id [n] s (postWarnChime n s)
    ∧ warnEntry (postWarnChime n s) n = { warnEntry s n with chimeOut := false }
    ∧ ∀ pat reps, (warnDef n).chime = some (pat, reps) →
        Requested (.warning n) pat (warnPriority n) reps (postWarnChime n s) := by
  unfold postWarnChime
  split
  · rename_i pat reps chime
    obtain ⟨taken, kept⟩ := postChime_taken (.warning n) pat (warnPriority n) reps up room
    have requested := postChime_requested (src := .warning n) pat (warnPriority n) reps up (.inl room)
    have banks := postChime_banks (.warning n) pat (warnPriority n) reps s
    split <;> rename_i t post <;> rw [post] at taken kept requested banks
    · refine ⟨(kept.mono (by simp)).trans (modifyWarn_entries t n _),
        warnEntry_modified kept (banks.entries whole) number _, fun pat' reps' own => ?_⟩
      obtain ⟨rfl, rfl⟩ : pat = pat' ∧ reps = reps' := by simpa [chime] using own
      exact requested.kept (.of_same ((modifyWarn_only n _ t).chime (by decide)))
    · cases taken
  · exact ⟨modifyWarn_entries s n _, warnEntry_modified (.refl _ _ s) whole number _,
      fun _ _ own => by simp_all⟩

/-- An entry's record with room in the queue: it is there, and no longer outstanding. -/
theorem postWarnMessage_taken (whole : s.warn.entries.length = 24) (number : isWarning n = true)
    (room : s.msg.queue.length < 8) :
    WarnKept id [n] s (postWarnMessage n s)
    ∧ warnEntry (postWarnMessage n s) n = { warnEntry s n with msgOut := false }
    ∧ Recorded (.warning n) (.warning n) (warnPriority n) none (postWarnMessage n s) := by
  obtain ⟨taken, kept⟩ := postMessage_taken (.warning n) (.warning n) (warnPriority n) none room
  have recorded : Recorded _ _ _ _ (postMessage (.warning n) (.warning n) (warnPriority n) none s).2 :=
    postNote_recorded (.warning n) (.warning n) (warnPriority n) none room
  have banks := postMessage_banks (.warning n) (.warning n) (warnPriority n) none s
  unfold postWarnMessage
  split <;> rename_i t post <;> rw [post] at taken kept recorded banks
  · obtain ⟨r, here, posted⟩ := recorded
    have msg := (modifyWarn_only n (fun e => { e with msgOut := false }) t).msg (by decide)
    exact ⟨(kept.mono (by simp)).trans (modifyWarn_entries t n _),
      warnEntry_modified kept (banks.entries whole) number _, r, by rw [msg]; exact here, posted⟩
  · cases taken

end

/-! ### The re-offer timer -/

/-- An entry's request is posted if it is outstanding. -/
def chimeOffered (n : Nat) (s : State) : State := if (warnEntry s n).chimeOut then postWarnChime n s else s

/-- An entry's record is posted if it is outstanding. -/
def messageOffered (n : Nat) (s : State) : State := if (warnEntry s n).msgOut then postWarnMessage n s else s

/-- The re-offer timer of an entry after its posts were made again (07 R119). -/
def reofferAgain (s : State) (e : WarnEntry) : WarnEntry :=
  { e with reofferTimer := if e.chimeOut || e.msgOut then startFor s 1000 else none }

theorem postOutstanding_eq (n : Nat) (s : State) : postOutstanding n s
    = modifyWarn n (reofferAgain (messageOffered n (chimeOffered n s))) (messageOffered n (chimeOffered n s)) := rfl

section
variable {n : Nat} {s : State}

theorem chimeOffered_banks (n : Nat) (s : State) : BanksKept s (chimeOffered n s) :=
  .ite (postWarnChime_banks n s) (.refl s)

theorem messageOffered_banks (n : Nat) (s : State) : BanksKept s (messageOffered n s) :=
  .ite (postWarnMessage_banks n s) (.refl s)

theorem chimeOffered_msg (n : Nat) (s : State) : (chimeOffered n s).msg = s.msg :=
  (OnlyIn.ite (postWarnChime_only n s) (.refl _ s)).msg (by decide)

theorem messageOffered_chime (n : Nat) (s : State) : (messageOffered n s).chime = s.chime :=
  (OnlyIn.ite (postWarnMessage_only n s) (.refl _ s)).chime (by decide)

theorem chimeOffered_taken (whole : s.warn.entries.length = 24) (number : isWarning n = true) (up : awake s = true)
    (room : s.chime.requests.length < 8) :
    WarnKept id [n] s (chimeOffered n s)
    ∧ warnEntry (chimeOffered n s) n = { warnEntry s n with chimeOut := false }
    ∧ ∀ pat reps, (warnEntry s n).chimeOut = true → (warnDef n).chime = some (pat, reps) →
        Requested (.warning n) pat (warnPriority n) reps (chimeOffered n s) := by
  unfold chimeOffered
  split
  · obtain ⟨kept, own, requested⟩ := postWarnChime_taken whole number up room
    exact ⟨kept, own, fun pat reps _ => requested pat reps⟩
  · rename_i out
    rw [Bool.not_eq_true] at out
    exact ⟨.refl _ _ s, by rw [← out], fun _ _ on => by simp [out] at on⟩

theorem messageOffered_taken (whole : s.warn.entries.length = 24) (number : isWarning n = true)
    (room : s.msg.queue.length < 8) :
    WarnKept id [n] s (messageOffered n s)
    ∧ warnEntry (messageOffered n s) n = { warnEntry s n with msgOut := false }
    ∧ ((warnEntry s n).msgOut = true →
        Recorded (.warning n) (.warning n) (warnPriority n) none (messageOffered n s)) := by
  unfold messageOffered
  split
  · obtain ⟨kept, own, recorded⟩ := postWarnMessage_taken whole number room
    exact ⟨kept, own, fun _ => recorded⟩
  · rename_i out
    rw [Bool.not_eq_true] at out
    exact ⟨.refl _ _ s, by rw [← out], fun on => by simp [out] at on⟩

/-- With room in the set and in the queue, both posts are made, and the re-offer timer stops. -/
theorem postOutstanding_taken (whole : s.warn.entries.length = 24) (number : isWarning n = true) (up : awake s = true)
    (set : s.chime.requests.length < 8) (queue : s.msg.queue.length < 8) :
    WarnKept id [n] s (postOutstanding n s)
    ∧ warnEntry (postOutstanding n s) n
        = { warnEntry s n with chimeOut := false, msgOut := false, reofferTimer := none }
    ∧ (∀ pat reps, (warnEntry s n).chimeOut = true → (warnDef n).chime = some (pat, reps) →
        Requested (.warning n) pat (warnPriority n) reps (postOutstanding n s))
    ∧ ((warnEntry s n).msgOut = true →
        Recorded (.warning n) (.warning n) (warnPriority n) none (postOutstanding n s)) := by
  have whole1 := (chimeOffered_banks n s).entries whole
  have whole2 := (messageOffered_banks n _).entries whole1
  obtain ⟨chimeKept, chimeOwn, requested⟩ := chimeOffered_taken whole number up set
  obtain ⟨msgKept, msgOwn, recorded⟩ :=
    messageOffered_taken (s := chimeOffered n s) whole1 number (by rw [chimeOffered_msg]; exact queue)
  have timed := modifyWarn_only n (reofferAgain (messageOffered n (chimeOffered n s)))
    (messageOffered n (chimeOffered n s))
  rw [postOutstanding_eq]
  refine ⟨(chimeKept.trans msgKept).trans (modifyWarn_entries _ n _), ?_, fun pat reps out chime => ?_, fun out => ?_⟩
  · rw [warnEntry_modifyWarn_same whole2 number, msgOwn, chimeOwn]
    rfl
  · exact ((requested pat reps out chime).kept (.of_same (messageOffered_chime n _))).kept
      (.of_same (timed.chime (by decide)))
  · have outstanding : (warnEntry (chimeOffered n s) n).msgOut = true := by
      rw [chimeOwn]
      exact out
    obtain ⟨r, here, posted⟩ := recorded outstanding
    exact ⟨r, by rw [timed.msg (by decide)]; exact here, posted⟩

end

/-! ### The review -/

/-- The first of a rising list that passes is the least that does. -/
theorem find?_least {p : Nat → Bool} {l : List Nat} {m : Nat} (rising : l.Pairwise (· < ·))
    (found : l.find? p = some m) : ∀ x ∈ l, x < m → p x = false := by
  obtain ⟨_, before, after, parts, failed⟩ := List.find?_eq_some_iff_append.mp found
  intro x inside low
  rw [parts] at inside rising
  obtain ⟨_, above, _⟩ := List.pairwise_append.mp rising
  rcases List.mem_append.mp inside with early | late
  · simpa using failed x early
  · rcases List.mem_cons.mp late with same | later
    · omega
    · have := (List.pairwise_cons.mp above).1 x later
      omega

/-- Numbers of no entry are not reviewed. -/
theorem reviewable_outside {s : State} {x : Nat} (outside : x ∉ warnNumbers) : reviewable (warnEntry s x) = false := by
  unfold warnEntry
  rw [if_neg fun number => outside (mem_warnNumbers number)]
  rfl

theorem nextReview_some {s : State} {n m : Nat} (next : nextReview s n = some m) :
    n < m ∧ reviewable (warnEntry s m) = true ∧ ∀ x, n < x → x < m → reviewable (warnEntry s x) = false := by
  have shown := List.find?_some next
  simp only [Bool.and_eq_true, decide_eq_true_eq] at shown
  refine ⟨shown.1, shown.2, fun x above below => ?_⟩
  by_cases number : x ∈ warnNumbers
  · simpa [above] using find?_least (by decide) next x number below
  · exact reviewable_outside number

theorem nextReview_none {s : State} {n : Nat} (last : nextReview s n = none) :
    ∀ x, n < x → reviewable (warnEntry s x) = false := by
  intro x above
  by_cases number : x ∈ warnNumbers
  · simpa [above] using List.find?_eq_none.mp last x number
  · exact reviewable_outside number

theorem moveReview_entry {s : State} {n : Nat} (shown : s.warn.review = .entry n) :
    moveReview s = showReview (nextReview s n) s := by
  simp only [moveReview, shown]

theorem moveReview_noWarnings {s : State} (shown : s.warn.review = .noWarnings) : moveReview s = closeReview s := by
  simp only [moveReview, shown]

theorem moveReview_warnEntries (s : State) : (moveReview s).warn.entries = s.warn.entries := by
  unfold moveReview showReview
  repeat' split
  all_goals rfl

/-! ### The end of lamp proving -/

theorem postReminder_cursor (i : Nat) (s : State) : (postReminder i s).service.cursor = s.service.cursor := by
  have kept : (msgPost .reminder (.service (itemOf s i).state i) 5 (some 4) s).2.service.cursor = s.service.cursor :=
    congrArg Service.cursor ((msgPost_only _ _ _ _ s).service (by decide))
  unfold postReminder
  split <;> rename_i post <;> rw [post] at kept <;> exact kept

theorem setCursor_cursor (next : Option Nat) (s : State) : (setCursor next s).service.cursor = next := by
  cases next
  · rfl
  · exact postReminder_cursor _ _

/-- From 0 on, the next reminder is that of the first item not COUNTING. -/
theorem nextReminder_zero (s : State) :
    nextReminder s 0 = itemNumbers.find? (fun i => (itemOf s i).state ≠ .counting) := by
  refine List.find?_congr fun i inside => ?_
  have number : 0 < i := by
    revert i
    decide
  simp [number, soonOrWorse]

/-- The reminder cycle leaves the Warning Unit as the end of lamp proving has put it. -/
theorem endProving_unit (s : State) : unitOf (endProving s).warn = unitOf { s.warn with
    provingTimer := none, windowTimer := startFor s 8000, window := true, graceTimer := startFor s 5000 } :=
  (setCursor_entries _ _).unit

theorem endProving_mode (s : State) : (endProving s).power.mode = s.power.mode := (setCursor_entries _ _).mode

/-! ### The end of the window -/

/-- The window's end closes no gate but its own. -/
theorem gateTrue_windowEnded (s : State) {g : Gate} (other : g ≠ .window8) :
    gateTrue { s with warn := { s.warn with windowTimer := none, window := false } } g = gateTrue s g := by
  cases g
  case window8 => exact absurd rfl other
  all_goals rfl

/-- The judging of the gates leaves the window closed. -/
theorem endWindow_window (s : State) : (endWindow s).warn.windowTimer = none ∧ (endWindow s).warn.window = false := by
  have unit : unitOf (endWindow s).warn = unitOf { s.warn with windowTimer := none, window := false } :=
    (applyGates_entries _).unit
  have timer := congrArg Warn.windowTimer unit
  have window := congrArg Warn.window unit
  simp only [unitOf] at timer window
  exact ⟨timer, window⟩

theorem endWindow_entry {s : State} {n : Nat} (hold : gatesHold s = true) (inside : n ∈ warnNumbers) :
    if (warnDef n).gate = .window8 then (warnEntry (endWindow s) n).status = .idle
    else warnEntry (endWindow s) n = warnEntry s n := by
  have entry : warnEntry (endWindow s) n
      = gated { s with warn := { s.warn with windowTimer := none, window := false } } n := warnEntry_applyGates _ n
  rw [entry, gated]
  split
  case isTrue own =>
    have shut : gateTrue { s with warn := { s.warn with windowTimer := none, window := false } } (warnDef n).gate
        = false := by
      rw [own]
      exact Bool.and_false _
    split
    · rename_i idle
      exact idle.resolve_left (by rw [shut]; simp)
    · rfl
  case isFalse other =>
    have open_ := gatesHold_iff.mp hold n inside
    rw [gateTrue_windowEnded s other]
    exact if_pos open_

end Sys2Proof.Machine

open Sys2Proof Sys2Proof.Machine

/-- Settles O57, timer by timer. -/
theorem warningTimersRunTheUnit : Obligations.WarningTimersRunTheUnit := by
  refine ⟨fun n s number whole on up set queue => ?reoffer, fun s on => ?review, fun s on => ?proving,
    fun s on hold whole => ?window⟩
  case reoffer =>
    obtain ⟨_, _, entries, _, _⟩ := banksWhole_iff.mp whole
    have carried : exec (.reOfferTimerExpiry n) s = .next (settled (postOutstanding n s)) :=
      congrArg Host.Outcome.next (if_pos (Option.isSome_iff_ne_none.mpr on))
    have only : OnlyIn (settledBlocks ++ postBlocks) s (settled (postOutstanding n s)) :=
      ((postOutstanding_only n s).mono (by decide)).settled (by decide) (by decide)
    obtain ⟨kept, own, requested, recorded⟩ := postOutstanding_taken entries number up set queue
    refine ⟨_, carried, fun pat reps out chime => ?_, fun out => ?_, ?_, ?_, ?_, ?_, fun m other => ?_, only⟩
    · obtain ⟨r, here, source, pattern, remaining, _⟩ := requested pat reps out chime
      exact ⟨r, by rw [settled_chime]; exact here, source, pattern, remaining⟩
    · obtain ⟨r, here, origin, text, _⟩ := recorded out
      exact ⟨r, by rw [settled_msg]; exact here, origin, text⟩
    · rw [warnEntry_settled, own]
    · rw [warnEntry_settled, own]
    · rw [warnEntry_settled, own]
    · rw [warnEntry_settled, own]
    · rw [warnEntry_settled]
      exact kept.entry m (by simpa using other)
  case review =>
    have carried : exec .reviewTimerExpiry s = .next (settled (moveReview s)) :=
      congrArg Host.Outcome.next (if_pos (Option.isSome_iff_ne_none.mpr on))
    have only : OnlyIn (mayChange .reviewTimerExpiry) s (settled (moveReview s)) :=
      ((moveReview_only s).mono (by decide)).settled (by decide) (by decide)
    refine ⟨_, carried, fun n shown => ?_, fun empty => ?_, ?_, only⟩ <;> rw [settled_warn]
    · rw [moveReview_entry shown]
      cases next : nextReview s n with
      | none => exact ⟨nextReview_none next, rfl⟩
      | some m =>
        obtain ⟨above, here, between⟩ := nextReview_some next
        exact ⟨above, here, between, rfl⟩
    · rw [moveReview_noWarnings empty]
      exact ⟨rfl, rfl⟩
    · exact moveReview_warnEntries s
  case proving =>
    have carried : exec .lampProvingExpiry s = .next (settled (endProving s)) :=
      congrArg Host.Outcome.next (if_pos (Option.isSome_iff_ne_none.mpr on))
    have only : OnlyIn (mayChange .lampProvingExpiry) s (settled (endProving s)) :=
      (((only_warn s _).mono (by decide)).trans ((setCursor_only _ _).mono (by decide))).settled (by decide) (by decide)
    have unit := endProving_unit s
    have ended : (endProving s).warn.provingTimer = none := congrArg (fun u => u.provingTimer) unit
    refine ⟨_, carried, ?_, ?_, ?_, ?_, fun run => ?_, ?_, only⟩
    · rw [settled_warn]
      exact ended
    · rw [settled_warn]
      exact congrArg (fun u => u.window) unit
    · rw [settled_warn]
      exact congrArg (fun u => u.windowTimer) unit
    · rw [settled_warn]
      exact congrArg (fun u => u.graceTimer) unit
    · simp [gateTrue, runGate, endProving_mode, run, ended, runs]
    · rw [settled_service]
      exact (setCursor_cursor _ _).trans (nextReminder_zero s)
  case window =>
    have carried : exec .windowTimerExpiry s = .next (settled (endWindow s)) :=
      congrArg Host.Outcome.next (if_pos (Option.isSome_iff_ne_none.mpr on))
    have only : OnlyIn (mayChange .windowTimerExpiry) s (settled (endWindow s)) :=
      (((only_warn s _).mono (by decide)).trans ((applyGates_only _).mono (by decide))).settled (by decide) (by decide)
    obtain ⟨timer, window⟩ := endWindow_window s
    refine ⟨_, carried, ?_, ?_, fun n inside => ?_, only⟩
    · rw [settled_warn, timer]
    · rw [settled_warn, window]
    · rw [warnEntry_settled]
      exact endWindow_entry hold inside

end

section
/-! PROOFS. Chime set and message queue: what keeps a list at 8 places, one a key and one marked, and what the arbiter,
the selection, the posts and the withdrawals do to the chime set and the message queue (08 R129, R130, R133 to R137, 09
R142 to R144). -/

namespace Sys2Proof.Machine

/-! ### Lists of at most 8, one a key, some marked -/

theorem distinct_iff {α : Type} [BEq α] [LawfulBEq α] : ∀ {l : List α}, distinct l = true ↔ l.Nodup
  | [] => by simp [distinct]
  | x :: rest => by simp [distinct, distinct_iff (l := rest)]

/-- At most 8 of a list, no two of one key, and at most `n` of them marked. -/
structure Fits {α κ : Type} (key : α → κ) (mark : α → Bool) (n : Nat) (q : List α) : Prop where
  room : q.length ≤ 8
  keys : (q.map key).Nodup
  marks : q.countP mark ≤ n

section
variable {α κ : Type} {key : α → κ} {mark : α → Bool} {n : Nat} {q : List α}

theorem Fits.nil : Fits key mark n [] := ⟨Nat.zero_le 8, List.nodup_nil, Nat.zero_le n⟩

theorem Fits.sublist {l : List α} (fits : Fits key mark n q) (sub : l.Sublist q) : Fits key mark n l :=
  ⟨sub.length_le.trans fits.room, (sub.map key).nodup fits.keys, sub.countP_le.trans fits.marks⟩

/-- A list of which none is marked fits with none marked. -/
theorem Fits.unmarked (fits : Fits key mark n q) (none_ : ∀ x ∈ q, mark x = false) : Fits key mark 0 q :=
  ⟨fits.room, fits.keys, (List.countP_eq_zero.mpr fun x here => by simp [none_ x here]).le⟩

theorem Fits.not_marked (fits : Fits key mark 0 q) {x : α} (here : x ∈ q) : mark x = false := by
  simpa using List.countP_eq_zero.mp (Nat.le_zero.mp fits.marks) x here

theorem Fits.weaken (fits : Fits key mark 0 q) : Fits key mark n q :=
  ⟨fits.room, fits.keys, fits.marks.trans (Nat.zero_le n)⟩

theorem Fits.keys_map {f : α → α} (fits : Fits key mark n q) (sameKey : ∀ x, key (f x) = key x) :
    ((q.map f).map key).Nodup := by
  have same : key ∘ f = key := funext sameKey
  rw [List.map_map, same]
  exact fits.keys

/-- A change of each that keeps its key and marks none anew. -/
theorem Fits.map {f : α → α} (fits : Fits key mark n q) (sameKey : ∀ x, key (f x) = key x)
    (noneNew : ∀ x, mark (f x) = true → mark x = true) : Fits key mark n (q.map f) where
  room := (List.length_map f).le.trans fits.room
  keys := fits.keys_map sameKey
  marks := by
    rw [List.countP_map]
    exact (List.countP_mono_left fun x _ => noneNew x).trans fits.marks

/-- A change of each that keeps its key and takes its mark away. -/
theorem Fits.clear {f : α → α} (fits : Fits key mark n q) (sameKey : ∀ x, key (f x) = key x)
    (cleared : ∀ x, mark (f x) = false) : Fits key mark 0 (q.map f) := by
  refine (fits.map sameKey fun x marked => by simp [cleared x] at marked).unmarked fun y here => ?_
  obtain ⟨x, _, rfl⟩ := List.mem_map.mp here
  exact cleared x

/-- Of an unmarked list, the place of one key is marked. -/
theorem Fits.mark_key [DecidableEq κ] {f : α → α} {k : κ} (fits : Fits key mark 0 q) (sameKey : ∀ x, key (f x) = key x)
    (only : ∀ x, key x ≠ k → f x = x) : Fits key mark 1 (q.map f) where
  room := (List.length_map f).le.trans fits.room
  keys := fits.keys_map sameKey
  marks := by
    have marked : ∀ x ∈ q, (mark ∘ f) x = true → (key x == k) = true := fun x here on => by
      by_contra other
      rw [Function.comp_apply, only x (by simpa using other), fits.not_marked here] at on
      cases on
    calc (q.map f).countP mark = q.countP (mark ∘ f) := List.countP_map
      _ ≤ q.countP (fun x => key x == k) := List.countP_mono_left marked
      _ = (q.map key).count k := by rw [List.count, List.countP_map]; rfl
      _ ≤ 1 := List.nodup_iff_count_le_one.mp fits.keys k

/-- One that is not marked, of a key not yet there, joins where there is room. -/
theorem Fits.join {x : α} (fits : Fits key mark n q) (room : q.length < 8) (new : ∀ y ∈ q, key y ≠ key x)
    (plain : mark x = false) : Fits key mark n (q ++ [x]) where
  room := by simpa using room
  keys := by
    rw [List.map_append, List.nodup_append]
    refine ⟨fits.keys, List.nodup_singleton _, fun a here b last => ?_⟩
    obtain ⟨y, there, rfl⟩ := List.mem_map.mp here
    obtain rfl : b = key x := by simpa using last
    exact new y there
  marks := by simpa [plain] using fits.marks

/-- Room is made where one of the list is left out. -/
theorem Fits.length_filter_lt {p : α → Bool} {x : α} (fits : Fits key mark n q) (here : x ∈ q) (out : p x = false) :
    (q.filter p).length < 8 :=
  (List.length_filter_lt_length_iff_exists.mpr ⟨x, here, by simp [out]⟩).trans_le fits.room

end

/-! ### The chime set -/

/-- The requests fit the set, with at most `n` SOUNDING. -/
def RequestsFit (n : Nat) (s : State) : Prop :=
  Fits (fun r : ChimeRequest => r.source) (fun r => r.sounding) n s.chime.requests

theorem chimeSetWithin_iff {s : State} : chimeSetWithin s.chime = true ↔ RequestsFit 1 s := by
  simp only [chimeSetWithin, atMostOne, Bool.and_eq_true, decide_eq_true_eq, distinct_iff]
  exact ⟨fun ⟨⟨room, sources⟩, sounding⟩ => ⟨room, sources, sounding⟩,
    fun ⟨room, sources, sounding⟩ => ⟨⟨room, sources⟩, sounding⟩⟩

theorem RequestsFit.of_same {n : Nat} {s t : State} (fit : RequestsFit n s) (same : t.chime = s.chime) :
    RequestsFit n t := by
  unfold RequestsFit
  rw [same]
  exact fit

/-- With no request SOUNDING the set fits with none. -/
theorem RequestsFit.silent {n : Nat} {s : State} (fit : RequestsFit n s) (silent : soundingRequest s = none) :
    RequestsFit 0 s :=
  Fits.unmarked fit fun r here => by simpa using List.find?_eq_none.mp silent r here

theorem releaseOutput_fit {n : Nat} {s : State} (fit : RequestsFit n s) : RequestsFit 0 (releaseOutput s) :=
  Fits.clear fit (fun _ => rfl) fun _ => rfl

theorem startSounding_fit (r : ChimeRequest) {s : State} (silent : RequestsFit 0 s) :
    RequestsFit 1 (startSounding r s) :=
  Fits.mark_key (k := r.source) silent (fun x => by split <;> rfl) fun x other => if_neg other

theorem startBest_fit {s : State} (silent : RequestsFit 0 s) : RequestsFit 1 (startBest s) := by
  unfold startBest
  split
  · exact startSounding_fit _ silent
  · exact Fits.weaken silent

theorem arbiterDecide_fit {s : State} (fit : RequestsFit 1 s) : RequestsFit 1 (arbiterDecide s) := by
  unfold arbiterDecide
  split
  · split
    · exact startBest_fit (fit.silent ‹_›)
    · split
      · exact fit
      · split
        · exact startBest_fit (releaseOutput_fit fit)
        · exact fit
  · exact fit

theorem reportSource_chime (before after : State) : (reportSource before after).chime = after.chime :=
  (reportSource_only before after).chime (by decide)

theorem withArbiter_fit {change : State → State} {s : State} (fit : RequestsFit 1 (change s)) :
    RequestsFit 1 (withArbiter change s) :=
  (arbiterDecide_fit fit).of_same (reportSource_chime s _)

/-- The output is released where the source sounds. -/
theorem released_fit {n : Nat} (src : ChimeSource) {s : State} (fit : RequestsFit n s) :
    RequestsFit n (if sourceSounds src s then releaseOutput s else s) := by
  split
  · exact Fits.weaken (releaseOutput_fit fit)
  · exact fit

theorem replaceRequest_fit {n : Nat} (src : ChimeSource) (pat : ChimePattern) (prio reps : Nat) {s : State}
    (fit : RequestsFit n s) : RequestsFit n (replaceRequest src pat prio reps s) :=
  Fits.map (released_fit src fit) (fun r => by split <;> rfl) fun r => by split <;> exact id

theorem countRepetition_fit {n : Nat} (src : ChimeSource) {s : State} (fit : RequestsFit n s) :
    RequestsFit n (countRepetition src s) :=
  Fits.map fit (fun r => by split <;> rfl) fun r => by split <;> exact id

theorem removeRequest_fit {n : Nat} (src : ChimeSource) {s : State} (fit : RequestsFit n s) :
    RequestsFit n (removeRequest src s) :=
  Fits.sublist (released_fit src fit) List.filter_sublist

/-- The SOUNDING request leaves a silent set. -/
theorem removeRequest_sounding_fit {n : Nat} {src : ChimeSource} {s : State} (sounds : soundingSource s = some src)
    (fit : RequestsFit n s) : RequestsFit 0 (removeRequest src s) := by
  have released : (if sourceSounds src s then releaseOutput s else s) = releaseOutput s :=
    if_pos (by simpa [sourceSounds] using sounds)
  unfold removeRequest
  rw [released]
  exact Fits.sublist (releaseOutput_fit fit) List.filter_sublist

theorem sourcePresent_false_iff {src : ChimeSource} {q : List ChimeRequest} :
    sourcePresent src q = false ↔ ∀ r ∈ q, r.source ≠ src := by
  simp [sourcePresent]

theorem joinRequest_fit {n : Nat} {src : ChimeSource} (pat : ChimePattern) (prio reps : Nat) {s : State}
    (fit : RequestsFit n s) (room : s.chime.requests.length < 8)
    (new : ∀ r ∈ s.chime.requests, r.source ≠ src) : RequestsFit n (joinRequest src pat prio reps s) :=
  Fits.join fit room new rfl

/-- Every request of the set after a removal was there before, under its source. -/
theorem mem_removeRequest {src : ChimeSource} {s : State} {r : ChimeRequest}
    (here : r ∈ (removeRequest src s).chime.requests) :
    r.source ≠ src ∧ ∃ x ∈ s.chime.requests, x.source = r.source := by
  obtain ⟨there, other⟩ := List.mem_filter.mp here
  refine ⟨by simpa using other, ?_⟩
  split at there
  · obtain ⟨x, before, rfl⟩ := List.mem_map.mp there
    exact ⟨x, before, rfl⟩
  · exact ⟨r, there, rfl⟩

theorem removeRequest_room {n : Nat} {s : State} {w : ChimeRequest} (fit : RequestsFit n s)
    (here : w ∈ s.chime.requests) : (removeRequest w.source s).chime.requests.length < 8 := by
  have waiting : ∃ x ∈ (if sourceSounds w.source s then releaseOutput s else s).chime.requests,
      x.source = w.source := by
    split
    · exact ⟨_, List.mem_map_of_mem here, rfl⟩
    · exact ⟨w, here, rfl⟩
  obtain ⟨x, there, same⟩ := waiting
  exact Fits.length_filter_lt (released_fit w.source fit) there (by simp [same])

/-- A full set whose last request makes room keeps to its bounds. -/
theorem displace_fit {n : Nat} {src : ChimeSource} (pat : ChimePattern) (prio reps : Nat) {s : State} {w : ChimeRequest}
    (fit : RequestsFit n s) (absent : sourcePresent src s.chime.requests = false)
    (worst : worstRequest s.chime.requests = some w) :
    RequestsFit n (joinRequest src pat prio reps (removeRequest w.source s)) := by
  refine joinRequest_fit pat prio reps (removeRequest_fit w.source fit)
    (removeRequest_room fit (worstRequest_some worst).1) fun r here => ?_
  obtain ⟨_, x, there, same⟩ := mem_removeRequest here
  exact same ▸ sourcePresent_false_iff.mp absent x there

theorem chimePost_fit (src : ChimeSource) (pat : ChimePattern) (prio reps : Nat) {s : State} (fit : RequestsFit 1 s) :
    RequestsFit 1 (chimePost src pat prio reps s).2 := by
  rcases chimePost_cases src pat prio reps s with ⟨_, post⟩ | ⟨_, _, post⟩ | ⟨_, absent, room, post⟩
    | ⟨w, _, absent, _, worst, _, post⟩ | ⟨_, _, _, post⟩ <;> rw [post]
  · exact fit
  · exact withArbiter_fit (replaceRequest_fit src pat prio reps fit)
  · exact withArbiter_fit (joinRequest_fit pat prio reps fit room (sourcePresent_false_iff.mp absent))
  · exact withArbiter_fit (change := fun t => joinRequest src pat prio reps (removeRequest w.source t))
      (displace_fit pat prio reps fit absent worst)
  · exact fit

theorem goOnInto_fit (r : ChimeRequest) (i : Nat) {s : State} (fit : RequestsFit 1 s) :
    RequestsFit 1 (goOnInto r i s) := by
  unfold goOnInto
  split
  · exact fit
  · exact startBest_fit (releaseOutput_fit fit)

theorem endElement_fit {r : ChimeRequest} {s : State} (sounding : soundingRequest s = some r) (fit : RequestsFit 1 s) :
    RequestsFit 1 (endElement r s) := by
  unfold endElement
  dsimp only
  split
  · exact goOnInto_fit r _ fit
  · split
    · split
      · exact startBest_fit (removeRequest_sounding_fit (by simp [soundingSource, sounding]) fit)
      · exact goOnInto_fit r _ (countRepetition_fit r.source fit)
    · exact goOnInto_fit r 0 fit

/-! ### The message queue -/

/-- The records fit the queue, with at most `n` SHOWING. -/
def RecordsFit (n : Nat) (s : State) : Prop :=
  Fits (fun r : MsgRecord => r.origin) (fun r => r.showing) n s.msg.queue

/-- A record SHOWS unless the queue is empty. -/
def ShowsOne (s : State) : Prop := s.msg.queue = [] ∨ ∃ r ∈ s.msg.queue, r.showing = true

theorem messagesWithin_iff {s : State} : messagesWithin s.msg = true ↔ RecordsFit 1 s ∧ ShowsOne s := by
  have shown : (∃ r ∈ s.msg.queue, r.showing = true) ↔ 0 < s.msg.queue.countP (fun r => r.showing) :=
    List.countP_pos_iff.symm
  simp only [messagesWithin, Bool.and_eq_true, Bool.or_eq_true, decide_eq_true_eq, distinct_iff, List.isEmpty_iff,
    ShowsOne, shown]
  constructor
  · rintro ⟨⟨room, origins⟩, empty | one⟩
    · exact ⟨⟨room, origins, by simp [empty]⟩, .inl empty⟩
    · exact ⟨⟨room, origins, one.le⟩, .inr (by omega)⟩
  · rintro ⟨⟨room, origins, atMost⟩, empty | some_⟩
    · exact ⟨⟨room, origins⟩, .inl empty⟩
    · exact ⟨⟨room, origins⟩, .inr (by omega)⟩

theorem RecordsFit.of_same {n : Nat} {s t : State} (fit : RecordsFit n s) (same : t.msg = s.msg) : RecordsFit n t := by
  unfold RecordsFit
  rw [same]
  exact fit

theorem backToWaiting_fit {s : State} (fit : RecordsFit 1 s) : RecordsFit 0 (backToWaiting s) := by
  refine Fits.clear fit (fun x => ?_) fun x => ?_
  · split <;> rfl
  · split
    · rfl
    · simpa using ‹¬x.showing = true›

/-- Of a queue with none SHOWING a record of it takes the display. -/
theorem becomeShowing_within {r : MsgRecord} {s : State} (dark : RecordsFit 0 s)
    (listed : ∃ x ∈ s.msg.queue, x.origin = r.origin) : messagesWithin (becomeShowing r s).msg = true := by
  let shows : MsgRecord → MsgRecord := fun x =>
    if x.origin = r.origin then { x with showing := true, since := s.now } else x
  have kept : ∀ t, (wakeDisplay (leaveSetMode (closeReview t))).msg = t.msg := fun t =>
    (wakeDisplay_only _).msg (by decide)
  have queue : (becomeShowing r s).msg.queue = s.msg.queue.map shows := congrArg Messages.queue (kept _)
  refine messagesWithin_iff.mpr ⟨?_, .inr ?_⟩
  · unfold RecordsFit
    rw [queue]
    refine Fits.mark_key (k := r.origin) dark (fun x => ?_) fun x other => if_neg other
    dsimp only [shows]
    split <;> rfl
  · obtain ⟨x, here, origin⟩ := listed
    rw [queue]
    exact ⟨shows x, List.mem_map_of_mem here, by simp [shows, origin]⟩

/-- A selection gives a queue that fits one SHOWING record, unless it is empty (09 R143). -/
theorem select_within {s : State} (fit : RecordsFit 1 s) : messagesWithin (select s).msg = true := by
  unfold select
  split
  case h_1 w dark best =>
    have none_ : ∀ x ∈ s.msg.queue, x.showing = false := fun x here => by simpa using List.find?_eq_none.mp dark x here
    exact becomeShowing_within (Fits.unmarked fit none_) ⟨w, (bestWaiting_some best).1, rfl⟩
  case h_2 r w shows best =>
    split
    · obtain ⟨here, waiting, _⟩ := bestWaiting_some best
      refine becomeShowing_within (backToWaiting_fit fit) ⟨w, ?_, rfl⟩
      exact List.mem_map.mpr ⟨w, here, by simp [waiting]⟩
    · exact messagesWithin_iff.mpr ⟨fit, .inr ⟨r, List.mem_of_find?_eq_some shows, List.find?_some shows⟩⟩
  case h_3 none_ =>
    have all := bestWaiting_none.mp none_
    refine messagesWithin_iff.mpr ⟨fit, ?_⟩
    cases queue : s.msg.queue with
    | nil => exact .inl queue
    | cons r rest => exact .inr ⟨r, by simp [queue], all r (by simp [queue])⟩

/-- The record dropped for a better one is in the queue. -/
theorem worstRecord_mem : ∀ {q : List MsgRecord} {w : MsgRecord}, worstRecord q = some w → w ∈ q
  | [], _, worst => by simp [worstRecord] at worst
  | r :: rest, w, worst => by
    unfold worstRecord at worst
    split at worst
    · cases worst
      exact List.mem_cons_self
    · rename_i v some_rest
      split at worst
      · cases worst
        exact List.mem_cons_self
      · cases worst
        exact List.mem_cons_of_mem _ (worstRecord_mem some_rest)

theorem originPresent_false_iff {o : MsgOrigin} {q : List MsgRecord} :
    originPresent o q = false ↔ ∀ r ∈ q, r.origin ≠ o := by
  simp [originPresent]

theorem replaceRecord_fit {n : Nat} (o : MsgOrigin) (x : Text) (prio : Nat) (mx : Option Nat) {s : State}
    (fit : RecordsFit n s) : RecordsFit n (replaceRecord o x prio mx s) :=
  Fits.map fit (fun r => by split <;> rfl) fun r => by split <;> exact id

theorem joinRecord_fit {n : Nat} {o : MsgOrigin} (x : Text) (prio : Nat) (mx : Option Nat) {s : State}
    (fit : RecordsFit n s) (room : s.msg.queue.length < 8) (new : ∀ r ∈ s.msg.queue, r.origin ≠ o) :
    RecordsFit n (joinRecord o x prio mx s) :=
  Fits.join fit room new rfl

theorem dropRecord_fit {n : Nat} (o : MsgOrigin) {s : State} (fit : RecordsFit n s) : RecordsFit n (dropRecord o s) :=
  Fits.sublist fit List.filter_sublist

theorem msgPost_within (o : MsgOrigin) (x : Text) (prio : Nat) (mx : Option Nat) {s : State}
    (within : messagesWithin s.msg = true) : messagesWithin (msgPost o x prio mx s).2.msg = true := by
  obtain ⟨fit, _⟩ := messagesWithin_iff.mp within
  rcases msgPost_cases o x prio mx s with ⟨_, post⟩ | ⟨absent, room, post⟩ | ⟨w, absent, _, worst, _, post⟩
    | ⟨_, _, post⟩ <;> rw [post]
  · exact select_within (replaceRecord_fit o x prio mx fit)
  · exact select_within (joinRecord_fit x prio mx fit room (originPresent_false_iff.mp absent))
  · refine select_within (joinRecord_fit x prio mx (dropRecord_fit w.origin fit) ?_ fun r here => ?_)
    · exact Fits.length_filter_lt fit (worstRecord_mem worst) (by simp)
    · exact originPresent_false_iff.mp absent r (List.mem_filter.mp here).1
  · exact within

theorem removeRecord_within (o : MsgOrigin) {s : State} (within : messagesWithin s.msg = true) :
    messagesWithin (removeRecord o s).msg = true := by
  unfold removeRecord
  split
  · exact select_within (dropRecord_fit o (messagesWithin_iff.mp within).1)
  · exact within

end Sys2Proof.Machine
end

section
/-! PROOFS. Chime set and message queue, operation by operation: the relation of two states that keeps the bounds of
both, and what the posts, the reminders, the warnings, the reports, the power states and the keys do to it. -/

namespace Sys2Proof.Machine

/-! ### The relation -/

/-- The chime set and the message queue keep to their bounds from `s` to `t`. -/
structure SetsKept (s t : State) : Prop where
  chimes : RequestsFit 1 s → RequestsFit 1 t
  messages : messagesWithin s.msg = true → messagesWithin t.msg = true

theorem SetsKept.refl (s : State) : SetsKept s s := ⟨id, id⟩

theorem SetsKept.trans {s t u : State} (h : SetsKept s t) (k : SetsKept t u) : SetsKept s u :=
  ⟨k.chimes ∘ h.chimes, k.messages ∘ h.messages⟩

theorem SetsKept.ite {c : Prop} [Decidable c] {s t u : State} (h : SetsKept s t) (k : SetsKept s u) :
    SetsKept s (if c then t else u) := by
  split <;> assumption

theorem SetsKept.foldl {α : Type} {f : State → α → State} (h : ∀ t a, SetsKept t (f t a)) :
    ∀ (l : List α) (s : State), SetsKept s (l.foldl f s)
  | [], s => .refl s
  | a :: rest, s => (h s a).trans (SetsKept.foldl h rest (f s a))

/-- An operation of the chime set that leaves the messages. -/
theorem SetsKept.of_chime {bs : List Block} {s t : State} (only : OnlyIn bs s t)
    (quiet : bs.all (fun b => b ≠ .msg) = true) (kept : RequestsFit 1 s → RequestsFit 1 t) : SetsKept s t :=
  ⟨kept, fun within => (only.msg fun inside => by simpa using List.all_eq_true.mp quiet .msg inside).symm ▸ within⟩

/-- An operation of the message queue that leaves the chime set. -/
theorem SetsKept.of_msg {bs : List Block} {s t : State} (only : OnlyIn bs s t)
    (quiet : bs.all (fun b => b ≠ .chime) = true)
    (kept : messagesWithin s.msg = true → messagesWithin t.msg = true) : SetsKept s t :=
  ⟨fun fit => fit.of_same (only.chime fun inside => by simpa using List.all_eq_true.mp quiet .chime inside), kept⟩

/-- An operation that leaves both. -/
theorem SetsKept.of_only {bs : List Block} {s t : State} (only : OnlyIn bs s t)
    (quiet : bs.all (fun b => b ≠ .chime ∧ b ≠ .msg) = true) : SetsKept s t := by
  have out : ∀ b ∈ bs, b ≠ .chime ∧ b ≠ .msg := by simpa using quiet
  exact ⟨fun fit => fit.of_same (only.chime fun inside => (out _ inside).1 rfl),
    fun within => (only.msg fun inside => (out _ inside).2 rfl).symm ▸ within⟩

/-- An operation that empties both. -/
theorem SetsKept.of_empty {s t : State} (chimes : t.chime.requests = []) (messages : t.msg.queue = []) :
    SetsKept s t := by
  refine ⟨fun _ => ?_, fun _ => messagesWithin_iff.mpr ⟨?_, .inl messages⟩⟩
  · unfold RequestsFit
    rw [chimes]
    exact .nil
  · unfold RecordsFit
    rw [messages]
    exact .nil

theorem SetsKept.settled {s t : State} (h : SetsKept s t) : SetsKept s (settled t) :=
  h.trans (.of_only (settled_only t) rfl)

/-! ### Posts and withdrawals -/

theorem withArbiter_sets {change : State → State} (only : ∀ t, OnlyIn [.chime] t (change t))
    (kept : ∀ t, RequestsFit 1 t → RequestsFit 1 (change t)) (s : State) : SetsKept s (withArbiter change s) :=
  .of_chime (withArbiter_only only s) rfl fun fit => withArbiter_fit (kept s fit)

theorem withdrawChime_sets (src : ChimeSource) (s : State) : SetsKept s (withdrawChime src s) :=
  .ite (withArbiter_sets (removeRequest_only src) (fun _ => removeRequest_fit src) s) (.refl s)

theorem hushChanged_sets (s : State) : SetsKept s (hushChanged s) :=
  withArbiter_sets (fun t => .refl _ t) (fun _ => id) s

theorem postChime_sets (src : ChimeSource) (pat : ChimePattern) (prio reps : Nat) (s : State) :
    SetsKept s (postChime src pat prio reps s).2 := by
  have post : SetsKept s (chimePost src pat prio reps s).2 :=
    .of_chime (chimePost_only src pat prio reps s) rfl (chimePost_fit src pat prio reps)
  unfold postChime
  split <;> rename_i taken <;> rw [taken] at post
  · exact post
  · exact post
  · exact post.trans (.of_only (chimeDropped_only _ _) rfl)

theorem msgPost_sets (o : MsgOrigin) (x : Text) (prio : Nat) (mx : Option Nat) (s : State) :
    SetsKept s (msgPost o x prio mx s).2 :=
  .of_msg (msgPost_only o x prio mx s) rfl (msgPost_within o x prio mx)

theorem removeRecord_sets (o : MsgOrigin) (s : State) : SetsKept s (removeRecord o s) :=
  .of_msg (removeRecord_only o s) rfl (removeRecord_within o)

/-! ### Reminders and messages -/

theorem postReminder_sets (i : Nat) (s : State) : SetsKept s (postReminder i s) := by
  have post := msgPost_sets .reminder (.service (itemOf s i).state i) 5 (some 4) s
  unfold postReminder
  split <;> rename_i taken <;> rw [taken] at post <;> exact post.trans (.of_only (only_service _ _) rfl)

theorem setCursor_sets (next : Option Nat) (s : State) : SetsKept s (setCursor next s) := by
  unfold setCursor
  split
  · exact SetsKept.trans (.of_only (only_service s _) rfl) (postReminder_sets _ _)
  · exact .of_only (only_service s _) rfl

theorem advanceReminder_sets (s : State) : SetsKept s (advanceReminder s) := by
  unfold advanceReminder
  split
  · exact setCursor_sets _ s
  · exact .refl s

theorem endReminders_sets (s : State) : SetsKept s (endReminders s) :=
  SetsKept.trans (.of_only (only_service s _) rfl) (removeRecord_sets .reminder _)

theorem messageDropped_sets (o : MsgOrigin) (s : State) : SetsKept s (messageDropped o s) := by
  unfold messageDropped
  split
  · exact .of_only (modifyWarn_only _ _ s) rfl
  · exact advanceReminder_sets s
  · exact .refl s

theorem postMessage_sets (o : MsgOrigin) (x : Text) (prio : Nat) (mx : Option Nat) (s : State) :
    SetsKept s (postMessage o x prio mx s).2 := by
  have post := msgPost_sets o x prio mx s
  unfold postMessage
  split <;> rename_i taken <;> rw [taken] at post
  · exact post
  · exact post
  · exact post.trans (messageDropped_sets _ _)

theorem postNote_sets (o : MsgOrigin) (x : Text) (prio : Nat) (mx : Option Nat) (s : State) :
    SetsKept s (postNote o x prio mx s) := postMessage_sets o x prio mx s

theorem departRecord_sets (o : MsgOrigin) (s : State) : SetsKept s (departRecord o s) := by
  unfold departRecord
  split
  · exact (removeRecord_sets .reminder s).trans (advanceReminder_sets _)
  · exact removeRecord_sets o s

theorem showTimeOver_sets (s : State) : SetsKept s (showTimeOver s) := by
  unfold showTimeOver
  split
  · exact departRecord_sets _ s
  · exact .refl s

theorem repost_sets (s : State) : SetsKept s (repost s) := by
  unfold repost
  split
  · exact .ite (postReminder_sets _ s) (.refl s)
  · exact .refl s

/-! ### Service items and journeys -/

theorem cursorAfterReset_sets (i : Nat) (s : State) : SetsKept s (cursorAfterReset i s) := by
  unfold cursorAfterReset
  split
  · split
    · exact setCursor_sets _ s
    · exact endReminders_sets s
  · exact .refl s

theorem resetItem_sets (s : State) (i : Nat) : SetsKept s (resetItem s i) :=
  (SetsKept.trans (.of_only (modifyItem_only i _ s) rfl) (.of_only (markItem_only i _) rfl)).trans
    (cursorAfterReset_sets i _)

theorem serviceResetOp_sets (item : Nat) (s : State) : SetsKept s (serviceResetOp item s) :=
  .ite ((SetsKept.foldl resetItem_sets _ s).trans (postNote_sets _ _ _ _ _))
    ((resetItem_sets s item).trans (postNote_sets _ _ _ _ _))

theorem openJourneyOp_sets (s : State) : SetsKept s (openJourneyOp s) :=
  (SetsKept.trans (.of_only (only_journey s _) rfl) (.of_only (markOpenSlot_only _) rfl)).trans
    (postNote_sets _ _ _ _ _)

theorem closeJourneyOp_sets (j : Journey) (s : State) : SetsKept s (closeJourneyOp j s) := by
  have offered : ∀ r t, SetsKept t (offerRecord r t) := fun r t => .of_only (offerRecord_only r t) rfl
  have closed : ∀ x, SetsKept s { s with journey := x } := fun x => .of_only (only_journey s x) rfl
  exact ((((closed _).trans (offered _ _)).trans (offered _ _)).trans (offered _ _)).trans (postNote_sets _ _ _ _ _)

theorem clearJourneys_sets (s : State) : SetsKept s (clearJourneys s) :=
  (SetsKept.trans (.of_only (only_journey s _) rfl)
    (.foldl (fun t p => .of_only (offerRecord_only (.position p) t) rfl) _ _)).trans (postNote_sets _ _ _ _ _)

/-! ### Warnings -/

theorem postWarnChime_sets (n : Nat) (s : State) : SetsKept s (postWarnChime n s) := by
  unfold postWarnChime
  split
  · rename_i pat reps _
    have post := postChime_sets (.warning n) pat (warnPriority n) reps s
    split <;> rename_i taken <;> rw [taken] at post
    · exact post.trans (.of_only (modifyWarn_only _ _ _) rfl)
    · exact post
  · exact .of_only (modifyWarn_only _ _ s) rfl

theorem postWarnMessage_sets (n : Nat) (s : State) : SetsKept s (postWarnMessage n s) := by
  have post := postMessage_sets (.warning n) (.warning n) (warnPriority n) none s
  unfold postWarnMessage
  split <;> rename_i taken <;> rw [taken] at post
  · exact post.trans (.of_only (modifyWarn_only _ _ _) rfl)
  · exact post

theorem postOutstanding_sets (n : Nat) (s : State) : SetsKept s (postOutstanding n s) := by
  have chime : SetsKept s (if (warnEntry s n).chimeOut then postWarnChime n s else s) :=
    .ite (postWarnChime_sets n s) (.refl s)
  exact (chime.trans (.ite (postWarnMessage_sets n _) (.refl _))).trans (.of_only (modifyWarn_only n _ _) rfl)

theorem changeWarn_sets (n : Nat) (f : WarnEntry → WarnEntry) (s : State) : SetsKept s (changeWarn n f s) :=
  .of_only (changeWarn_only n f s) rfl

theorem enterActive_sets (n c : Nat) (s : State) : SetsKept s (enterActive n c s) :=
  .ite ((changeWarn_sets _ _ s).trans (postOutstanding_sets n _)) (changeWarn_sets _ _ s)

/-- The posts of an entry are withdrawn after its change. -/
theorem withdrawn_sets (n : Nat) (f : WarnEntry → WarnEntry) (s : State) :
    SetsKept s (removeRecord (.warning n) (withdrawChime (.warning n) (changeWarn n f s))) :=
  ((changeWarn_sets n f s).trans (withdrawChime_sets _ _)).trans (removeRecord_sets _ _)

theorem enterIdle_sets (n : Nat) (s : State) : SetsKept s (enterIdle n s) := withdrawn_sets n _ s

theorem acknowledge_sets (n : Nat) (s : State) : SetsKept s (acknowledge n s) := .ite (withdrawn_sets n _ s) (.refl s)

theorem evaluatedTrue_sets (n : Nat) (s : State) : SetsKept s (evaluatedTrue n s) := by
  unfold evaluatedTrue
  dsimp only
  split
  case h_1 => exact .ite (enterActive_sets _ _ s) (changeWarn_sets _ _ s)
  case h_2 => exact .ite (enterActive_sets _ _ s) (changeWarn_sets _ _ s)
  case h_3 => exact .refl s
  case h_4 => exact .ite (enterActive_sets _ _ s) (.refl s)
  case h_5 => exact changeWarn_sets _ _ s

theorem evaluatedFalse_sets (n : Nat) (s : State) : SetsKept s (evaluatedFalse n s) := by
  unfold evaluatedFalse
  dsimp only
  split
  case h_1 => exact .refl s
  case h_2 => exact changeWarn_sets _ _ s
  all_goals exact .ite (enterIdle_sets _ s) (changeWarn_sets _ _ s)

theorem evaluate_sets (s : State) (n : Nat) : SetsKept s (evaluate s n) := by
  unfold evaluate
  dsimp only
  split
  · split
    · exact .ite (evaluatedTrue_sets n s) (evaluatedFalse_sets n s)
    · exact .refl s
  · exact .refl s

theorem applyGates_sets (s : State) : SetsKept s (applyGates s) :=
  .foldl (fun t n => .ite (enterIdle_sets n t) (.refl t)) _ s

theorem evaluateReport_sets (k : ReportKind) (s : State) : SetsKept s (evaluateReport k s) := .foldl evaluate_sets _ s

/-! ### Reports -/

theorem hearFrame_sets {handle : State → State} (handles : ∀ t, SetsKept t (handle t)) (fits : Bool) (h : Heard)
    (s : State) : SetsKept s (hearFrame fits h handle s) := by
  unfold hearFrame
  split
  · exact .refl s
  · exact .refl s
  · exact .of_only (noteClash_only s) rfl
  · exact SetsKept.trans (.of_only (noteHeard_only h s) rfl) (handles _)

theorem rearCall_sets (s : State) : SetsKept s (rearCall s) :=
  (postChime_sets _ _ _ _ s).trans (postNote_sets _ _ _ _ _)

theorem consumers_sets (k : ReportKind) (h : Heard) (d e : Nat) (call : Bool) (s : State) :
    SetsKept s (consumers k h d e call s) := by
  cases k
  case engine =>
    exact (SetsKept.trans (.of_only (followEngine_only _ _ s) rfl) (applyGates_sets _)).trans (evaluateReport_sets _ _)
  case fuelFlow => exact .of_only (consumers_only .fuelFlow h d e call s) rfl
  case chassis =>
    have moved : SetsKept s (issue pulseDelta d s) := .of_only (issue_only pulseDelta_only d s) rfl
    have speeds := ((moved.trans (.of_only (followStandstill_only (slotAt h.slots 2) _) rfl)).trans
      (.of_only (holdSpeed_only (slotAt h.slots 2) _) rfl)).trans
        (.of_only (takeGateSpeed_only h.ready (slotAt h.slots 2) _) rfl)
    exact (speeds.trans (applyGates_sets _)).trans (evaluateReport_sets _ _)
  case tank => exact .of_only (consumers_only .tank h d e call s) rfl
  case bodyDoors => exact evaluateReport_sets _ s
  case bodyLamps => exact evaluateReport_sets _ s
  case rearConsole => exact SetsKept.trans (.ite (rearCall_sets s) (.refl s)) (hushChanged_sets _)

theorem offerReport_sets (k : ReportKind) (h : Heard) (s : State) : SetsKept s (offerReport k h s) := by
  unfold offerReport
  split
  · exact SetsKept.trans (.of_only (only_bus s _) rfl) (consumers_sets k h _ _ _ _)
  · exact .of_only (markRival_only k h.source s) rfl
  · exact .refl s

theorem staleEffects_sets (k : ReportKind) (s : State) : SetsKept s (staleEffects k s) := by
  unfold staleEffects
  split
  · exact .of_only (clearStandstill_only s) rfl
  · exact .of_only (clearPump_only s) rfl
  · exact hushChanged_sets s
  · exact .refl s

theorem expireStale_sets (k : ReportKind) (s : State) : SetsKept s (expireStale k s) := by
  unfold expireStale
  split
  · exact .ite ((SetsKept.trans (.of_only (only_bus s _) rfl) (staleEffects_sets k _)).trans
      (.of_only (offerOwned_only _ _) rfl)) (.refl s)
  · exact .refl s

/-! ### Power states -/

theorem enterRun_sets (s : State) : SetsKept s (enterRun s) := by
  have begun : SetsKept s (runBegun s) := ⟨id, id⟩
  exact begun.trans (applyGates_sets _)

theorem watchBegun_sets (g : Gauges) (s : State) : SetsKept s (watchBegun g s) := ⟨id, id⟩

theorem startInto_sets (toRun : Bool) (s : State) : SetsKept s (startInto toRun s) :=
  .ite (enterRun_sets s) ((watchBegun_sets _ s).trans (applyGates_sets _))

theorem enterWatch_sets (s : State) : SetsKept s (enterWatch s) :=
  (((watchBegun_sets _ s).trans (endReminders_sets _)).trans (applyGates_sets _)).trans
    (.of_only (offerStores_only _) rfl)

theorem enterSleep_sets (s : State) : SetsKept s (enterSleep s) := .of_empty rfl rfl

theorem wakeBlocks_sets (warm : Bool) (kind : Nat) (s : State) : SetsKept s (wakeBlocks warm kind s) :=
  .of_empty (congrArg Chime.requests (reportSource_chime _ _)) rfl

theorem wakeStart_sets (toRun : Bool) (s : State) : SetsKept s (wakeStart toRun s) := by
  have woken := (wakeBlocks_sets false 1 s).trans (startInto_sets toRun _)
  have stored := (woken.trans (.of_only (reofferAll_only _) rfl)).trans (.of_only (kickWriter_only _) rfl)
  exact stored.trans (.of_only (offerOwned_only .presence _) rfl)

theorem warmRestart_sets (s : State) : SetsKept s (warmRestart s) :=
  ((wakeBlocks_sets true 2 s).trans (startInto_sets _ _)).trans (.of_only (offerOwned_only .presence _) rfl)

theorem rosterRefresh_sets (s : State) : SetsKept s (rosterRefresh s) := by
  let unbound : State := { s with
    bus := { Bus.cold with heldSpeed := s.bus.heldSpeed, mirrorTimer := s.bus.mirrorTimer },
    port := { s.port with owed := s.port.owed.filter (fun o =>
      match o.1 with
      | .staleDemand _ => false
      | _ => true) } }
  have unbinds : SetsKept s unbound := ⟨id, id⟩
  have cleared := unbinds.trans (.of_only ((clearStandstill_only unbound).trans (clearPump_only _)) rfl)
  exact (cleared.trans (hushChanged_sets _)).trans (.of_only (offerOwned_only .rollCall _) rfl)

theorem endListen_sets (s : State) : SetsKept s (endListen s) :=
  (SetsKept.trans (.of_only (only_power s _) rfl) (startInto_sets _ _)).trans
    (.of_only (offerOwned_only .presence _) rfl)

theorem setIgn_sets (on : Bool) (s : State) : SetsKept s (setIgn on s) := .of_only (only_power s _) rfl

theorem ignitionOn_sets (s : State) : SetsKept s (ignitionOn s) := by
  have set := setIgn_sets true s
  unfold ignitionOn
  split
  · exact .refl s
  · exact set
  · exact set
  · exact (set.trans (enterRun_sets _)).settled
  · exact (set.trans (wakeStart_sets true _)).settled

theorem ignitionOff_sets (s : State) : SetsKept s (ignitionOff s) := by
  have set := setIgn_sets false s
  unfold ignitionOff
  split
  · exact .refl s
  · exact set
  · exact set
  · exact set
  · exact (set.trans (enterWatch_sets _)).settled

theorem pulseHeard_sets (s : State) : SetsKept s (pulseHeard s) := by
  have pulse : SetsKept s (pulseOnLine s) := .of_only (only_port s _) rfl
  unfold pulseHeard
  split
  · exact .refl s
  · exact (pulse.trans (wakeStart_sets _ _)).settled
  all_goals exact pulse

theorem keyWakes_sets (key : Key) (s : State) : SetsKept s (keyWakes key s) := by
  have wanted : ∀ (t : State) p k, SetsKept t { t with port := p, keys := k } := fun _ _ _ => ⟨id, id⟩
  exact (wakeStart_sets false s).trans (wanted _ _ _)

theorem silenceForDip_sets (s : State) : SetsKept s (silenceForDip s) :=
  .of_chime (silenceForDip_only s) rfl fun fit =>
    RequestsFit.of_same (Fits.weaken (releaseOutput_fit fit)) (reportSource_chime s _)

theorem dipInput_sets (input : DipInput) (s : State) : SetsKept s (dipInput input s) := by
  have active : ∀ (t : State) x, SetsKept t { t with power := x } := fun t x => .of_only (only_power t x) rfl
  have begun : ∀ t, SetsKept t (beginDip t) := fun t =>
    (((active t _).trans (silenceForDip_sets _)).trans (.of_only (only_nsp _ _) rfl)).trans (applyGates_sets _)
  exact .ite (active s _) ((active s _).trans (begun _))

theorem endDip_sets (s : State) : SetsKept s (endDip s) :=
  (SetsKept.trans (.of_only (only_power s _) rfl) (hushChanged_sets _)).trans (.of_only (dipFreesWriter_only _) rfl)

/-! ### Keys and the cadence -/

theorem acceptPress_sets {act : State → State} (acts : ∀ t, SetsKept t (act t)) (k : Key) (holds : State → KeyAction)
    (s : State) : SetsKept s (acceptPress k holds act s) := by
  have noted : ∀ t, SetsKept t (pressNoted t) := fun t =>
    SetsKept.trans (.of_only (wakeDisplay_only t) rfl) (postChime_sets _ _ _ _ _)
  refine .ite (.ite ?_ ?_) (.refl s)
  · exact (SetsKept.trans (.of_only (only_keys s _) rfl) (noted _)).trans (.of_only (holdKey_only _ _ _) rfl)
  · exact (((noted s).trans (.of_only (keepSetMode_only _) rfl)).trans (acts _)).trans
      (.of_only (holdKey_only _ _ _) rfl)

theorem noteRecord_sets (o : MsgOrigin) (s : State) : SetsKept s (noteRecord o s) := by
  unfold noteRecord
  split
  · exact (acknowledge_sets _ s).trans (departRecord_sets _ _)
  · exact departRecord_sets o s

theorem noteAction_sets (s : State) : SetsKept s (noteAction s) := by
  unfold noteAction
  split
  · exact noteRecord_sets _ s
  · exact .of_only (moveReview_only s) rfl
  · exact .of_only (openReview_only s) rfl
  · exact SetsKept.trans (.of_only (leaveSetMode_only s) rfl) (.of_only (openReview_only _) rfl)

theorem journeyShort_sets (a : KeyAction) (s : State) : SetsKept s (journeyShort a s) := by
  unfold journeyShort
  split
  · exact .ite (.of_only (setReadout_only _ s) rfl) (openJourneyOp_sets s)
  · exact .refl s

theorem journeyLong_sets (s : State) : SetsKept s (journeyLong s) := by
  unfold journeyLong
  split
  · exact closeJourneyOp_sets _ s
  · exact openJourneyOp_sets s

theorem acceptRelease_sets {act : KeyAction → State → State} (acts : ∀ a t, SetsKept t (act a t)) (k : Key)
    (s : State) : SetsKept s (acceptRelease k act s) := by
  unfold acceptRelease
  split
  · exact .ite (SetsKept.trans (.of_only (holdKey_only _ _ s) rfl) (acts _ _)) (.refl s)
  · exact .refl s

theorem peerChime_sets (source : Nat) (pattern : ChimePattern) (reps : Nat) (s : State) :
    SetsKept s (peerChime source pattern reps s) :=
  .ite (withdrawChime_sets _ s) (postChime_sets _ _ _ _ s)

theorem elementOver_sets (s : State) : SetsKept s (elementOver s) := by
  unfold elementOver
  split
  · exact SetsKept.trans (.of_chime (endElement_only _ s) rfl (endElement_fit ‹_›))
      (.of_only (reportSource_only s _) rfl)
  · exact .refl s

end Sys2Proof.Machine
end

section
/-! PROOFS. Chime set and message queue of every command and every step, and the statement about their bounds (O7). -/

namespace Sys2Proof.Machine

/-! ### Lines and timers -/

theorem endAttempt_sets (act : TxEntry → Option TxEntry) (s : State) : SetsKept s (endAttempt act s) :=
  .of_only (endAttempt_only act s) rfl

theorem closeSlot_sets (e : TxEntry) (answer : Option Answer) (s : State) : SetsKept s (closeSlot e answer s) := by
  have ended := (endAttempt_sets (answerAct s.now answer) s).trans (.of_only (markSentWhole_only e.id.kind _) rfl)
  exact .ite (ended.trans (.of_only (modifyRoster_only _ _ _) rfl)) ended

theorem reoffer_sets (what : Reoffer) (s : State) : SetsKept s (reoffer what s) := by
  unfold reoffer
  split
  · exact .ite (.of_only (answerBits_only _ _ s) rfl) (.refl s)
  · exact .ite (.of_only (offerOwned_only _ s) rfl) (.refl s)

theorem mirrorPeriod_sets (s : State) : SetsKept s (mirrorPeriod s) := by
  have next : ∀ b, SetsKept s { s with bus := b } := fun b => .of_only (only_bus s b) rfl
  exact .ite ((next _).trans (.of_only (offerPeriodicMirror_only _) rfl)) (next _)

theorem stopPeriod_sets (s : State) : SetsKept s (stopPeriod s) := by
  have next : ∀ f, SetsKept s { s with fuel := f } := fun f => .of_only (only_fuel s f) rfl
  exact .ite ((next _).trans (.of_only (offerOwned_only _ _) rfl)) (next _)

theorem answerOperation_sets (answer : StoreAnswer) (s : State) : SetsKept s (answerOperation answer s) := by
  refine .ite ?_ (.of_only (answerWrite_only answer s) rfl)
  unfold answerLoad
  split
  · exact ⟨id, id⟩
  · exact .ite (.of_only (only_nsp s _) rfl) (.of_only (failLoad_only s) rfl)
  · exact .refl s

theorem completeTransfer_sets (s : State) : SetsKept s (completeTransfer s) := by
  unfold completeTransfer
  split
  · exact .ite (.of_only (only_disp s _) rfl) (.of_only (only_disp s _) rfl)
  · exact .refl s

/-! ### Every command -/

theorem dropHead_sets (s : State) : SetsKept s (dropHead s) := .of_only (dropHead_only s) rfl

/-- Every command keeps the bounds of the chime set and of the message queue. -/
theorem exec_sets (c : Instr) (s : State) : ∃ t, exec c s = .next t ∧ SetsKept s t := by
  cases c
  case standbySupplyUp => exact ⟨_, rfl, .ite (.refl s) (.of_empty rfl rfl)⟩
  case standbySupplyLoss => exact ⟨_, rfl, .ite (.of_empty rfl rfl) (.refl s)⟩
  case settleEnd => exact ⟨_, rfl, .ite ⟨id, id⟩ (.refl s)⟩
  case loadComplete =>
    exact ⟨_, rfl, .ite (.ite (.of_only (completeLoad_only s) rfl) (.of_only (failLoad_only s) rfl)) (.refl s)⟩
  case listenEnd => exact ⟨_, rfl, .ite (endListen_sets s).settled (.refl s)⟩
  case ignOn => exact ⟨_, rfl, ignitionOn_sets s⟩
  case ignOff => exact ⟨_, rfl, ignitionOff_sets s⟩
  case sleepTimerExpiry => exact ⟨_, rfl, .ite (enterSleep_sets s).settled (.refl s)⟩
  case wakePulseHeard => exact ⟨_, rfl, pulseHeard_sets s⟩
  case keyWake key => exact ⟨_, rfl, .ite (keyWakes_sets key s).settled (.refl s)⟩
  case supplyDipBegin input => exact ⟨_, rfl, .ite (dipInput_sets input s).settled (.refl s)⟩
  case dipInputsClear => exact ⟨_, rfl, .ite ⟨id, id⟩ (.refl s)⟩
  case supplyDipEnd => exact ⟨_, rfl, .ite (endDip_sets s).settled (.refl s)⟩
  case restartRequestRosterRefresh =>
    refine ⟨_, rfl, ?_⟩
    split
    · exact ((dropHead_sets s).trans (rosterRefresh_sets _)).settled
    · exact .refl s
  case restartRequestWarmRestart =>
    refine ⟨_, rfl, ?_⟩
    split
    · exact ((dropHead_sets s).trans (warmRestart_sets _)).settled
    · exact .refl s
  case reportArrival kind frame => exact ⟨_, rfl, (hearFrame_sets (offerReport_sets kind frame) _ frame s).settled⟩
  case rollCall frame => exact ⟨_, rfl, hearFrame_sets (fun t => .of_only (offerOwned_only .presence t) rfl) _ frame s⟩
  case presence frame => exact ⟨_, rfl, hearFrame_sets (fun t => .of_only (heardPresence_only frame t) rfl) _ frame s⟩
  case otherFrameHeard kind target frame => exact ⟨_, rfl, .ite (hearFrame_sets .refl _ frame s) (.refl s)⟩
  case ownAddressFrameHeard => exact ⟨_, rfl, .ite (.of_only (noteClash_only s) rfl) (.refl s)⟩
  case frameDiscarded cause =>
    refine ⟨_, rfl, .ite ?_ (.refl s)⟩
    cases cause
    case wakePulse => exact ⟨id, id⟩
    all_goals exact .refl s
  case addressedFrameAnswer kind frame =>
    exact ⟨_, rfl, hearFrame_sets (fun t => .of_only (answerHeard_only kind frame t) rfl) _ frame s⟩
  case demand =>
    refine ⟨_, rfl, ?_⟩
    split
    · exact (dropHead_sets s).trans (.of_only (takeDemand_only _ _ _ _) rfl)
    · exact .refl s
  case chimeRequest =>
    refine ⟨_, rfl, ?_⟩
    split
    · exact ((dropHead_sets s).trans (peerChime_sets _ _ _ _)).settled
    · exact .refl s
  case notice =>
    refine ⟨_, rfl, ?_⟩
    split
    · exact ((dropHead_sets s).trans (postNote_sets _ _ _ _ _)).settled
    · exact .refl s
  case serviceReset =>
    refine ⟨_, rfl, ?_⟩
    split
    · exact .ite ((dropHead_sets s).trans (serviceResetOp_sets _ _)).settled (dropHead_sets s)
    · exact .refl s
  case journeyClear =>
    refine ⟨_, rfl, ?_⟩
    split
    · exact .ite ((dropHead_sets s).trans (clearJourneys_sets _)).settled (dropHead_sets s)
    · exact .refl s
  case clockSet =>
    refine ⟨_, rfl, ?_⟩
    split
    · exact ((dropHead_sets s).trans (.of_only (setClock_only _ _) rfl)).settled
    · exact .refl s
  case attemptBegin => exact ⟨_, rfl, .of_only (beginAttempt_only s) rfl⟩
  case lostArbitration =>
    refine ⟨_, rfl, ?_⟩
    split
    · exact endAttempt_sets some s
    · exact .refl s
  case readbackFault =>
    refine ⟨_, rfl, ?_⟩
    split
    · exact (endAttempt_sets some s).trans (.of_only (countFault_only _) rfl)
    · exact .refl s
  case broadcastSentWhole =>
    refine ⟨_, rfl, ?_⟩
    split
    · exact .ite ((endAttempt_sets _ s).trans (.of_only (markSentWhole_only _ _) rfl)) (.refl s)
    · exact .refl s
  case answerSlotClose =>
    refine ⟨_, rfl, ?_⟩
    split
    · exact .ite (.refl s) (closeSlot_sets _ _ s)
    · exact .refl s
  case wakePulseEnd =>
    refine ⟨_, rfl, ?_⟩
    split
    · exact .refl s
    · exact .refl s
    all_goals exact ⟨id, id⟩
  case lineFaultPauseExpiry | retryDelayExpiry | holdOffExpiry => exact ⟨_, rfl, .of_only (only_port s _) rfl⟩
  case wakePulseSend => exact ⟨_, rfl, .ite (.of_only (only_port s _) rfl) (.refl s)⟩
  case ownerReoffer what => exact ⟨_, rfl, .ite (reoffer_sets what s) (.refl s)⟩
  case staleTimerExpiry kind => exact ⟨_, rfl, (expireStale_sets kind s).settled⟩
  case rosterTimerExpiry station => exact ⟨_, rfl, .of_only (modifyRoster_only station expireRoster s) rfl⟩
  case mirrorTimerExpiry => exact ⟨_, rfl, .ite (mirrorPeriod_sets s) (.refl s)⟩
  case dampingStep => exact ⟨_, rfl, .ite (.of_only (dampingPeriod_only s) rfl) (.refl s)⟩
  case coilOffTimerExpiry => exact ⟨_, rfl, .ite (.of_only (only_gauges s _) rfl) (.refl s)⟩
  case correctionTimerExpiry => exact ⟨_, rfl, .ite (SetsKept.of_only (correctionPeriod_only s) rfl).settled (.refl s)⟩
  case standstillTimerExpiry | pumpTimerExpiry => exact ⟨_, rfl, .ite (.of_only (only_fuel s _) rfl) (.refl s)⟩
  case transferStopTimerExpiry => exact ⟨_, rfl, .ite (stopPeriod_sets s) (.refl s)⟩
  case tripSecondTimerExpiry | instantSamplerExpiry =>
    exact ⟨_, rfl, .ite (SetsKept.of_only (only_trip s _) rfl).settled (.refl s)⟩
  case clockSecond => exact ⟨_, rfl, .ite (SetsKept.of_only (clockPeriod_only s) rfl).settled (.refl s)⟩
  case modePress =>
    exact ⟨_, rfl, (acceptPress_sets (fun t => .of_only (modeAction_only t) rfl) _ _ s).settled⟩
  case selectPress =>
    exact ⟨_, rfl, (acceptPress_sets (fun t => .of_only (selectAction_only t) rfl) _ _ s).settled⟩
  case resetPress =>
    exact ⟨_, rfl, (acceptPress_sets (fun t => .of_only (resetAction_only t) rfl) _ _ s).settled⟩
  case notePress => exact ⟨_, rfl, (acceptPress_sets noteAction_sets _ _ s).settled⟩
  case journeyPress =>
    exact ⟨_, rfl, (acceptPress_sets (fun t => .of_only (journeyAction_only t) rfl) _ _ s).settled⟩
  case journeyRelease => exact ⟨_, rfl, (acceptRelease_sets journeyShort_sets _ s).settled⟩
  case keyRelease key => exact ⟨_, rfl, .ite (.refl s) (acceptRelease_sets (fun _ t => .refl t) key s)⟩
  case journeyLongPress =>
    refine ⟨_, rfl, ?_⟩
    split
    · exact .ite (SetsKept.trans (.of_only (takeLong_only _ s) rfl) (journeyLong_sets _)).settled (.refl s)
    · exact .refl s
  case tripReset =>
    refine ⟨_, rfl, ?_⟩
    split
    · exact .ite (SetsKept.trans (.of_only (takeLong_only _ s) rfl) (.of_only (tripResetOp_only _ _) rfl)).settled
        (.refl s)
    · exact .refl s
  case serviceResetPress =>
    refine ⟨_, rfl, ?_⟩
    split
    · exact .ite (SetsKept.trans (.of_only (takeLong_only _ s) rfl) (.ite (serviceResetOp_sets _ _) (.refl _))).settled
        (.refl s)
    · exact .refl s
  case setModeTimeout | blinkTimerExpiry | journeyReadoutAlternate | displayTimerExpiry =>
    exact ⟨_, rfl, .ite (SetsKept.of_only (only_disp s _) rfl).settled (.refl s)⟩
  case displayTransferComplete => exact ⟨_, rfl, completeTransfer_sets s⟩
  case minimumShowTimeExpiry =>
    have selected : SetsKept s (select { s with msg := { s.msg with minTimer := none } }) :=
      .of_msg (OnlyIn.trans ((only_msg s _).mono (by decide)) (select_only _)) rfl fun within =>
        select_within (messagesWithin_iff.mp within).1
    exact ⟨_, rfl, .ite selected.settled (.refl s)⟩
  case maximumShowTimeExpiry => exact ⟨_, rfl, .ite (showTimeOver_sets s).settled (.refl s)⟩
  case reminderRepostTimerExpiry => exact ⟨_, rfl, .ite (repost_sets s).settled (.refl s)⟩
  case evaluationTimerExpiry =>
    exact ⟨_, rfl, .ite (SetsKept.trans (.of_only (only_warn s _) rfl) (.foldl evaluate_sets timedEntries _)).settled
      (.refl s)⟩
  case reOfferTimerExpiry entry => exact ⟨_, rfl, .ite (postOutstanding_sets entry s).settled (.refl s)⟩
  case reChimeTimerExpiry entry => exact ⟨_, rfl, .of_only (modifyWarn_only entry rechimeFalls s) rfl⟩
  case reviewTimerExpiry => exact ⟨_, rfl, .ite (SetsKept.of_only (moveReview_only s) rfl).settled (.refl s)⟩
  case flashTimerExpiry | staleGraceExpiry | engineRunningTimerExpiry =>
    exact ⟨_, rfl, .ite (.of_only (only_warn s _) rfl) (.refl s)⟩
  case lampProvingExpiry =>
    exact ⟨_, rfl, .ite (SetsKept.trans (.of_only (only_warn s _) rfl) (setCursor_sets _ _)).settled (.refl s)⟩
  case windowTimerExpiry =>
    exact ⟨_, rfl, .ite (SetsKept.trans (.of_only (only_warn s _) rfl) (applyGates_sets _)).settled (.refl s)⟩
  case elementEnd => exact ⟨_, rfl, .ite (elementOver_sets s).settled (.refl s)⟩
  case busyPollRetry answer => exact ⟨_, rfl, (answerOperation_sets answer s).settled⟩
  case failedWriteWaitExpiry => exact ⟨_, rfl, (SetsKept.of_only (endWriteWait_only s) rfl).settled⟩
  case writeComplete => exact ⟨_, rfl, (SetsKept.of_only (completeWrite_only s) rfl).settled⟩

/-- Every step keeps the bounds of the chime set and of the message queue. -/
theorem step_sets {s t : State} (stepped : step s = .next t) : SetsKept s t := by
  unfold step at stepped
  split at stepped
  · cases stepped
    exact ⟨id, id⟩
  · rename_i c rest _
    obtain ⟨u, carried, kept⟩ := exec_sets c { s with pending := rest }
    cases carried.symm.trans stepped
    have taken : SetsKept s { s with pending := rest } := ⟨id, id⟩
    exact taken.trans kept

end Sys2Proof.Machine

open Sys2Proof Sys2Proof.Machine

/-- Settles O7: the arbiter starts a request only where none sounds, a selection gives the display to one record alone,
and a post joins only where there is room and its key is new, so every command and every step keeps the bounds. -/
theorem chimesAndMessagesKeepTheirBounds : Obligations.ChimesAndMessagesKeepTheirBounds :=
  ⟨fun _ _ within stepped => chimeSetWithin_iff.mpr ((step_sets stepped).chimes (chimeSetWithin_iff.mp within)),
    fun _ _ within stepped => (step_sets stepped).messages within⟩
end

section
/-! PROOFS. Posts of peers: what a withdrawal leaves of the chime set (08 R136), and the statement about CHIME REQUEST
and NOTICE (O39). -/

namespace Sys2Proof.Machine

/-- A request kept has its source and its repetitions. -/
theorem RequestsKept.mem_figures {s t : State} (kept : RequestsKept s t) {r : ChimeRequest}
    (here : r ∈ t.chime.requests) : ∃ x ∈ s.chime.requests, x.source = r.source ∧ x.remaining = r.remaining := by
  obtain ⟨x, there, like⟩ := kept.mem here
  simp only [ChimeRequest.mk.injEq] at like
  exact ⟨x, there, like.1, like.2.2.2.1⟩

/-- After a withdrawal no request of the source is in the set (08 R136). -/
theorem withdrawChime_absent (src : ChimeSource) (s : State) :
    ∀ r ∈ (withdrawChime src s).chime.requests, r.source ≠ src := by
  unfold withdrawChime
  split
  · intro r here
    obtain ⟨x, there, same, _⟩ := (withArbiter_requests (removeRequest src) s).mem_figures here
    exact same ▸ (mem_removeRequest there).1
  · exact sourcePresent_false_iff.mp (by simpa using ‹¬sourcePresent src s.chime.requests = true›)

/-! ### The commands -/

theorem exec_chimeRequest {s : State} {n reps : Nat} {pattern : ChimePattern} {rest : List IntakeEntry}
    (on : awake s = true) (intake : s.port.intake = ⟨n, .chime pattern reps⟩ :: rest) : exec .chimeRequest s =
      .next (settled (peerChime n pattern reps { s with port := { s.port with intake := rest } })) := by
  have arm : exec .chimeRequest s = execChimeRequest s := rfl
  rw [arm, execChimeRequest, intakeHead_cons on intake, dropHead_cons intake]

theorem exec_notice {s : State} {n text seconds : Nat} {rest : List IntakeEntry} (on : awake s = true)
    (intake : s.port.intake = ⟨n, .notice text seconds⟩ :: rest) : exec .notice s = .next (settled
      (postNote (.notice n) (.notice text) 4 (some seconds) { s with port := { s.port with intake := rest } })) := by
  have arm : exec .notice s = execNotice s := rfl
  rw [arm, execNotice, intakeHead_cons on intake, dropHead_cons intake]

theorem peerChime_only (n : Nat) (pattern : ChimePattern) (reps : Nat) (s : State) :
    OnlyIn [.warn, .chime, .port] s (peerChime n pattern reps s) :=
  .ite ((withdrawChime_only _ s).mono (by decide)) (postChime_only _ _ _ _ s)

end Sys2Proof.Machine

open Sys2Proof Sys2Proof.Machine

/-- Settles O39: the head is taken; repetitions of 0 withdraw, others post with room, and the arbiter and the selection
keep what is posted. -/
theorem peerPostsJoinTheirQueues : Obligations.PeerPostsJoinTheirQueues := by
  refine ⟨fun s n pattern reps rest on intake => ?chime, fun s n text seconds rest on intake room => ?notice⟩
  case chime =>
    let taken : State := { s with port := { s.port with intake := rest } }
    have only : OnlyIn (mayChange .chimeRequest) s (settled (peerChime n pattern reps taken)) :=
      (((only_port s _).mono (by decide)).trans ((peerChime_only n pattern reps taken).mono (by decide))).settled
        (by decide) (by decide)
    refine ⟨_, exec_chimeRequest on intake, by simp, fun none_ => ?_, fun some_ room => ?_, only⟩
    · have withdrawn : peerChime n pattern reps taken = withdrawChime (.peer n) taken := if_pos none_
      rw [withdrawn, settled_chime]
      exact withdrawChime_absent (.peer n) taken
    · have posted : peerChime n pattern reps taken
          = (postChime (.peer n) pattern (if pattern = .call then 3 else 4) reps taken).2 := if_neg some_
      rw [posted, settled_chime]
      exact postChime_requested pattern _ reps (s := taken) on room
  case notice =>
    let taken : State := { s with port := { s.port with intake := rest } }
    let posted : State := postNote (.notice n) (.notice text) 4 (some seconds) taken
    have post : OnlyIn [.warn, .msg, .disp, .service] taken posted := postNote_only _ _ _ _ taken
    have only : OnlyIn (mayChange .notice) s (settled posted) :=
      (((only_port s _).mono (by decide)).trans (post.mono (by decide))).settled (by decide) (by decide)
    refine ⟨_, exec_notice on intake, ?_, ?_, only⟩
    · rw [settled_port, post.port (by decide)]
    · rw [settled_msg]
      exact postNote_recorded _ _ _ _ (s := taken) room
end

section
/-! PROOFS. Cadence: where the end of an element goes, what a request that yields the output leaves, and the statement
about it (08 R127, R134, R135; O58). -/

namespace Sys2Proof.Machine

/-! ### The request that ranks highest -/

/-- A change that keeps priority and order moves the choice with it. -/
theorem bestRequest_map {f : ChimeRequest → ChimeRequest} (priority : ∀ r, (f r).priority = r.priority)
    (order : ∀ r, (f r).order = r.order) (hushed : Bool) :
    ∀ q, bestRequest hushed (q.map f) = (bestRequest hushed q).map f
  | [] => rfl
  | r :: rest => by
    have may : ∀ x, eligible hushed (f x) = eligible hushed x := fun x => by simp [eligible, priority]
    have above : ∀ x y, outranks (f x) (f y) = outranks x y := fun x y => by simp [outranks, priority, order]
    rw [List.map_cons, bestRequest, bestRequest, bestRequest_map priority order hushed rest]
    cases bestRequest hushed rest with
    | none =>
      simp only [Option.map_none, may]
      split <;> rfl
    | some b =>
      simp only [Option.map_some, may, above]
      split <;> rfl

theorem ranksHighest_of_best {s : State} {r b : ChimeRequest} (best : bestRequest (hush s) s.chime.requests = some b) :
    ranksHighest s r = decide (b.source = r.source) := by
  rw [ranksHighest, best]

/-- A counted repetition changes no rank. -/
theorem ranksHighest_countRepetition (src : ChimeSource) (s : State) (r : ChimeRequest) :
    ranksHighest (countRepetition src s) r = ranksHighest s r := by
  let counted : ChimeRequest → ChimeRequest := fun x =>
    if x.source = src then { x with remaining := x.remaining - 1 } else x
  have source : ∀ x, (counted x).source = x.source := fun x => by dsimp only [counted]; split <;> rfl
  have priority : ∀ x, (counted x).priority = x.priority := fun x => by dsimp only [counted]; split <;> rfl
  have order : ∀ x, (counted x).order = x.order := fun x => by dsimp only [counted]; split <;> rfl
  have best : bestRequest (hush (countRepetition src s)) (countRepetition src s).chime.requests
      = (bestRequest (hush s) s.chime.requests).map counted := bestRequest_map priority order _ _
  rw [ranksHighest, ranksHighest, best]
  cases bestRequest (hush s) s.chime.requests with
  | none => rfl
  | some b => simp only [Option.map_some, source]

/-! ### Where an element's end goes -/

section
variable {r : ChimeRequest} {s : State}

theorem endElement_next (more : s.chime.element + 1 < (patternElements r.pattern).length) :
    endElement r s = goOnInto r (s.chime.element + 1) s := if_pos more

theorem endElement_gap (last : s.chime.element + 1 = (patternElements r.pattern).length) (left : r.remaining ≠ 1) :
    endElement r s = goOnInto r (patternElements r.pattern).length (countRepetition r.source s) := by
  simp [endElement, last, left]

theorem endElement_leaves (last : s.chime.element + 1 = (patternElements r.pattern).length) (done : r.remaining = 1) :
    endElement r s = startBest (removeRequest r.source s) := by
  simp [endElement, last, done]

theorem endElement_again (past : (patternElements r.pattern).length < s.chime.element + 1) :
    endElement r s = goOnInto r 0 s := by
  simp [endElement, past.not_gt, past.ne']

/-- But at a repetition's completion the end of an element goes on, or yields the output. -/
theorem endElement_goesOn (within : s.chime.element + 1 ≠ (patternElements r.pattern).length) :
    ∃ i, endElement r s = goOnInto r i s := by
  rcases Nat.lt_or_gt_of_ne within with more | past
  · exact ⟨_, endElement_next more⟩
  · exact ⟨0, endElement_again past⟩

theorem goOnInto_highest (first : ranksHighest s r = true) (i : Nat) : (goOnInto r i s).chime =
    { s.chime with element := i, elementTimer := elementTimerFor s r.pattern i } := by
  rw [goOnInto, if_pos first]

theorem goOnInto_yields (other : ranksHighest s r = false) (i : Nat) :
    goOnInto r i s = startBest (releaseOutput s) := by
  rw [goOnInto, other]
  rfl

end

/-! ### The output changes hands -/

theorem RequestsKept.figures {s t : State} (kept : RequestsKept s t) :
    t.chime.requests.map (fun x => (x.source, x.remaining))
      = s.chime.requests.map (fun x => (x.source, x.remaining)) := by
  have read : ∀ u : State, u.chime.requests.map (fun x => (x.source, x.remaining))
      = (unsounded u.chime.requests).map (fun x => (x.source, x.remaining)) := fun u => by
    rw [unsounded, List.map_map]
    rfl
  rw [read t, read s, kept]

/-- Of a silent set, the source whose request is started sounds. -/
theorem startSounding_source {b : ChimeRequest} {s : State} (silent : RequestsFit 0 s)
    (listed : ∃ x ∈ s.chime.requests, x.source = b.source) : soundingSource (startSounding b s) = some b.source := by
  obtain ⟨x, here, source⟩ := listed
  cases found : soundingRequest (startSounding b s) with
  | none =>
    have dark := List.find?_eq_none.mp found _ (List.mem_map_of_mem here)
    simp [source] at dark
  | some y =>
    obtain ⟨z, there, rfl⟩ := List.mem_map.mp (List.mem_of_find?_eq_some found)
    have sounds := List.find?_some found
    rw [soundingSource, found]
    split at sounds
    case isTrue same => simp [same]
    case isFalse => simp [Fits.not_marked silent there] at sounds

/-- The output released goes to the request that ranks highest, from its first element (08 R134). -/
theorem startBest_released {b : ChimeRequest} {s : State} (fit : RequestsFit 1 s)
    (best : bestRequest (hush s) s.chime.requests = some b) :
    soundingSource (startBest (releaseOutput s)) = some b.source
      ∧ (startBest (releaseOutput s)).chime.element = 0 := by
  let waiting : ChimeRequest := { b with sounding := false }
  have chosen : bestRequest (hush (releaseOutput s)) (releaseOutput s).chime.requests = some waiting :=
    (bestRequest_map (f := fun r => { r with sounding := false }) (fun _ => rfl) (fun _ => rfl) _ _).trans
      (congrArg (Option.map _) best)
  have started : startBest (releaseOutput s) = startSounding waiting (releaseOutput s) := by
    rw [startBest, chosen]
  rw [started]
  exact ⟨startSounding_source (b := waiting) (releaseOutput_fit fit)
    ⟨waiting, List.mem_map_of_mem (bestRequest_some best).1, rfl⟩, rfl⟩

/-- A request of another source stays at a removal. -/
theorem removeRequest_keeps {src : ChimeSource} {s : State} {x : ChimeRequest} (here : x ∈ s.chime.requests)
    (other : x.source ≠ src) :
    ∃ y ∈ (removeRequest src s).chime.requests, y.source = x.source ∧ y.remaining = x.remaining := by
  have released : ∃ y ∈ (if sourceSounds src s then releaseOutput s else s).chime.requests,
      y.source = x.source ∧ y.remaining = x.remaining := by
    split
    · exact ⟨{ x with sounding := false }, List.mem_map_of_mem here, rfl, rfl⟩
    · exact ⟨x, here, rfl, rfl⟩
  obtain ⟨y, there, source, remaining⟩ := released
  exact ⟨y, List.mem_filter.mpr ⟨there, by simpa [source] using other⟩, source, remaining⟩

/-- A request on its last repetition leaves the set, and the others stay (08 R135). -/
theorem startBest_removed (src : ChimeSource) (s : State) :
    (∀ x ∈ (startBest (removeRequest src s)).chime.requests, x.source ≠ src)
      ∧ ∀ x ∈ s.chime.requests, x.source ≠ src → ∃ y ∈ (startBest (removeRequest src s)).chime.requests,
        y.source = x.source ∧ y.remaining = x.remaining := by
  have kept := startBest_requests (removeRequest src s)
  refine ⟨fun x here => ?_, fun x here other => ?_⟩
  · obtain ⟨y, there, same, _⟩ := kept.mem_figures here
    exact same ▸ (mem_removeRequest there).1
  · obtain ⟨y, there, source, remaining⟩ := removeRequest_keeps here other
    obtain ⟨z, stays, sameSource, sameRemaining⟩ := RequestsKept.mem_figures (Eq.symm kept) there
    exact ⟨z, stays, sameSource.trans source, sameRemaining.trans remaining⟩

/-! ### The command -/

theorem elementOver_only (s : State) : OnlyIn [.chime, .port] s (elementOver s) := by
  unfold elementOver
  split
  · exact ((endElement_only _ s).mono (by decide)).trans ((reportSource_only s _).mono (by decide))
  · exact .refl _ s

theorem exec_elementEnd {s : State} (on : s.chime.elementTimer ≠ none) :
    exec .elementEnd s = .next (settled (elementOver s)) := congrArg Host.Outcome.next (ite_running on)

theorem elementOver_chime {r : ChimeRequest} {s : State} (sounding : soundingRequest s = some r) :
    (settled (elementOver s)).chime = (endElement r s).chime := by
  have reported : elementOver s = reportSource s (endElement r s) := by rw [elementOver, sounding]
  rw [settled_chime, reported, reportSource_chime]

end Sys2Proof.Machine

open Sys2Proof Sys2Proof.Machine

/-- Settles O58, by where the element's end goes, and as the arbiter's start leaves every request but its mark. -/
theorem elementEndFollowsTheCadence : Obligations.ElementEndFollowsTheCadence := by
  intro r s on sounding within count
  have fit := chimeSetWithin_iff.mp within
  have only : OnlyIn (mayChange .elementEnd) s (settled (elementOver s)) :=
    ((elementOver_only s).mono (by decide)).settled (by decide) (by decide)
  have chime := elementOver_chime sounding
  refine ⟨_, exec_elementEnd on, fun best => ?highest, fun last done => ?leaves,
    fun b best other inside => ?yields, only⟩
  case highest =>
    have first : ranksHighest s r = true := by simp [ranksHighest_of_best best]
    rw [chime]
    refine ⟨fun more => ?_, fun last left => ?_, fun gap => ?_⟩
    · rw [endElement_next more, goOnInto_highest first]
    · rw [endElement_gap last left, goOnInto_highest ((ranksHighest_countRepetition _ s r).trans first)]
      rfl
    · rw [endElement_again (Nat.lt_succ_of_le gap.ge), goOnInto_highest first]
  case leaves =>
    rw [chime, endElement_leaves last done]
    exact startBest_removed r.source s
  case yields =>
    obtain ⟨i, goesOn⟩ := endElement_goesOn inside
    have lower : ranksHighest s r = false := by simpa [ranksHighest_of_best best] using other
    have handed : (settled (elementOver s)).chime = (startBest (releaseOutput s)).chime := by
      rw [chime, goesOn, goOnInto_yields lower]
    obtain ⟨source, element⟩ := startBest_released fit best
    have kept : RequestsKept s (startBest (releaseOutput s)) :=
      (releaseOutput_requests s).trans (startBest_requests _)
    have same : soundingSource (settled (elementOver s)) = soundingSource (startBest (releaseOutput s)) := by
      rw [soundingSource, soundingRequest, handed, soundingSource, soundingRequest]
    exact ⟨same.trans source, by rw [handed]; exact element, by rw [handed]; exact kept.figures⟩
end

section
/-! PROOFS. Display: the fields of the display that the end of a command leaves, and the statement about the display's
timers and its transfers (09 R140, R141, R148, R149; O54). -/

namespace Sys2Proof.Machine

section
variable (s : State)

@[simp] theorem settled_selB : (settled s).disp.selB = s.disp.selB :=
  congrArg (fun t => t.disp.selB) (settled_from s).rest

@[simp] theorem settled_setTimer : (settled s).disp.setTimer = s.disp.setTimer :=
  congrArg (fun t => t.disp.setTimer) (settled_from s).rest

@[simp] theorem settled_blinkTimer : (settled s).disp.blinkTimer = s.disp.blinkTimer :=
  congrArg (fun t => t.disp.blinkTimer) (settled_from s).rest

@[simp] theorem settled_blinkShown : (settled s).disp.blinkShown = s.disp.blinkShown :=
  congrArg (fun t => t.disp.blinkShown) (settled_from s).rest

@[simp] theorem settled_displayTimer : (settled s).disp.displayTimer = s.disp.displayTimer :=
  congrArg (fun t => t.disp.displayTimer) (settled_from s).rest

end

/-- In WATCH the display is dark while its timer does not run (09 R141). -/
theorem displayLit_watch {s : State} (watch : s.power.mode = .watch) :
    displayLit s = runs s.disp.displayTimer := by
  simp [displayLit, watch]

/-- The transfer that completes leaves its image in the module; a change meanwhile begins the next (09 R140). -/
theorem completeTransfer_sent {sent : Image} {s : State} (sending : s.disp.transfer = some sent) :
    completeTransfer s = { s with disp := { s.disp with
      loaded := sent, changed := false, transfer := if s.disp.changed then some s.disp.image else none } } := by
  cases meanwhile : s.disp.changed <;> simp [completeTransfer, sending, meanwhile]

end Sys2Proof.Machine

open Sys2Proof Sys2Proof.Machine

/-- Settles O54, timer by timer: each acts on the display alone, and the command is then settled. -/
theorem displayTimersChangeTheImage : Obligations.DisplayTimersChangeTheImage := by
  refine ⟨fun s on => ?setMode, fun s on => ?blink, fun s on => ?alternate, fun s on => ?dark,
    fun sent s sending => ?transfer⟩
  case setMode => exact ⟨_, congrArg Host.Outcome.next (ite_running on), settled_from (leaveSetMode s)⟩
  case blink => exact ⟨_, congrArg Host.Outcome.next (ite_running on), settled_from (blink s)⟩
  case alternate => exact ⟨_, congrArg Host.Outcome.next (ite_running on), settled_from (alternate s)⟩
  case dark =>
    let x : State := { s with disp := { s.disp with displayTimer := none } }
    refine ⟨_, congrArg Host.Outcome.next (ite_running on), settled_from x, fun watch => ?_⟩
    have mode : (settled x).power.mode = .watch := (settled_mode x).trans watch
    have lit : (settled x).disp.image.lit = displayLit (settled x) := congrArg Image.lit (settled_from x).image
    rw [lit, displayLit_watch mode, settled_displayTimer]
    rfl
  case transfer => exact congrArg Host.Outcome.next (completeTransfer_sent sending)
end

section
/-! PROOFS. Show times: what a selection and a departure leave of the message queue and of the display, how the reminder
cycle goes on after a departure, and the statement about the timers of the message queue (06 R103, R104, 09 R142 to
R144; O55). -/

namespace Sys2Proof.Machine

/-! ### What a selection leaves of the records -/

section
variable {β : Type} {view : MsgRecord → β}

theorem becomeShowing_msg (r : MsgRecord) (s : State) : (becomeShowing r s).msg = { s.msg with
    queue := s.msg.queue.map (fun x => if x.origin = r.origin then { x with showing := true, since := s.now } else x),
    minTimer := some (s.now + minShowMs r.maxShow),
    maxTimer := maxTimerFor s r.maxShow r.shown } :=
  (wakeDisplay_only _).msg (by decide)

/-- A selection changes of the records their marks and shown times alone. -/
theorem select_view (same : ∀ r b shown since, view { r with showing := b, shown := shown, since := since } = view r)
    (s : State) : (select s).msg.queue.map view = s.msg.queue.map view := by
  have shows : ∀ w t, (becomeShowing w t).msg.queue.map view = t.msg.queue.map view := by
    intro w t
    rw [becomeShowing_msg, List.map_map]
    refine List.map_congr_left fun x _ => ?_
    rw [Function.comp_apply]
    split
    · exact same x _ _ _
    · rfl
  have waits : (backToWaiting s).msg.queue.map view = s.msg.queue.map view := by
    rw [backToWaiting, List.map_map]
    refine List.map_congr_left fun x _ => ?_
    rw [Function.comp_apply]
    split
    · exact same x _ _ _
    · rfl
  unfold select
  split
  · exact shows _ s
  · split
    · exact (shows _ _).trans waits
    · rfl
  · rfl

/-- A removal takes the record of its origin out of the queue, and no other (09 R144). -/
theorem removeRecord_view
    (same : ∀ r b shown since, view { r with showing := b, shown := shown, since := since } = view r)
    (o : MsgOrigin) (s : State) : (removeRecord o s).msg.queue.map view
      = (s.msg.queue.filter (fun x => decide (x.origin ≠ o))).map view := by
  unfold removeRecord
  split
  case isTrue => exact select_view same (dropRecord o s)
  case isFalse absent =>
    rw [List.filter_eq_self.mpr]
    simpa using originPresent_false_iff.mp (Bool.eq_false_iff.mpr absent)

end

/-! ### What a selection shows -/

section
variable {r w : MsgRecord} {s : State}

theorem msgBefore_false_iff : msgBefore r w = false ↔
    w.priority < r.priority ∨ (w.priority = r.priority ∧ w.order ≤ r.order) := by
  rw [← Bool.not_eq_true, msgBefore_iff]
  omega

theorem showingRecord_none : showingRecord s = none ↔ ∀ x ∈ s.msg.queue, x.showing = false := by
  simp [showingRecord]

/-- With none better WAITING the SHOWING record keeps the display (09 R143). -/
theorem select_keeps (shown : showingRecord s = some r)
    (best : ∀ x ∈ s.msg.queue, x.showing = false → r.priority ≤ x.priority) : select s = s := by
  unfold select
  rw [shown]
  split
  case h_1 none_ _ => cases none_
  case h_2 some_ waiting =>
    cases some_
    obtain ⟨here, waits, _⟩ := bestWaiting_some waiting
    exact if_neg (by simp [best _ here waits])
  case h_3 => rfl

/-- Within its minimum show time the SHOWING record keeps the display (09 R143). -/
theorem select_minimum (shown : showingRecord s = some r) (on : s.msg.minTimer ≠ none) : select s = s := by
  have running : runs s.msg.minTimer = true := Option.isSome_iff_ne_none.mpr on
  unfold select
  rw [shown, running]
  split
  case h_1 none_ _ => cases none_
  case h_2 => rfl
  case h_3 => rfl

theorem select_displaces (shown : showingRecord s = some r) (off : s.msg.minTimer = none)
    (best : bestWaiting s.msg.queue = some w) (better : w.priority < r.priority) :
    select s = becomeShowing w (backToWaiting s) := by
  simp [select, shown, best, off, runs, better]

theorem select_dark (dark : showingRecord s = none) (best : bestWaiting s.msg.queue = some w) :
    select s = becomeShowing w s := by
  simp [select, dark, best]

/-- Of a queue with none SHOWING the record of an origin takes the display, its minimum show time ahead. -/
theorem becomeShowing_shows (dark : ∀ x ∈ s.msg.queue, x.showing = false)
    (listed : ∃ x ∈ s.msg.queue, x.origin = w.origin) :
    (showingRecord (becomeShowing w s)).map (fun x => x.origin) = some w.origin := by
  obtain ⟨x, here, origin⟩ := listed
  rw [showingRecord, becomeShowing_msg]
  cases found : (s.msg.queue.map _).find? fun x : MsgRecord => x.showing with
  | none =>
    have unlit := List.find?_eq_none.mp found _ (List.mem_map_of_mem here)
    simp [origin] at unlit
  | some y =>
    obtain ⟨z, there, rfl⟩ := List.mem_map.mp (List.mem_of_find?_eq_some found)
    have lit := List.find?_some found
    split at lit
    case isTrue same => simp [same]
    case isFalse => simp [dark z there] at lit

/-- After a selection the record shows that is first of `waiting`, with its whole minimum show time ahead. -/
def FirstShows (waiting : List MsgRecord) (s t : State) : Prop :=
  ∃ w ∈ waiting, (showingRecord t).map (fun x => x.origin) = some w.origin
    ∧ t.msg.minTimer = some (s.now + minShowMs w.maxShow)
    ∧ ∀ x ∈ waiting, w.priority < x.priority ∨ (w.priority = x.priority ∧ w.order ≤ x.order)

/-- With none SHOWING the first record of a queue that is not empty takes the display (09 R143). -/
theorem select_first (dark : ∀ x ∈ s.msg.queue, x.showing = false) (some_ : s.msg.queue ≠ []) :
    FirstShows s.msg.queue s (select s) := by
  obtain ⟨w, best⟩ : ∃ w, bestWaiting s.msg.queue = some w := by
    refine Option.ne_none_iff_exists'.mp fun none_ => ?_
    obtain ⟨x, here⟩ := List.exists_mem_of_ne_nil _ some_
    simpa [dark x here] using bestWaiting_none.mp none_ x here
  obtain ⟨here, _, first⟩ := bestWaiting_some best
  rw [select_dark (showingRecord_none.mpr dark) best]
  refine ⟨w, here, becomeShowing_shows dark ⟨w, here, rfl⟩, ?_, fun x there => ?_⟩
  · rw [becomeShowing_msg]
  · exact msgBefore_false_iff.mp (first x there (dark x there))

end

/-! ### Departures -/

section
variable {r : MsgRecord} {s : State}

theorem mem_of_showing (shown : showingRecord s = some r) : r ∈ s.msg.queue := List.mem_of_find?_eq_some shown

/-- No record but one SHOWS in a queue within its bounds. -/
theorem waiting_of_other (fit : RecordsFit 1 s) (shown : showingRecord s = some r) {x : MsgRecord}
    (here : x ∈ s.msg.queue) (other : x.origin ≠ r.origin) : x.showing = false := by
  by_contra lit
  have parts := List.countP_eq_countP_filter_add s.msg.queue (fun y => y.showing)
    (fun y => decide (y.origin = r.origin))
  have own : 0 < (s.msg.queue.filter (fun y => decide (y.origin = r.origin))).countP (fun y => y.showing) :=
    List.countP_pos_iff.mpr ⟨r, by simp [mem_of_showing shown], List.find?_some shown⟩
  have others : 0 < (s.msg.queue.filter (fun y => !decide (y.origin = r.origin))).countP (fun y => y.showing) :=
    List.countP_pos_iff.mpr ⟨x, by simp [here, other], by simpa using lit⟩
  have most : s.msg.queue.countP (fun y => y.showing) ≤ 1 := fit.marks
  omega

/-- With the SHOWING record gone, the first of those left takes the display (09 R144). -/
theorem removeRecord_first (fit : RecordsFit 1 s) (shown : showingRecord s = some r)
    (left : s.msg.queue.filter (fun x => decide (x.origin ≠ r.origin)) ≠ []) :
    FirstShows (s.msg.queue.filter (fun x => decide (x.origin ≠ r.origin))) s (removeRecord r.origin s) := by
  have present : originPresent r.origin s.msg.queue = true :=
    List.any_eq_true.mpr ⟨r, mem_of_showing shown, decide_eq_true rfl⟩
  have removed : removeRecord r.origin s = select (dropRecord r.origin s) := if_pos present
  rw [removed]
  refine select_first (s := dropRecord r.origin s) (fun x here => ?_) left
  obtain ⟨there, other⟩ := List.mem_filter.mp here
  exact waiting_of_other fit shown there (by simpa using other)

theorem removeRecord_absent (o : MsgOrigin) (s : State) : ∀ x ∈ (removeRecord o s).msg.queue, x.origin ≠ o := by
  have origins := removeRecord_view (view := fun x => x.origin) (fun _ _ _ _ => rfl) o s
  intro x here
  have listed : x.origin ∈ (removeRecord o s).msg.queue.map (fun x => x.origin) := List.mem_map_of_mem here
  rw [origins] at listed
  obtain ⟨y, there, same⟩ := List.mem_map.mp listed
  rw [← same]
  simpa using (List.mem_filter.mp there).2

/-- A departure takes one record of a queue within its bounds, so that another finds room. -/
theorem removeRecord_room (fit : RecordsFit 1 s) (shown : showingRecord s = some r) :
    (removeRecord r.origin s).msg.queue.length < 8 := by
  have origins := congrArg List.length (removeRecord_view (view := fun x => x.origin) (fun _ _ _ _ => rfl) r.origin s)
  rw [List.length_map, List.length_map] at origins
  rw [origins]
  exact Fits.length_filter_lt fit (mem_of_showing shown) (by simp)

theorem departRecord_other {o : MsgOrigin} (other : o ≠ .reminder) (s : State) :
    departRecord o s = removeRecord o s := by
  cases o <;> first | exact absurd rfl other | rfl

/-! ### The reminder cycle after a departure -/

theorem nextReminder_congr {t : State} (same : t.service.items = s.service.items) (c : Nat) :
    nextReminder t c = nextReminder s c :=
  List.find?_congr fun i _ => by rw [itemOf_congr same]

theorem advanceReminder_on {c : Nat} (on : s.service.cursor = some c) :
    advanceReminder s = setCursor (nextReminder s c) s := by
  rw [advanceReminder, on]

theorem postReminder_msg (i : Nat) (s : State) : (postReminder i s).msg
    = (msgPost .reminder (.service (itemOf s i).state i) 5 (some 4) s).2.msg := by
  unfold postReminder
  split <;> rename_i post <;> rw [post]

/-- The record of item `i`'s reminder joins the queue (06 R103). -/
def joinReminder (i : Nat) (s : State) : State := joinRecord .reminder (.service (itemOf s i).state i) 5 (some 4) s

theorem postReminder_joins (i : Nat) (absent : ∀ x ∈ s.msg.queue, x.origin ≠ .reminder)
    (room : s.msg.queue.length < 8) : (postReminder i s).msg = (select (joinReminder i s)).msg := by
  have new := originPresent_false_iff.mpr absent
  rw [postReminder_msg]
  rcases msgPost_cases .reminder (.service (itemOf s i).state i) 5 (some 4) s with
    ⟨present, _⟩ | ⟨_, _, post⟩ | ⟨_, _, full, _⟩ | ⟨_, full, _⟩
  · simp [new] at present
  · rw [post]
    rfl
  · omega
  · omega

/-- What the cycle's next item leaves of the queue: its reminder's record joins, and does not take the display from a
record within its minimum show time. -/
structure Reminded (next : Option Nat) (s t : State) : Prop where
  queue : t.msg.queue.map (fun x => (x.origin, x.text)) = s.msg.queue.map (fun x => (x.origin, x.text))
    ++ next.toList.map (fun i => (.reminder, .service (itemOf s i).state i))
  minTimer : s.msg.minTimer ≠ none → ∀ r, showingRecord s = some r → t.msg.minTimer = s.msg.minTimer
  shows : s.msg.minTimer ≠ none → ∀ r, showingRecord s = some r → showingRecord t = some r

theorem Reminded.of_same {t : State} (same : t.msg = s.msg) : Reminded none s t :=
  ⟨by simp [same], fun _ _ _ => by rw [same], fun _ _ shown => by rw [showingRecord, same]; exact shown⟩

theorem postReminder_reminded (i : Nat) (absent : ∀ x ∈ s.msg.queue, x.origin ≠ .reminder)
    (room : s.msg.queue.length < 8) : Reminded (some i) s (postReminder i s) := by
  have joins := postReminder_joins i absent room
  have stays : ∀ r, showingRecord s = some r → showingRecord (joinReminder i s) = some r := fun r shown => by
    rw [showingRecord] at shown
    rw [showingRecord, joinReminder, joinRecord, List.find?_append, shown]
    rfl
  have keeps : s.msg.minTimer ≠ none → ∀ r, showingRecord s = some r →
      (postReminder i s).msg = (joinReminder i s).msg := fun on r shown => by
    rw [joins, select_minimum (s := joinReminder i s) (stays r shown) on]
  refine ⟨?_, fun on r shown => ?_, fun on r shown => ?_⟩
  · rw [joins, select_view fun _ _ _ _ => rfl]
    simp [joinReminder, joinRecord]
  · rw [keeps on r shown]
    rfl
  · rw [showingRecord, keeps on r shown]
    exact stays r shown

theorem advanceReminder_reminded (absent : ∀ x ∈ s.msg.queue, x.origin ≠ .reminder) (room : s.msg.queue.length < 8) :
    Reminded (s.service.cursor.bind (nextReminder s)) s (advanceReminder s) := by
  cases cursor : s.service.cursor with
  | none => exact .of_same (by rw [advanceReminder, cursor])
  | some c =>
    rw [Option.bind_some, advanceReminder_on cursor]
    cases nextReminder s c with
    | none => exact .of_same rfl
    | some i =>
      let x : State := { s with service := { s.service with cursor := some i } }
      have joins : Reminded (some i) x (postReminder i x) := postReminder_reminded i absent room
      exact ⟨joins.queue, joins.minTimer, joins.shows⟩

/-- The item whose reminder joins the queue when the record of an origin has left it (06 R104). -/
def itemAfter (o : MsgOrigin) (s : State) : Option Nat :=
  if o = .reminder then s.service.cursor.bind (nextReminder s) else none

theorem departRecord_reminded (fit : RecordsFit 1 s) (shown : showingRecord s = some r) :
    Reminded (itemAfter r.origin s) (removeRecord r.origin s) (departRecord r.origin s) := by
  unfold itemAfter
  split
  case isFalse other => exact .of_same (by rw [departRecord_other other])
  case isTrue isReminder =>
    have room := removeRecord_room fit shown
    have service : (removeRecord .reminder s).service = s.service := (removeRecord_only _ s).service (by decide)
    rw [isReminder] at room ⊢
    have reminded := advanceReminder_reminded (removeRecord_absent .reminder s) room
    rw [service, funext fun c => nextReminder_congr (congrArg Service.items service) c] at reminded
    exact reminded

/-- A departure's queue: the records left, then the next reminder's (09 R144, 06 R104). -/
theorem departRecord_queue (fit : RecordsFit 1 s) (shown : showingRecord s = some r) :
    (departRecord r.origin s).msg.queue.map (fun x => (x.origin, x.text))
      = (s.msg.queue.filter (fun x => decide (x.origin ≠ r.origin))).map (fun x => (x.origin, x.text))
        ++ (itemAfter r.origin s).toList.map (fun i => (.reminder, .service (itemOf s i).state i)) := by
  have items : (removeRecord r.origin s).service.items = s.service.items :=
    congrArg Service.items ((removeRecord_only _ s).service (by decide))
  rw [(departRecord_reminded fit shown).queue, removeRecord_view fun _ _ _ _ => rfl]
  simp only [itemOf_congr items]

/-- A departure's display: the first of the records left, though a reminder joins after it. -/
theorem departRecord_first (fit : RecordsFit 1 s) (shown : showingRecord s = some r)
    (left : s.msg.queue.filter (fun x => decide (x.origin ≠ r.origin)) ≠ []) :
    FirstShows (s.msg.queue.filter (fun x => decide (x.origin ≠ r.origin))) s (departRecord r.origin s) := by
  obtain ⟨w, here, origin, timer, first⟩ := removeRecord_first fit shown left
  obtain ⟨y, shows, _⟩ := Option.map_eq_some_iff.mp origin
  have reminded := departRecord_reminded fit shown
  have on : (removeRecord r.origin s).msg.minTimer ≠ none := by simp [timer]
  exact ⟨w, here, by rw [reminded.shows on y shows, ← shows]; exact origin,
    by rw [reminded.minTimer on y shows]; exact timer, first⟩

/-- Of a queue within its bounds with one record at most, that record shows. -/
theorem showingRecord_lone {text : Option Text} (within : messagesWithin s.msg = true)
    (lone : s.msg.queue.map (fun x => x.text) = text.toList) : (showingRecord s).map (fun x => x.text) = text := by
  obtain ⟨_, one⟩ := messagesWithin_iff.mp within
  cases text with
  | none => simp_all [showingRecord]
  | some a =>
    obtain ⟨y, queue, rfl⟩ : ∃ y, s.msg.queue = [y] ∧ y.text = a := by
      simpa [List.map_eq_cons_iff] using lone
    have lit : y.showing = true := by simpa [ShowsOne, queue] using one
    simp [showingRecord, queue, lit]

end

/-! ### The reminder posted again -/

section
variable {s : State}

theorem postReminder_taken (i : Nat) (room : s.msg.queue.length < 8) :
    (postReminder i s).service.repostTimer = none
      ∧ Recorded .reminder (.service (itemOf s i).state i) 5 (some 4) (postReminder i s) := by
  rcases msgPost_cases .reminder (.service (itemOf s i).state i) 5 (some 4) s with
    ⟨present, post⟩ | ⟨_, _, post⟩ | ⟨_, _, full, _⟩ | ⟨_, full, _⟩
  · rw [postReminder, post]
    exact ⟨rfl, (replaceRecord_recorded _ _ _ present).select⟩
  · have joins : Recorded .reminder (.service (itemOf s i).state i) 5 (some 4) (joinReminder i s) :=
      ⟨_, List.mem_append_right _ List.mem_cons_self, rfl, rfl, rfl, rfl⟩
    rw [postReminder, post]
    exact ⟨rfl, joins.select⟩
  · omega
  · omega

/-- A full queue of records none of which is worse refuses the reminder, to be posted again in 1 s. -/
theorem postReminder_refused (i : Nat) (full : 8 ≤ s.msg.queue.length)
    (better : ∀ r ∈ s.msg.queue, r.priority ≤ 5 ∧ r.origin ≠ .reminder) : postReminder i s
      = { s with service := { s.service with repostTimer := some (s.now + 1000) } } := by
  have absent := originPresent_false_iff.mpr fun r here => (better r here).2
  rcases msgPost_cases .reminder (.service (itemOf s i).state i) 5 (some 4) s with
    ⟨present, _⟩ | ⟨_, room, _⟩ | ⟨w, _, _, worst, above, _⟩ | ⟨_, _, post⟩
  · simp [absent] at present
  · omega
  · have := (better w (worstRecord_mem worst)).1
    omega
  · rw [postReminder, post]
    rfl

end

/-! ### The commands -/

section
variable {r : MsgRecord} {s : State}

/-- The minimum show time has passed (09 R143). -/
def minimumOver (s : State) : State := { s with msg := { s.msg with minTimer := none } }

theorem exec_minimumShowTimeExpiry (on : s.msg.minTimer ≠ none) :
    exec .minimumShowTimeExpiry s = .next (settled (select (minimumOver s))) :=
  congrArg Host.Outcome.next (ite_running on)

theorem exec_maximumShowTimeExpiry (on : s.msg.maxTimer ≠ none) (shown : showingRecord s = some r) :
    exec .maximumShowTimeExpiry s = .next (settled (departRecord r.origin s)) := by
  have departs : showTimeOver s = departRecord r.origin s := by rw [showTimeOver, shown]
  rw [← departs]
  exact congrArg Host.Outcome.next (ite_running on)

theorem exec_reminderRepostTimerExpiry {i : Nat} (on : s.service.repostTimer ≠ none)
    (cursor : s.service.cursor = some i) (run : s.power.mode = .run) : exec .reminderRepostTimerExpiry s = .next (settled (postReminder i s)) := by
  have again : repost s = postReminder i s := by
    rw [repost, cursor]
    exact if_pos run
  rw [← again]
  exact congrArg Host.Outcome.next (ite_running on)

/-- A record that comes before the SHOWING one displaces it once its minimum has passed, and the first of those does
(09 R143). -/
theorem select_minimumOver (shown : showingRecord s = some r)
    (better : ∃ w ∈ s.msg.queue, w.showing = false ∧ w.priority < r.priority) :
    ∃ w ∈ s.msg.queue, w.showing = false ∧ w.priority < r.priority
      ∧ (∀ x ∈ s.msg.queue, x.showing = false →
          w.priority < x.priority ∨ (w.priority = x.priority ∧ w.order ≤ x.order))
      ∧ (showingRecord (select (minimumOver s))).map (fun x => x.origin) = some w.origin
      ∧ (select (minimumOver s)).msg.minTimer = some (s.now + minShowMs w.maxShow) := by
  obtain ⟨v, listed, waits, above⟩ := better
  obtain ⟨w, best⟩ : ∃ w, bestWaiting s.msg.queue = some w := by
    refine Option.ne_none_iff_exists'.mp fun none_ => ?_
    simpa [waits] using bestWaiting_none.mp none_ v listed
  obtain ⟨here, waiting, first⟩ := bestWaiting_some best
  have before : ∀ x ∈ s.msg.queue, x.showing = false →
      w.priority < x.priority ∨ (w.priority = x.priority ∧ w.order ≤ x.order) :=
    fun x there dark => msgBefore_false_iff.mp (first x there dark)
  have higher : w.priority < r.priority := by
    have := before v listed waits
    omega
  have displaced : select (minimumOver s) = becomeShowing w (backToWaiting (minimumOver s)) :=
    select_displaces shown rfl best higher
  rw [displaced]
  refine ⟨w, here, waiting, higher, before, becomeShowing_shows (fun x there => ?_) ⟨w, ?_, rfl⟩, ?_⟩
  · obtain ⟨y, _, rfl⟩ := List.mem_map.mp there
    split
    · rfl
    · simpa using ‹¬y.showing = true›
  · exact List.mem_map.mpr ⟨w, here, by simp [waiting]⟩
  · rw [becomeShowing_msg]
    rfl

end

end Sys2Proof.Machine

open Sys2Proof Sys2Proof.Machine

/-- Settles O55: the minimum's end is a selection, the maximum's a departure, and the repost a reminder's post. -/
theorem messageTimersSelectTheNextRecord : Obligations.MessageTimersSelectTheNextRecord := by
  refine ⟨fun r s on shown => ?minimum, fun r s on shown => ?maximum, fun i s on cursor run => ?repost⟩
  case minimum =>
    have only : OnlyIn (mayChange .minimumShowTimeExpiry) s (settled (select (minimumOver s))) :=
      (((only_msg s _).mono (by decide)).trans ((select_only _).mono (by decide))).settled (by decide) (by decide)
    refine ⟨_, exec_minimumShowTimeExpiry on, fun best => ?_, fun better => ?_, ?_, only⟩
    · rw [settled_msg, select_keeps (s := minimumOver s) shown best]
      rfl
    · rw [showingRecord, settled_msg]
      exact select_minimumOver shown better
    · rw [settled_msg]
      exact select_view (fun _ _ _ _ => rfl) (minimumOver s)
  case maximum =>
    have only : OnlyIn (mayChange .maximumShowTimeExpiry) s (settled (departRecord r.origin s)) :=
      ((departRecord_only _ s).mono (by decide)).settled (by decide) (by decide)
    refine ⟨_, exec_maximumShowTimeExpiry on shown, fun other => ?_, fun c isReminder cursor => ?_, fun within => ?_,
      only⟩
    · rw [settled_service, settled_msg, departRecord_other other]
      exact ⟨(removeRecord_only _ s).service (by decide), removeRecord_view (fun _ _ _ _ => rfl) _ s⟩
    · have service : (removeRecord .reminder s).service = s.service := (removeRecord_only _ s).service (by decide)
      have next : (advanceReminder (removeRecord .reminder s)).service.cursor = nextReminder s c := by
        rw [advanceReminder_on (by rw [service]; exact cursor), setCursor_cursor,
          nextReminder_congr (congrArg Service.items service)]
      rw [settled_service, isReminder]
      exact next
    · obtain ⟨fit, _⟩ := messagesWithin_iff.mp within
      have queue := departRecord_queue fit shown
      rw [showingRecord, settled_msg]
      refine ⟨queue, fun empty => ?_, departRecord_first fit shown⟩
      have texts : (departRecord r.origin s).msg.queue.map (fun x => x.text)
          = ((itemAfter r.origin s).map fun i => Text.service (itemOf s i).state i).toList := by
        rw [empty] at queue
        simpa [Option.toList_map, Function.comp_def] using congrArg (List.map Prod.snd) queue
      exact showingRecord_lone ((departRecord_sets _ s).messages within) texts
  case repost =>
    have only : OnlyIn (mayChange .reminderRepostTimerExpiry) s (settled (postReminder i s)) :=
      ((postReminder_only i s).mono (by decide)).settled (by decide) (by decide)
    refine ⟨_, exec_reminderRepostTimerExpiry on cursor run, ?_, fun room => ?_, fun full better => ?_, only⟩
    · rw [settled_service, postReminder_cursor, cursor]
    · rw [settled_service, settled_msg]
      exact postReminder_taken i room
    · rw [settled_service, settled_msg, postReminder_refused i full better]
      exact ⟨rfl, rfl⟩
end

section
/-! PROOFS. Presses: what an accepted press does before its action, what each key's action leaves by what the display
shows, and the statement about presses (09 R146, R147, R149, R150, TABLE 9-5; O52). -/

namespace Sys2Proof.Machine

/-! ### The accepted press -/

section
variable {k : Key} {holds : State → KeyAction} {act : State → State} {s : State}

/-- What an accepted press does before it acts: it is noted, and counts the 10 s of set mode afresh. -/
def beforeAction (s : State) : State := keepSetMode (pressNoted s)

/-- A press that finds the display lit acts, and the key is held with its long action. -/
theorem acceptPress_lit (on : awake s = true) (released : keyOf s.keys k = .released) (lit : findsDark k s = false) :
    acceptPress k holds act s = holdKey k (.held (holds s)) (act (beforeAction s)) := by
  rw [acceptPress, on, released, lit]
  rfl

/-- A press that finds the display dark lights it, and the key is held with no action. -/
theorem acceptPress_dark (on : awake s = true) (released : keyOf s.keys k = .released) (dark : findsDark k s = true) :
    acceptPress k holds act s
      = holdKey k (.held .nothing) (pressNoted { s with keys := { s.keys with waking := none } }) := by
  rw [acceptPress, on, released, dark]
  rfl

end

theorem exec_pressOf (k : Key) (s : State) :
    ∃ holds act, exec (pressOf k) s = .next (settled (acceptPress k holds act s)) := by
  cases k <;> exact ⟨_, _, rfl⟩

/-- From `s` to `t` a press is noted and does not act yet: what TABLE 9-5 reads of `s`, `t` has as well. -/
structure PressKept (s t : State) : Prop where
  only : OnlyIn [.disp, .warn, .chime, .port, .keys] s t
  readout : t.disp.readout = s.disp.readout
  selB : t.disp.selB = s.disp.selB
  setMode : t.disp.setMode = s.disp.setMode
  review : t.warn.review = s.warn.review
  standing : WarnKept standingOf [] s t
  entries : s.warn.entries.length = 24 → t.warn.entries.length = 24

theorem PressKept.trans {s t u : State} (h : PressKept s t) (k : PressKept t u) : PressKept s u :=
  ⟨h.only.trans k.only, k.readout.trans h.readout, k.selB.trans h.selB, k.setMode.trans h.setMode,
    k.review.trans h.review, h.standing.trans k.standing, k.entries ∘ h.entries⟩

section
variable (s : State)

theorem keysPut_pressKept (x : Keys) : PressKept s { s with keys := x } :=
  ⟨(only_keys s x).mono (by decide), rfl, rfl, rfl, rfl, .of_entries, id⟩

theorem wakeDisplay_pressKept : PressKept s (wakeDisplay s) := by
  unfold wakeDisplay
  split
  · exact ⟨(only_disp s _).mono (by decide), rfl, rfl, rfl, rfl, .of_entries, id⟩
  · exact ⟨.refl _ s, rfl, rfl, rfl, rfl, .refl _ _ s, id⟩

theorem keyClick_pressKept : PressKept s (keyClick s) := by
  have only := keyClick_only s
  have disp := only.disp (by decide)
  exact ⟨only.mono (by decide), by rw [disp], by rw [disp], by rw [disp], keyClick_review s,
    postChime_standing s _ _ _ _, (postChime_banks _ _ _ _ s).entries⟩

theorem keepSetMode_pressKept : PressKept s (keepSetMode s) := by
  unfold keepSetMode
  split
  · exact ⟨.refl _ s, rfl, rfl, rfl, rfl, .refl _ _ s, id⟩
  · exact ⟨(only_disp s _).mono (by decide), rfl, rfl, rfl, rfl, .of_entries, id⟩

theorem pressNoted_pressKept : PressKept s (pressNoted s) := (wakeDisplay_pressKept s).trans (keyClick_pressKept _)

theorem beforeAction_pressKept : PressKept s (beforeAction s) :=
  (pressNoted_pressKept s).trans (keepSetMode_pressKept _)

end

section
variable {s t : State} (kept : PressKept s t)
include kept

theorem PressKept.msg : t.msg = s.msg := kept.only.msg (by decide)

theorem PressKept.showing : showingRecord t = showingRecord s := by
  rw [showingRecord, kept.msg, ← showingRecord]

theorem PressKept.status (n : Nat) : (warnEntry t n).status = (warnEntry s n).status :=
  congrArg (fun x => x.1) (kept.standing.entry n (by simp))

theorem PressKept.reviewable (n : Nat) : Machine.reviewable (warnEntry t n) = Machine.reviewable (warnEntry s n) := by
  have prior : (warnEntry t n).prior = (warnEntry s n).prior :=
    congrArg (fun x => x.2.2.1) (kept.standing.entry n (by simp))
  rw [Machine.reviewable, kept.status, prior, ← Machine.reviewable]

end

/-! ### What the display shows -/

/-- A press falls in the column of the SHOWING record, of the review, of set mode or of the readout. -/
theorem shownNow_cases (s : State) :
    (∃ r, showingRecord s = some r ∧ shownNow s = .record r)
    ∨ (showingRecord s = none ∧ s.warn.review ≠ .closed ∧ shownNow s = .review)
    ∨ (showingRecord s = none ∧ s.warn.review = .closed ∧ s.disp.setMode ≠ .none ∧ shownNow s = .setMode)
    ∨ (showingRecord s = none ∧ s.warn.review = .closed ∧ s.disp.setMode = .none ∧ shownNow s = .readout) := by
  unfold shownNow
  cases showingRecord s with
  | some r => exact .inl ⟨r, rfl, rfl⟩
  | none =>
    by_cases closed : s.warn.review = .closed
    · by_cases none_ : s.disp.setMode = .none <;> simp [closed, none_]
    · simp [closed]

section
variable {r : MsgRecord} {s : State}

theorem shownNow_record (shown : showingRecord s = some r) : shownNow s = .record r := by
  rw [shownNow, shown]

/-! ### MODE -/

theorem setReadout_selB (n : Nat) (s : State) : (setReadout n s).disp.selB = s.disp.selB := by
  unfold setReadout
  split <;> rfl

theorem setReadout_review (n : Nat) (s : State) : (setReadout n s).warn.review = s.warn.review :=
  congrArg Warn.review ((setReadout_only n s).warn (by decide))

theorem modeAction_selB (s : State) : (modeAction s).disp.selB = s.disp.selB := by
  unfold modeAction
  split
  · rfl
  all_goals exact setReadout_selB _ _

theorem modeAction_record (shown : showingRecord s = some r) : modeAction s = s := by
  rw [modeAction, shownNow_record shown]

/-- With no record SHOWING, MODE goes to the next readout and leaves set mode and the review. -/
theorem modeAction_bare (bare : showingRecord s = none) (apart : s.warn.review = .closed ∨ s.disp.setMode = .none) :
    (modeAction s).disp.setMode = .none ∧ (modeAction s).warn.review = .closed
      ∧ (modeAction s).disp.readout = readoutAfter s.disp.readout := by
  rcases shownNow_cases s with ⟨r, shown, _⟩ | ⟨_, isOpen, shown⟩ | ⟨_, closed, _, shown⟩ | ⟨_, closed, none_, shown⟩
  · simp [bare] at shown
  all_goals rw [modeAction, shown]
  · exact ⟨(setReadout_setMode _ _).trans (apart.resolve_left isOpen), setReadout_review _ _, setReadout_readout _ _⟩
  · exact ⟨setReadout_setMode _ _, (setReadout_review _ _).trans closed, setReadout_readout _ _⟩
  · exact ⟨(setReadout_setMode _ _).trans none_, (setReadout_review _ _).trans closed, setReadout_readout _ _⟩

/-! ### SELECT -/

/-- The step of set mode that SELECT goes to (09 R149). -/
def modeAfterSelect (d : Display) : SetMode :=
  match d.setMode with
  | .none => if d.readout = 8 then .hours else if d.readout = 9 then .limit else .none
  | .hours => .minutes
  | .minutes | .limit => .none

/-- The trip selection that SELECT goes to (09 TABLE 9-5). -/
def tripAfterSelect (d : Display) : Bool :=
  if (1 ≤ d.readout ∧ d.readout ≤ 4) ∧ d.setMode = .none then !d.selB else d.selB

/-- What SELECT leaves with no record SHOWING. -/
structure Selected (s t : State) : Prop where
  review : t.warn.review = .closed
  selB : t.disp.selB = tripAfterSelect s.disp
  setMode : t.disp.setMode = modeAfterSelect s.disp
  timed : t.disp.setMode ≠ .none → t.disp.setTimer = some (s.now + 10000)
    ∧ t.disp.blinkTimer = some (s.now + 500) ∧ t.disp.blinkShown = true

theorem selectOnReadout_selected (none_ : s.disp.setMode = .none) (closed : s.warn.review = .closed) :
    Selected s (selectOnReadout s) := by
  unfold selectOnReadout
  split
  case isTrue trip =>
    have low : 1 ≤ s.disp.readout ∧ s.disp.readout ≤ 4 := by simpa using trip
    have no8 : s.disp.readout ≠ 8 := by omega
    have no9 : s.disp.readout ≠ 9 := by omega
    exact ⟨closed, by simp [tripAfterSelect, low, none_], by simp [modeAfterSelect, none_, no8, no9],
      fun set => absurd none_ set⟩
  case isFalse other =>
    have keeps : tripAfterSelect s.disp = s.disp.selB := if_neg fun both => other (by simp [both.1])
    split
    · exact ⟨closed, keeps.symm, by simp_all [modeAfterSelect, setModeTo, restartBlink], fun _ => ⟨rfl, rfl, rfl⟩⟩
    · split
      · exact ⟨closed, keeps.symm, by simp_all [modeAfterSelect, setModeTo, restartBlink], fun _ => ⟨rfl, rfl, rfl⟩⟩
      · exact ⟨closed, keeps.symm, by simp_all [modeAfterSelect], fun set => absurd none_ set⟩

theorem selectAction_record (shown : showingRecord s = some r) : selectAction s = s := by
  rw [selectAction, shownNow_record shown]

theorem selectAction_bare (bare : showingRecord s = none) (apart : s.warn.review = .closed ∨ s.disp.setMode = .none) :
    Selected s (selectAction s) := by
  rcases shownNow_cases s with ⟨r, shown, _⟩ | ⟨_, isOpen, shown⟩ | ⟨_, closed, set, shown⟩ | ⟨_, closed, none_, shown⟩
  · simp [bare] at shown
  all_goals rw [selectAction, shown]
  · have acted := selectOnReadout_selected (s := closeReview s) (apart.resolve_left isOpen) rfl
    exact ⟨acted.review, acted.selB, acted.setMode, acted.timed⟩
  · have keeps : tripAfterSelect s.disp = s.disp.selB := if_neg fun both => set both.2
    dsimp only
    split
    case isTrue hours =>
      exact ⟨closed, keeps.symm, by simp [modeAfterSelect, hours, setModeTo, restartBlink], fun _ => ⟨rfl, rfl, rfl⟩⟩
    case isFalse other =>
      refine ⟨closed, keeps.symm, ?_, fun set => absurd rfl set⟩
      cases step : s.disp.setMode <;> simp_all [modeAfterSelect, leaveSetMode]
  · exact selectOnReadout_selected none_ closed

theorem selectAction_readout (s : State) : (selectAction s).disp.readout = s.disp.readout := by
  have onReadout : ∀ u, (selectOnReadout u).disp.readout = u.disp.readout := fun u => by
    unfold selectOnReadout
    repeat' split
    all_goals rfl
  unfold selectAction
  split
  · rfl
  · exact onReadout _
  · exact onReadout _
  · split <;> rfl

/-! ### RESET -/

theorem resetAction_record (shown : showingRecord s = some r) : resetAction s = s := by
  rw [resetAction, shownNow_record shown]

/-- Outside set mode, RESET at its acceptance only ends a review. -/
theorem resetAction_bare (bare : showingRecord s = none) (none_ : s.disp.setMode = .none) :
    (resetAction s).warn.review = .closed ∧ (resetAction s).clock = s.clock ∧ (resetAction s).trip = s.trip := by
  rcases shownNow_cases s with ⟨r, shown, _⟩ | ⟨_, _, shown⟩ | ⟨_, _, set, _⟩ | ⟨_, closed, _, shown⟩
  · simp [bare] at shown
  · rw [resetAction, shown]
    exact ⟨rfl, rfl, rfl⟩
  · exact absurd none_ set
  · rw [resetAction, shown]
    exact ⟨closed, rfl, rfl⟩

/-- In set mode, RESET steps the value (09 R149). -/
theorem resetAction_set (bare : showingRecord s = none) (closed : s.warn.review = .closed)
    (set : s.disp.setMode ≠ .none) : resetAction s = stepValue s := by
  have shown : shownNow s = .setMode := by simp [shownNow, bare, closed, set]
  rw [resetAction, shown]

/-- RESET at set-hours (04 R79). -/
theorem resetAction_hours (bare : showingRecord s = none) (closed : s.warn.review = .closed)
    (set : s.disp.setMode = .hours) : (resetAction s).trip = s.trip ∧ (resetAction s).clock
      = { s.clock with minutes := (clockMinutes s.clock + 60) % 1440, unset := false } := by
  rw [resetAction_set bare closed (by simp [set]), stepValue, set]
  exact ⟨rfl, rfl⟩

/-- RESET at set-minutes (04 R79). -/
theorem resetAction_minutes (bare : showingRecord s = none) (closed : s.warn.review = .closed)
    (set : s.disp.setMode = .minutes) : (resetAction s).trip = s.trip ∧ (resetAction s).clock = { s.clock with
      minutes := clockMinutes s.clock - clockMinutes s.clock % 60 + (clockMinutes s.clock % 60 + 1) % 60
      unset := false } := by
  have hour : clockMinutes s.clock / 60 * 60 = clockMinutes s.clock - clockMinutes s.clock % 60 := by omega
  rw [resetAction_set bare closed (by simp [set]), stepValue, set, ← hour]
  exact ⟨rfl, rfl⟩

/-- RESET on the speed limit (04 R80). -/
theorem resetAction_limit (bare : showingRecord s = none) (closed : s.warn.review = .closed)
    (set : s.disp.setMode = .limit) : (resetAction s).clock = s.clock ∧ (resetAction s).trip
      = { s.trip with speedLimit := if s.trip.speedLimit = 0 then 30
          else if s.trip.speedLimit < 200 then s.trip.speedLimit + 10 else 0 } := by
  have next : nextLimit s.trip.speedLimit = if s.trip.speedLimit = 0 then 30
      else if s.trip.speedLimit < 200 then s.trip.speedLimit + 10 else 0 := by
    unfold nextLimit
    split_ifs <;> omega
  rw [resetAction_set bare closed (by simp [set]), stepValue, set, ← next]
  exact ⟨rfl, rfl⟩

/-- Outside set mode, RESET fixes the shown trip (09 TABLE 9-5). -/
theorem resetHolds_bare (bare : showingRecord s = none) (none_ : s.disp.setMode = .none) :
    resetHolds s = if 1 ≤ s.disp.readout ∧ s.disp.readout ≤ 4 then .tripReset s.disp.selB (s.now + 2000)
      else .nothing := by
  have fixed : resetHolds s = resetOnReadout s := by
    rcases shownNow_cases s with ⟨r, shown, _⟩ | ⟨_, _, shown⟩ | ⟨_, _, set, _⟩ | ⟨_, _, _, shown⟩
    · simp [bare] at shown
    · rw [resetHolds, shown]
    · exact absurd none_ set
    · rw [resetHolds, shown]
  simp [fixed, resetOnReadout]

/-- On a reminder, RESET fixes its item (06 R106). -/
theorem resetHolds_reminder {st : ItemState} {i : Nat} (shown : showingRecord s = some r)
    (origin : r.origin = .reminder) (text : r.text = .service st i) : resetHolds s = .serviceReset i (s.now + 5000) := by
  rw [resetHolds, shownNow_record shown]
  simp [reminderItem, origin, text]

theorem resetHolds_other (shown : showingRecord s = some r) (origin : r.origin ≠ .reminder) :
    resetHolds s = .nothing := by
  have none_ : reminderItem r = none := by
    unfold reminderItem
    split
    · exact absurd ‹_› origin
    · rfl
  rw [resetHolds, shownNow_record shown]
  simp [none_]

/-! ### NOTE -/

/-- The review opens at the lowest entry that it shows, or with NO WARNINGS (07 R125). -/
theorem openReview_opens (s : State) : (openReview s).warn.reviewTimer = some (s.now + 2000)
    ∧ match (openReview s).warn.review with
      | .closed => False
      | .noWarnings => ∀ n, reviewable (warnEntry s n) = false
      | .entry n => reviewable (warnEntry s n) = true ∧ ∀ m < n, reviewable (warnEntry s m) = false := by
  have zero : reviewable (warnEntry s 0) = false := reviewable_outside (by decide)
  unfold openReview
  split
  case h_1 n next =>
    obtain ⟨_, here, between⟩ := nextReview_some next
    refine ⟨rfl, here, fun m below => ?_⟩
    rcases Nat.eq_zero_or_pos m with rfl | above
    · exact zero
    · exact between m above below
  case h_2 last =>
    refine ⟨rfl, fun n => ?_⟩
    rcases Nat.eq_zero_or_pos n with rfl | above
    · exact zero
    · exact nextReview_none last n above

/-- With no record SHOWING and no review open, NOTE leaves set mode and opens the review (09 R150). -/
theorem noteAction_opens (bare : showingRecord s = none) (closed : s.warn.review = .closed) :
    ∃ u, noteAction s = openReview u ∧ u.disp.setMode = .none ∧ u.warn = s.warn ∧ u.now = s.now := by
  rcases shownNow_cases s with ⟨r, shown, _⟩ | ⟨_, isOpen, _⟩ | ⟨_, _, _, shown⟩ | ⟨_, _, none_, shown⟩
  · simp [bare] at shown
  · exact absurd closed isOpen
  · exact ⟨leaveSetMode s, by rw [noteAction, shown], rfl, rfl, rfl⟩
  · exact ⟨s, by rw [noteAction, shown], none_, rfl, rfl⟩

/-- In a review NOTE moves its cursor (07 R125). -/
theorem noteAction_moves (bare : showingRecord s = none) (isOpen : s.warn.review ≠ .closed) :
    noteAction s = moveReview s := by
  have shown : shownNow s = .review := by simp [shownNow, bare, isOpen]
  rw [noteAction, shown]

theorem noteAction_record (shown : showingRecord s = some r) : noteAction s = noteRecord r.origin s := by
  rw [noteAction, shownNow_record shown]

/-- The reminder that the cursor's next item posts is the only one in a queue that had none. -/
theorem postReminder_only_one {i : Nat} (absent : ∀ x ∈ s.msg.queue, x.origin ≠ .reminder) :
    ∀ x ∈ (postReminder i s).msg.queue, x.origin = .reminder → x.text = .service (itemOf s i).state i := by
  have ofJoin : ∀ u : State, (∀ x ∈ u.msg.queue, x.origin ≠ .reminder) →
      ∀ x ∈ (select (joinRecord .reminder (.service (itemOf s i).state i) 5 (some 4) u)).msg.queue,
        x.origin = .reminder → x.text = .service (itemOf s i).state i := by
    intro u none_ x here isReminder
    have listed : (x.origin, x.text) ∈
        (select (joinRecord .reminder (.service (itemOf s i).state i) 5 (some 4) u)).msg.queue.map
          (fun x => (x.origin, x.text)) := List.mem_map_of_mem here
    rw [select_view fun _ _ _ _ => rfl] at listed
    obtain ⟨y, there, same⟩ := List.mem_map.mp listed
    obtain ⟨origin, text⟩ := Prod.mk.inj same
    rcases List.mem_append.mp there with old | new
    · exact absurd (origin.trans isReminder) (none_ y old)
    · rw [List.mem_singleton.mp new] at text
      exact text.symm
  rw [postReminder_msg]
  rcases msgPost_cases .reminder (.service (itemOf s i).state i) 5 (some 4) s with
    ⟨present, _⟩ | ⟨_, _, post⟩ | ⟨w, _, _, _, _, post⟩ | ⟨_, _, post⟩
  · simp [originPresent_false_iff.mpr absent] at present
  · rw [post]
    exact ofJoin s absent
  · rw [post]
    exact ofJoin _ fun x here => absent x (List.mem_filter.mp here).1
  · rw [post]
    exact fun x here isReminder => absurd isReminder (absent x here)

/-- A reminder that departs gives way to that of the next item SOON or worse, or to none (06 R104). -/
theorem departReminder_next {c : Nat} (cursor : s.service.cursor = some c) :
    (departRecord .reminder s).service.cursor = nextReminder s c
    ∧ ∀ x ∈ (departRecord .reminder s).msg.queue, x.origin = .reminder →
        ∃ i, nextReminder s c = some i ∧ x.text = .service (itemOf s i).state i := by
  have service : (removeRecord .reminder s).service = s.service := (removeRecord_only _ s).service (by decide)
  have absent := removeRecord_absent .reminder s
  have next : nextReminder (removeRecord .reminder s) c = nextReminder s c :=
    nextReminder_congr (congrArg Service.items service) c
  have departs : departRecord .reminder s = setCursor (nextReminder s c) (removeRecord .reminder s) := by
    rw [← next]
    exact advanceReminder_on (by rw [service]; exact cursor)
  rw [departs]
  refine ⟨setCursor_cursor _ _, fun x here isReminder => ?_⟩
  cases following : nextReminder s c with
  | none =>
    rw [following] at here
    exact absurd isReminder (absent x here)
  | some i =>
    rw [following] at here
    refine ⟨i, rfl, ?_⟩
    rw [← itemOf_congr (congrArg Service.items service)]
    let u : State := { removeRecord .reminder s with
      service := { (removeRecord .reminder s).service with cursor := some i } }
    have posts : setCursor (some i) (removeRecord .reminder s) = postReminder i u := rfl
    rw [posts] at here
    exact postReminder_only_one (s := u) absent x here isReminder

theorem noteRecord_removes {o : MsgOrigin} (other : o ≠ .reminder) (s : State) :
    ∀ x ∈ (noteRecord o s).msg.queue, x.origin ≠ o := by
  have removes : ∃ u, noteRecord o s = removeRecord o u := by
    unfold noteRecord
    split
    · exact ⟨_, departRecord_other other _⟩
    · exact ⟨_, departRecord_other other _⟩
  obtain ⟨u, same⟩ := removes
  rw [same]
  exact removeRecord_absent o u

/-- NOTE on the record of an ACTIVE entry takes the entry to NOTED (07 R120). -/
theorem noteRecord_noted {n : Nat} (whole : s.warn.entries.length = 24) (active : (warnEntry s n).status = .active) :
    (warnEntry (noteRecord (.warning n) s) n).status = .noted := by
  have number : isWarning n = true := by
    by_contra outside
    simp [warnEntry, outside, WarnEntry.clear] at active
  have unacked : unacknowledged (warnEntry s n) = true := by simp [unacknowledged, active]
  have departs : warnEntry (noteRecord (.warning n) s) n = warnEntry (acknowledge n s) n :=
    (removeRecord_entries (acknowledge n s) (.warning n)).entry n (by simp)
  have withdrawn : ∀ u, warnEntry (removeRecord (.warning n) (withdrawChime (.warning n) u)) n = warnEntry u n :=
    fun u => (withdrawn_entries u n).entry n (by simp)
  rw [departs, acknowledge]
  simp only [unacked, if_true]
  rw [withdrawn, warnEntry_changeWarn, warnEntry_modifyWarn_same whole number, if_pos active]

end

/-! ### The commands -/

section
variable {s : State}

/-- What a press command answers where the display is lit. -/
theorem press_lit {k : Key} {holds : State → KeyAction} {act : State → State} (on : awake s = true)
    (released : keyOf s.keys k = .released) (lit : findsDark k s = false) :
    (Host.Outcome.next (settled (acceptPress k holds act s)) : Host.Outcome State Fault Refusal)
      = .next (settled (holdKey k (.held (holds s)) (act (beforeAction s)))) := by
  rw [acceptPress_lit on released lit]

/-- The frame of a press is that of its noting and of its action. -/
theorem press_only {bs : List Block} {act : State → State} (acts : ∀ u, OnlyIn bs u (act u)) (k : Key)
    (v : KeyState) (s : State) : OnlyIn ([.power, .disp, .warn, .chime, .port, .keys] ++ bs) s
      (settled (holdKey k v (act (beforeAction s)))) :=
  ((((beforeAction_pressKept s).only.mono (by simp)).trans ((acts _).mono (List.subset_append_right _ _))).trans
    ((holdKey_only k v _).mono (by simp))).settled (by simp) (by simp)

/-- A press in WATCH lights the display for 30 s (09 R141, R146). -/
theorem pressNoted_displayTimer (watch : s.power.mode = .watch) :
    (pressNoted s).disp.displayTimer = some (s.now + 30000) := by
  have click : (pressNoted s).disp = (wakeDisplay s).disp := (keyClick_only _).disp (by decide)
  rw [click, wakeDisplay, if_pos watch]
  rfl

end

end Sys2Proof.Machine

open Sys2Proof Sys2Proof.Machine

/-- Settles O52: the noting of a press leaves what TABLE 9-5 reads, and each key's action follows its columns. -/
theorem pressesActByTheTable : Obligations.PressesActByTheTable := by
  intro s on whole apart
  have kept := beforeAction_pressKept s
  have now_ := kept.only.now
  have clock := kept.only.clock (by decide)
  have trip := kept.only.trip (by decide)
  have service := kept.only.service (by decide)
  have bareThen : showingRecord s = none → showingRecord (beforeAction s) = none := kept.showing.trans
  have shownThen : ∀ {r}, showingRecord s = some r → showingRecord (beforeAction s) = some r := kept.showing.trans
  have apartThen : (beforeAction s).warn.review = .closed ∨ (beforeAction s).disp.setMode = .none := by
    rw [kept.review, kept.setMode]
    exact apart
  refine ⟨fun released lit => ⟨_, press_lit on released lit, ?mode⟩,
    fun released lit => ⟨_, press_lit on released lit, ?select⟩,
    fun released lit => ⟨_, press_lit on released lit, ?reset⟩,
    fun released lit => ⟨_, press_lit on released lit, ?note⟩, fun k released dark => ?dark⟩
  case mode =>
    rw [settled_selB, settled_setMode, settled_readout, settled_warn, settled_keys, holdKey_disp, holdKey_warn]
    refine ⟨rfl, (modeAction_selB _).trans kept.selB, fun bare => ?_, fun record => ?_,
      (press_only modeAction_only .mode _ s).mono (by decide)⟩
    · obtain ⟨setMode, review, readout⟩ := modeAction_bare (bareThen bare) apartThen
      exact ⟨setMode, review, by rw [readout, kept.readout]; rfl⟩
    · obtain ⟨r, shown⟩ := Option.ne_none_iff_exists'.mp record
      rw [modeAction_record (shownThen shown), kept.readout]
  case select =>
    rw [settled_readout, settled_selB, settled_setMode, settled_setTimer, settled_blinkTimer, settled_blinkShown,
      settled_warn, holdKey_disp, holdKey_warn]
    refine ⟨(selectAction_readout _).trans kept.readout, fun bare => ?_, fun record => ?_,
      (press_only selectAction_only .select _ s).mono (by decide)⟩
    · obtain ⟨review, selB, setMode, timed⟩ := selectAction_bare (bareThen bare) apartThen
      rw [tripAfterSelect, kept.readout, kept.selB, kept.setMode] at selB
      rw [modeAfterSelect, kept.readout, kept.setMode] at setMode
      rw [now_] at timed
      exact ⟨review, selB, setMode, timed⟩
    · obtain ⟨r, shown⟩ := Option.ne_none_iff_exists'.mp record
      rw [selectAction_record (shownThen shown)]
      exact ⟨kept.selB, kept.setMode⟩
  case reset =>
    have closedThen : s.disp.setMode ≠ .none → (beforeAction s).warn.review = .closed := fun set =>
      kept.review.trans (apart.resolve_right set)
    rw [settled_warn, settled_clock, settled_trip, settled_keys, holdKey_warn, holdKey_clock, holdKey_trip]
    refine ⟨fun bare none_ => ?_, fun bare set => ?_, fun bare set => ?_, fun bare set => ?_, fun r shown => ?_,
      (press_only resetAction_only .reset _ s).mono (by decide)⟩
    · obtain ⟨review, sameClock, sameTrip⟩ := resetAction_bare (bareThen bare) (kept.setMode.trans none_)
      exact ⟨review, sameClock.trans clock, sameTrip.trans trip, congrArg KeyState.held (resetHolds_bare bare none_)⟩
    · have acted := resetAction_hours (bareThen bare) (closedThen (by simp [set])) (kept.setMode.trans set)
      rw [clock, trip] at acted
      exact acted.symm
    · have acted := resetAction_minutes (bareThen bare) (closedThen (by simp [set])) (kept.setMode.trans set)
      rw [clock, trip] at acted
      exact acted.symm
    · have acted := resetAction_limit (bareThen bare) (closedThen (by simp [set])) (kept.setMode.trans set)
      rw [clock, trip] at acted
      exact acted
    · rw [resetAction_record (shownThen shown)]
      exact ⟨clock, trip, fun st i origin text => congrArg KeyState.held (resetHolds_reminder shown origin text),
        fun origin => congrArg KeyState.held (resetHolds_other shown origin)⟩
  case note =>
    simp only [warnEntry_settled]
    rw [settled_setMode, settled_warn, settled_service, settled_msg, settled_keys, holdKey_disp, holdKey_warn,
      holdKey_service, holdKey_msg]
    refine ⟨rfl, fun bare closed => ?_, fun n bare shown => ?_, fun bare shown => ?_,
      fun r c shown origin cursor => ?_, fun r shown origin => ?_,
      (press_only noteAction_only .note _ s).mono (by decide)⟩
    · obtain ⟨u, opens, left, warn, now⟩ := noteAction_opens (bareThen bare) (kept.review.trans closed)
      obtain ⟨timer, review⟩ := openReview_opens u
      simp only [warnEntry_congr (congrArg Warn.entries warn), kept.reviewable] at review
      rw [opens, (openReview_only u).disp (by decide), timer, now, now_]
      exact ⟨left, rfl, review⟩
    · have moves := noteAction_moves (bareThen bare) (by rw [kept.review, shown]; simp)
      rw [moves, moveReview_entry (kept.review.trans shown)]
      simp only [← kept.reviewable, ← now_]
      cases next : nextReview (beforeAction s) n with
      | none => exact ⟨nextReview_none next, rfl⟩
      | some m =>
        obtain ⟨above, here, between⟩ := nextReview_some next
        exact ⟨above, here, between, rfl⟩
    · have moves := noteAction_moves (bareThen bare) (by rw [kept.review, shown]; simp)
      rw [moves, moveReview_noWarnings (kept.review.trans shown)]
      rfl
    · have items := congrArg Service.items service
      have on_ : (beforeAction s).service.cursor = some c := by rw [service]; exact cursor
      obtain ⟨next, alone⟩ := departReminder_next on_
      have departs : noteAction (beforeAction s) = departRecord .reminder (beforeAction s) := by
        rw [noteAction_record (shownThen shown), origin]
        rfl
      rw [departs, next]
      refine ⟨nextReminder_congr items c, fun x here isReminder => ?_⟩
      simp only [← itemOf_congr items]
      exact alone x here isReminder
    · rw [noteAction_record (shownThen shown)]
      refine ⟨noteRecord_removes origin _, fun n warning active => ?_⟩
      rw [warning]
      exact noteRecord_noted (kept.entries (entries_length_of_banksWhole whole)) ((kept.status n).trans active)
  case dark =>
    obtain ⟨holds, act, press⟩ := exec_pressOf k s
    let x : State := { s with keys := { s.keys with waking := none } }
    have kept : PressKept s (pressNoted x) := (keysPut_pressKept s _).trans (pressNoted_pressKept x)
    rw [acceptPress_dark on released dark] at press
    refine ⟨_, press, ?_⟩
    rw [settled_displayTimer, settled_readout, settled_selB, settled_setMode, settled_warn, settled_msg,
      settled_clock, settled_trip, settled_keys]
    exact ⟨keyOf_setKey_same k _ _, pressNoted_displayTimer (s := x), kept.readout, kept.selB, kept.setMode,
      kept.review, kept.msg, kept.only.clock (by decide), kept.only.trip (by decide)⟩
end

section
/-! PROOFS. Line queues: what keeps the transmit queue at 8 identities with one in flight while a frame is sent, the
intake queue at 4 commands, and a listen-only part silent, and what offers, attempts and answers do to them (10 R154,
R157 to R164). -/

namespace Sys2Proof.Machine

/-! ### The bounds -/

/-- The entries fit the transmit queue: 8 at most, each of another identity, and at most one in flight. -/
def EntriesFit (q : List TxEntry) : Prop := Fits (fun e : TxEntry => e.id) (fun e => e.inFlight) 1 q

theorem transmitWithin_iff {p : Port} : transmitWithin p = true ↔ EntriesFit p.queue
    ∧ p.queue.countP (fun e => e.inFlight) = if p.sending.isSome then 1 else 0 := by
  simp only [transmitWithin, Bool.and_eq_true, decide_eq_true_eq, distinct_iff]
  constructor
  · rintro ⟨⟨room, apart⟩, flight⟩
    exact ⟨⟨room, apart, by rw [flight]; split <;> simp⟩, flight⟩
  · rintro ⟨⟨room, apart, _⟩, flight⟩
    exact ⟨⟨room, apart⟩, flight⟩

theorem portSilent_iff {p : Port} : portSilent p = true ↔
    p.queue = [] ∧ p.intake = [] ∧ p.sending = none ∧ p.pulseUntil = none := by
  simp [portSilent, and_assoc]

/-- The part has an address and has left OFFLINE and STARTING. -/
def MaySpeak (s : State) : Prop :=
  s.straps.address.isSome = true ∧ s.power.mode ≠ .offline ∧ ∀ x, s.power.mode ≠ .starting x

theorem silenceHolds_iff {s : State} : silenceHolds s = true ↔ MaySpeak s ∨ portSilent s.port = true := by
  unfold silenceHolds MaySpeak
  cases s.power.mode <;> simp

theorem maySpeak_of_mayQueue {s : State} (may : mayQueue s = true) : MaySpeak s := by
  unfold mayQueue awake at may
  unfold MaySpeak
  cases mode : s.power.mode <;> simp_all

theorem MaySpeak.of_same {s t : State} (speaks : MaySpeak s) (mode : t.power.mode = s.power.mode)
    (straps : t.straps = s.straps) : MaySpeak t := by
  unfold MaySpeak
  rw [mode, straps]
  exact speaks

theorem MaySpeak.of_only {bs : List Block} {s t : State} (speaks : MaySpeak s) (only : OnlyIn bs s t)
    (power : Block.power ∉ bs) (straps : Block.straps ∉ bs) : MaySpeak t :=
  speaks.of_same (congrArg Power.mode (only.power power)) (only.straps straps)

/-! ### The relations -/

/-- The bounds of a port that hold of `p` hold of `q`. -/
structure PortKept (p q : Port) : Prop where
  transmit : transmitWithin p = true → transmitWithin q = true
  intake : intakeWithin p = true → intakeWithin q = true
  silent : portSilent p = true → portSilent q = true

/-- The bounds of the line's queues and the silence that hold of `s` hold of `t`. -/
structure LineKept (s t : State) : Prop where
  transmit : transmitWithin s.port = true → transmitWithin t.port = true
  intake : intakeWithin s.port = true → intakeWithin t.port = true
  silence : silenceHolds s = true → silenceHolds t = true

theorem LineKept.refl (s : State) : LineKept s s := ⟨id, id, id⟩

theorem LineKept.trans {s t u : State} (h : LineKept s t) (k : LineKept t u) : LineKept s u :=
  ⟨k.transmit ∘ h.transmit, k.intake ∘ h.intake, k.silence ∘ h.silence⟩

theorem LineKept.ite {c : Prop} [Decidable c] {s t u : State} (h : LineKept s t) (k : LineKept s u) :
    LineKept s (if c then t else u) := by
  split <;> assumption

theorem LineKept.foldl {α : Type} {f : State → α → State} (h : ∀ t a, LineKept t (f t a)) :
    ∀ (l : List α) (s : State), LineKept s (l.foldl f s)
  | [], s => .refl s
  | a :: rest, s => (h s a).trans (LineKept.foldl h rest (f s a))

/-- A part that may speak where it could before keeps silent when its port does. -/
theorem LineKept.of_port {s t : State} (kept : PortKept s.port t.port) (speaks : MaySpeak s → MaySpeak t) :
    LineKept s t :=
  ⟨kept.transmit, kept.intake, fun silence =>
    silenceHolds_iff.mpr ((silenceHolds_iff.mp silence).imp speaks kept.silent)⟩

/-- Where the port stays as it was and the part may speak as before, everything is kept. -/
theorem LineKept.of_same {s t : State} (port : t.port = s.port) (speaks : MaySpeak s → MaySpeak t) : LineKept s t :=
  .of_port (by rw [port]; exact ⟨id, id, id⟩) speaks

/-- A part that may speak has its queues alone to keep. -/
theorem LineKept.of_speaking {s t : State} (speaks : MaySpeak t)
    (transmit : transmitWithin s.port = true → transmitWithin t.port = true)
    (intake : intakeWithin s.port = true → intakeWithin t.port = true) : LineKept s t :=
  ⟨transmit, intake, fun _ => silenceHolds_iff.mpr (.inl speaks)⟩

/-- A port in STARTING is silent, and stays so in every power state while it is as it was. -/
theorem LineKept.of_starting {s t : State} {x : StartStep} (starting : s.power.mode = .starting x)
    (port : t.port = s.port) : LineKept s t := by
  refine ⟨by rw [port]; exact id, by rw [port]; exact id, fun silence => silenceHolds_iff.mpr (.inr ?_)⟩
  rw [port]
  exact (silenceHolds_iff.mp silence).resolve_left fun speaks => speaks.2.2 x starting

/-- A port after a cold start meets every bound. -/
theorem LineKept.of_cold {s t : State} (port : t.port = Port.cold) : LineKept s t := by
  refine ⟨fun _ => ?_, fun _ => ?_, fun _ => silenceHolds_iff.mpr (.inr ?_)⟩ <;> rw [port] <;> decide

/-- An operation that leaves the port, the power unit and the straps. -/
theorem LineKept.of_only {bs : List Block} {s t : State} (only : OnlyIn bs s t)
    (quiet : bs.all (fun b => b ≠ .power ∧ b ≠ .straps ∧ b ≠ .port) = true) : LineKept s t := by
  have out : ∀ b ∈ bs, b ≠ .power ∧ b ≠ .straps ∧ b ≠ .port := by simpa using quiet
  exact .of_same (only.port fun inside => (out _ inside).2.2 rfl) fun speaks =>
    speaks.of_only only (fun inside => (out _ inside).1 rfl) fun inside => (out _ inside).2.1 rfl

/-- A change of the port alone. -/
theorem LineKept.put_port {s : State} {q : Port} (kept : PortKept s.port q) : LineKept s { s with port := q } :=
  .of_port kept id

/-- A change of the power unit that leaves the power state. -/
theorem LineKept.put_power {s : State} {x : Power} (mode : x.mode = s.power.mode) :
    LineKept s { s with power := x } :=
  .of_same rfl fun speaks => speaks.of_same mode rfl

theorem LineKept.settled {s t : State} (h : LineKept s t) : LineKept s (settled t) :=
  h.trans (.of_same (settled_port t) fun speaks => speaks.of_same (settled_mode t) (settled_straps t))

/-! ### Offers to the transmit queue -/

theorem replaceTx_inFlight (id : FrameId) (slots : List Slot) (periodic : Bool) (e : TxEntry) :
    (replaceTx id slots periodic e).inFlight = e.inFlight := by
  unfold replaceTx
  split
  · split <;> rfl
  · rfl

theorem txOffer_sending (id : FrameId) (slots : List Slot) (periodic : Bool) (p : Port) :
    (txOffer id slots periodic p).2.sending = p.sending := by
  rcases txOffer_cases id slots periodic p with ⟨_, eq⟩ | ⟨_, _, eq⟩ | ⟨_, _, _, eq⟩ | ⟨_, _, _, _, eq⟩ |
    ⟨_, _, _, _, eq⟩ <;> rw [eq]

/-- A mirror that gives way is not the entry in flight. -/
theorem countP_inFlight_filter_yielding (q : List TxEntry) :
    (q.filter (fun e => !yieldingMirror e)).countP (fun e => e.inFlight) = q.countP (fun e => e.inFlight) := by
  rw [List.countP_filter]
  refine List.countP_congr fun e _ => ?_
  cases flies : e.inFlight <;> simp [yieldingMirror, flies]

/-- An offer keeps the transmit queue within its bounds (10 R159). -/
theorem txOffer_transmit (name : FrameId) (slots : List Slot) (periodic : Bool) {p : Port}
    (within : transmitWithin p = true) : transmitWithin (txOffer name slots periodic p).2 = true := by
  obtain ⟨fit, flight⟩ := transmitWithin_iff.mp within
  refine transmitWithin_iff.mpr ?_
  rw [txOffer_sending, ← flight]
  rcases txOffer_cases name slots periodic p with ⟨_, offer⟩ | ⟨absent, room, offer⟩ | ⟨_, _, _, offer⟩ |
    ⟨absent, _, _, yields, offer⟩ | ⟨_, _, _, _, offer⟩ <;> rw [offer]
  · refine ⟨Fits.map fit (replaceTx_id name slots periodic) fun e => ?_, ?_⟩
    · rw [replaceTx_inFlight]
      exact id
    · rw [List.countP_map]
      exact List.countP_congr fun e _ => by rw [Function.comp_apply, replaceTx_inFlight]
  · exact ⟨Fits.join fit room (txPresent_false_iff.mp absent) rfl, by simp [newTx]⟩
  · exact ⟨fit, rfl⟩
  · obtain ⟨mirror, here, gives⟩ := List.any_eq_true.mp yields
    refine ⟨Fits.join (Fits.sublist fit List.filter_sublist) (Fits.length_filter_lt fit here (by simp [gives]))
      (fun e there => txPresent_false_iff.mp absent e (List.mem_filter.mp there).1) rfl, ?_⟩
    rw [List.countP_append, countP_inFlight_filter_yielding]
    simp [newTx]
  · exact ⟨fit, rfl⟩

/-- A part that may queue offers a frame and keeps its bounds; another offers none. -/
theorem offerOwned_line (what : Reoffer) (s : State) : LineKept s (offerOwned what s) := by
  cases may : mayQueue s with
  | false =>
    rw [offerOwned_silent what may]
    exact .refl s
  | true =>
    have speaks := (maySpeak_of_mayQueue may).of_only (offerOwned_only what s) (by decide) (by decide)
    refine .of_speaking speaks (fun within => ?_) fun within => ?_
    · rcases offerOwned_cases what s with ⟨_, eq⟩ | ⟨_, _, eq⟩ | ⟨id, slots, _, _, _, eq⟩ | ⟨id, slots, _, _, _, eq⟩
        <;> rw [eq]
      · exact within
      · exact within
      · exact txOffer_transmit id slots false within
      · exact txOffer_transmit id slots false within
    · unfold intakeWithin at within ⊢
      rw [offerOwned_intake]
      exact within

theorem offerPeriodicMirror_line (s : State) : LineKept s (offerPeriodicMirror s) := by
  unfold offerPeriodicMirror
  split
  · refine .of_speaking (maySpeak_of_mayQueue ‹mayQueue s = true›) (txOffer_transmit _ _ true) fun within => ?_
    unfold intakeWithin at within ⊢
    rw [txOffer_intake]
    exact within
  · exact .refl s

theorem answerBits_transmit (n : Nat) : ∀ (bits : List Nat) {s : State}, transmitWithin s.port = true →
    transmitWithin (answerBits n bits s).port = true
  | [], s, within => by
    rw [answerBits, modifyDemand_port]
    exact within
  | b :: rest, s, within => by
    unfold answerBits
    split
    · have offer := txOffer_transmit (answerFrame s n (demandOf s n).index b).1
        (answerFrame s n (demandOf s n).index b).2 false within
      split <;> rename_i p taken
      · refine answerBits_transmit n rest ?_
        rw [modifyDemand_port]
        rw [taken] at offer
        exact offer
      · rw [modifyDemand_port]
        exact within
    · exact answerBits_transmit n rest within

/-- A part that may speak answers a demand and keeps its bounds. -/
theorem answerBits_line {s : State} (speaks : MaySpeak s) (n : Nat) (bits : List Nat) :
    LineKept s (answerBits n bits s) := by
  refine .of_speaking (speaks.of_only (answerBits_only n bits s) (by decide) (by decide)) (answerBits_transmit n bits)
    fun within => ?_
  unfold intakeWithin at within ⊢
  rw [answerBits_intake]
  exact within

theorem takeDemand_transmit (n : Nat) (mask : BitVec 6) (index : Option Nat) {s : State}
    (within : transmitWithin s.port = true) : transmitWithin (takeDemand n mask index s).port = true := by
  have merged : transmitWithin (modifyDemand n (mergeDemand mask index) s).port = true := by
    rw [modifyDemand_port]
    exact within
  unfold takeDemand
  dsimp only
  split
  · exact merged
  · exact answerBits_transmit n _ merged

/-! ### Attempts -/

theorem mem_of_flying {s : State} {e : TxEntry} (flies : flying s = some e) : e ∈ s.port.queue ∧ e.inFlight = true :=
  ⟨List.mem_of_find?_eq_some flies, List.find?_some (p := fun x : TxEntry => x.inFlight) flies⟩

/-- The start of an attempt puts the head in flight, with the frame that it sends (10 R154, R159). -/
theorem beginAttempt_line (s : State) : LineKept s (beginAttempt s) := by
  unfold beginAttempt
  split
  · rename_i may
    have may : mayQueue s = true ∧ s.port.sending = none := by
      simp only [mayTransmit, Bool.and_eq_true, Option.isNone_iff_eq_none] at may
      exact ⟨may.1.1.1.1.1, may.1.1.2⟩
    split
    · rename_i e own head _
      refine .of_speaking (maySpeak_of_mayQueue may.1) (fun within => ?_) id
      obtain ⟨fit, flight⟩ := transmitWithin_iff.mp within
      rw [may.2] at flight
      have waits : ∀ x ∈ s.port.queue, x.inFlight = false := by simpa using flight
      let begins : TxEntry → TxEntry := fun x => if x.id = e.id then { x with inFlight := true } else x
      have fit' : EntriesFit (s.port.queue.map begins) :=
        Fits.mark_key (k := e.id) (fit.unmarked waits) (fun x => by dsimp only [begins]; split <;> rfl)
          fun x other => if_neg other
      refine transmitWithin_iff.mpr ⟨fit', le_antisymm fit'.marks (List.countP_pos_iff.mpr ?_)⟩
      exact ⟨begins e, List.mem_map_of_mem (txHead_some head).1, by simp [begins]⟩
    · exact .refl s
  · exact .refl s

/-- What an outcome does to its entry keeps its identity and begins no other attempt. -/
def ActKeeps (act : TxEntry → Option TxEntry) : Prop :=
  ∀ e x, act e = some x → x.id = e.id ∧ x.inFlight = e.inFlight

theorem actKeeps_some : ActKeeps some := fun _ _ same => by
  cases same
  exact ⟨rfl, rfl⟩

theorem actKeeps_none : ActKeeps fun _ => none := fun _ _ same => by cases same

theorem actKeeps_answerAct (now : Nat) (a : Option Answer) : ActKeeps (answerAct now a) := fun e x acted => by
  unfold answerAct at acted
  split at acted
  · cases acted
  · cases acted
  · split at acted <;> cases acted
    exact ⟨rfl, rfl⟩
  · split at acted <;> cases acted
    exact ⟨rfl, rfl⟩

/-- An entry that an attempt's end leaves in the queue has its identity and is not in flight. -/
theorem landEntry_some {sleeping : Bool} {act : TxEntry → Option TxEntry} (keeps : ActKeeps act) {e x : TxEntry}
    (landed : landEntry sleeping act e = some x) : x.id = e.id ∧ x.inFlight = false := by
  unfold landEntry at landed
  split at landed
  · split at landed
    · cases landed
    · split at landed
      · cases landed
        exact ⟨rfl, rfl⟩
      · exact keeps _ _ landed
  · cases landed
    exact ⟨rfl, by simpa using ‹¬e.inFlight = true›⟩

/-- Of a list whose places are kept with their keys or left out, the keys are a part of those before. -/
theorem map_filterMap_sublist {α κ : Type} {key : α → κ} {f : α → Option α}
    (keeps : ∀ x y, f x = some y → key y = key x) :
    ∀ l : List α, ((l.filterMap f).map key).Sublist (l.map key)
  | [] => .slnil
  | x :: rest => by
    have ih := map_filterMap_sublist keeps rest
    cases left : f x with
    | none =>
      rw [List.filterMap_cons_none left]
      exact ih.cons _
    | some y =>
      rw [List.filterMap_cons_some left, List.map_cons, List.map_cons, keeps x y left]
      exact ih.cons_cons _

/-- An attempt's end leaves no entry in flight and nothing being sent (10 R160). -/
theorem endAttempt_port {act : TxEntry → Option TxEntry} (keeps : ActKeeps act) (s : State) :
    PortKept s.port (endAttempt act s).port where
  transmit within := by
    obtain ⟨fit, _⟩ := transmitWithin_iff.mp within
    have landed : ∀ x ∈ (endAttempt act s).port.queue, x.inFlight = false := fun x here => by
      obtain ⟨_, _, left⟩ := List.mem_filterMap.mp here
      exact (landEntry_some keeps left).2
    have none_ : (endAttempt act s).port.queue.countP (fun e => e.inFlight) = 0 := by simpa using landed
    have apart := map_filterMap_sublist (key := fun e : TxEntry => e.id)
      (fun _ _ left => (landEntry_some (sleeping := s.power.mode = .sleep) keeps left).1) s.port.queue
    exact transmitWithin_iff.mpr
      ⟨⟨(List.length_filterMap_le _ _).trans fit.room, apart.nodup fit.keys, by omega⟩, none_⟩
  intake := id
  silent silent := by
    obtain ⟨queue, intake, _, pulse⟩ := portSilent_iff.mp silent
    exact portSilent_iff.mpr ⟨by simp [endAttempt, queue], intake, rfl, pulse⟩

theorem endAttempt_line {act : TxEntry → Option TxEntry} (keeps : ActKeeps act) (s : State) :
    LineKept s (endAttempt act s) := .put_port (endAttempt_port keeps s)

theorem markSentWhole_line (k : FrameKind) (s : State) : LineKept s (markSentWhole k s) :=
  .of_port ⟨id, id, id⟩ id

theorem countFault_line (s : State) : LineKept s (countFault s) :=
  .ite (.of_port ⟨id, id, id⟩ id) (.of_port ⟨id, id, id⟩ id)

theorem closeSlot_line (e : TxEntry) (answer : Option Answer) (s : State) : LineKept s (closeSlot e answer s) := by
  have ended := (endAttempt_line (actKeeps_answerAct s.now answer) s).trans (markSentWhole_line e.id.kind _)
  exact .ite (ended.trans (.of_only (modifyRoster_only _ _ _) rfl)) ended

/-- The end of a retry delay changes no identity and no flight. -/
theorem endRetry_port (name : FrameId) (p : Port) : PortKept p { p with
    queue := p.queue.map (fun e => if e.id = name then { e with retry := none } else e) } := by
  have sameId : ∀ e : TxEntry, (if e.id = name then { e with retry := none } else e).id = e.id := fun e => by
    split <;> rfl
  have sameFlight : ∀ e : TxEntry, (if e.id = name then { e with retry := none } else e).inFlight = e.inFlight :=
    fun e => by split <;> rfl
  refine ⟨fun within => ?_, id, fun silent => ?_⟩
  · obtain ⟨fit, flight⟩ := transmitWithin_iff.mp within
    refine transmitWithin_iff.mpr ⟨Fits.map fit sameId fun e => by rw [sameFlight]; exact id, ?_⟩
    rw [← flight, List.countP_map]
    exact List.countP_congr fun e _ => by rw [Function.comp_apply, sameFlight]
  · obtain ⟨queue, rest⟩ := portSilent_iff.mp silent
    exact portSilent_iff.mpr ⟨by simp [queue], rest⟩

/-! ### Answers and the intake queue -/

/-- A command is taken only where the intake queue has room (10 R158). -/
theorem decideAnswer_room {s : State} {code : Byte} {h : Heard} {c : Command}
    (taken : (decideAnswer s code h).2 = some c) : s.port.intake.length < 4 := by
  unfold decideAnswer at taken
  split at taken
  · cases taken
  · split at taken
    · cases taken
    · split at taken
      · cases taken
      · split at taken
        · cases taken
        · split at taken
          · cases taken
          · split at taken
            · cases taken
            · exact Nat.lt_of_not_le ‹_›

theorem answerHeard_line (code : Byte) (h : Heard) (s : State) : LineKept s (answerHeard code h s) := by
  unfold answerHeard
  split
  · refine .of_speaking (maySpeak_of_mayQueue ‹answers s = true›) id fun within => ?_
    have room : s.port.intake.length ≤ 4 := by simpa [intakeWithin] using within
    dsimp only
    split
    · have := decideAnswer_room ‹(decideAnswer s code h).2 = some _›
      simpa [intakeWithin] using this
    · simpa [intakeWithin] using room
  · exact .put_port ⟨id, id, id⟩

theorem dropHead_line (s : State) : LineKept s (dropHead s) := by
  refine .put_port ⟨id, fun within => ?_, fun silent => ?_⟩
  · have room : s.port.intake.length ≤ 4 := by simpa [intakeWithin] using within
    simp [intakeWithin]
    omega
  · obtain ⟨queue, intake, rest⟩ := portSilent_iff.mp silent
    exact portSilent_iff.mpr ⟨queue, by simp [intake], rest⟩

end Sys2Proof.Machine
end

section
/-! PROOFS. Line queues, operation by operation: what the chime set, the warnings, the reports, the power states and the
keys do to the bounds of the line's queues and to the silence (10 R158 to R164). -/

namespace Sys2Proof.Machine

/-! ### The chime set and its posts -/

theorem reportSource_line (s t : State) : LineKept t (reportSource s t) :=
  .ite (.refl t) (offerOwned_line .chimeStatus t)

theorem withArbiter_line {change : State → State} (only : ∀ t, OnlyIn [.chime] t (change t)) (s : State) :
    LineKept s (withArbiter change s) :=
  LineKept.trans (.of_only ((only s).trans (arbiterDecide_only _)) rfl) (reportSource_line s _)

theorem hushChanged_line (s : State) : LineKept s (hushChanged s) := withArbiter_line (fun t => .refl _ t) s

theorem withdrawChime_line (src : ChimeSource) (s : State) : LineKept s (withdrawChime src s) :=
  .ite (withArbiter_line (removeRequest_only src) s) (.refl s)

theorem chimePost_line (src : ChimeSource) (pat : ChimePattern) (prio reps : Nat) (s : State) :
    LineKept s (chimePost src pat prio reps s).2 := by
  rcases chimePost_cases src pat prio reps s with ⟨_, post⟩ | ⟨_, _, post⟩ | ⟨_, _, _, post⟩
    | ⟨w, _, _, _, _, _, post⟩ | ⟨_, _, _, post⟩ <;> rw [post]
  · exact .refl s
  · exact withArbiter_line (replaceRequest_only src pat prio reps) s
  · exact withArbiter_line (joinRequest_only src pat prio reps) s
  · exact withArbiter_line (change := fun t => joinRequest src pat prio reps (removeRequest w.source t))
      (fun t => (removeRequest_only w.source t).trans (joinRequest_only src pat prio reps _)) s
  · exact .refl s

theorem postChime_line (src : ChimeSource) (pat : ChimePattern) (prio reps : Nat) (s : State) :
    LineKept s (postChime src pat prio reps s).2 := by
  have post := chimePost_line src pat prio reps s
  unfold postChime
  split <;> rename_i posted <;> rw [posted] at post
  · exact post
  · exact post
  · exact post.trans (.of_only (chimeDropped_only _ _) rfl)

theorem elementOver_line (s : State) : LineKept s (elementOver s) := by
  unfold elementOver
  split
  · exact LineKept.trans (.of_only (endElement_only _ s) rfl) (reportSource_line s _)
  · exact .refl s

theorem peerChime_line (source : Nat) (pattern : ChimePattern) (reps : Nat) (s : State) :
    LineKept s (peerChime source pattern reps s) :=
  .ite (withdrawChime_line _ s) (postChime_line _ _ _ _ s)

/-! ### Warnings -/

theorem afterEntry7_line (before after : Bool) (s : State) : LineKept s (afterEntry7 before after s) := by
  have timed : ∀ f, LineKept s { s with fuel := f } := fun f => .of_only (only_fuel s f) rfl
  exact .ite ((timed _).trans (offerOwned_line .transferStop _)) (.ite (timed _) (.refl s))

theorem changeWarn_line (n : Nat) (f : WarnEntry → WarnEntry) (s : State) : LineKept s (changeWarn n f s) := by
  have changed : LineKept s (modifyWarn n f s) := .of_only (modifyWarn_only n f s) rfl
  exact .ite (changed.trans (afterEntry7_line _ _ _)) changed

theorem postWarnChime_line (n : Nat) (s : State) : LineKept s (postWarnChime n s) := by
  unfold postWarnChime
  split
  · rename_i pat reps _
    have post := postChime_line (.warning n) pat (warnPriority n) reps s
    split <;> rename_i taken <;> rw [taken] at post
    · exact post.trans (.of_only (modifyWarn_only _ _ _) rfl)
    · exact post
  · exact .of_only (modifyWarn_only _ _ s) rfl

theorem postOutstanding_line (n : Nat) (s : State) : LineKept s (postOutstanding n s) := by
  have chime : LineKept s (if (warnEntry s n).chimeOut then postWarnChime n s else s) :=
    .ite (postWarnChime_line n s) (.refl s)
  exact (chime.trans (.ite (.of_only (postWarnMessage_only n _) rfl) (.refl _))).trans
    (.of_only (modifyWarn_only n _ _) rfl)

theorem enterActive_line (n c : Nat) (s : State) : LineKept s (enterActive n c s) :=
  .ite ((changeWarn_line _ _ s).trans (postOutstanding_line n _)) (changeWarn_line _ _ s)

/-- The posts of an entry are withdrawn after its change. -/
theorem withdrawn_line (n : Nat) (f : WarnEntry → WarnEntry) (s : State) :
    LineKept s (removeRecord (.warning n) (withdrawChime (.warning n) (changeWarn n f s))) :=
  ((changeWarn_line n f s).trans (withdrawChime_line _ _)).trans (.of_only (removeRecord_only _ _) rfl)

theorem acknowledge_line (n : Nat) (s : State) : LineKept s (acknowledge n s) := .ite (withdrawn_line n _ s) (.refl s)

theorem evaluatedTrue_line (n : Nat) (s : State) : LineKept s (evaluatedTrue n s) := by
  unfold evaluatedTrue
  dsimp only
  split
  case h_1 | h_2 => exact .ite (enterActive_line _ _ s) (changeWarn_line _ _ s)
  case h_3 => exact .refl s
  case h_4 => exact .ite (enterActive_line _ _ s) (.refl s)
  case h_5 => exact changeWarn_line _ _ s

theorem evaluatedFalse_line (n : Nat) (s : State) : LineKept s (evaluatedFalse n s) := by
  unfold evaluatedFalse
  dsimp only
  split
  case h_1 => exact .refl s
  case h_2 => exact changeWarn_line _ _ s
  all_goals exact .ite (withdrawn_line n _ s) (changeWarn_line _ _ s)

theorem evaluate_line (s : State) (n : Nat) : LineKept s (evaluate s n) := by
  unfold evaluate
  dsimp only
  split
  · split
    · exact .ite (evaluatedTrue_line n s) (evaluatedFalse_line n s)
    · exact .refl s
  · exact .refl s

theorem applyGates_line (s : State) : LineKept s (applyGates s) :=
  .foldl (fun t n => .ite (withdrawn_line n _ t) (.refl t)) _ s

theorem evaluateReport_line (k : ReportKind) (s : State) : LineKept s (evaluateReport k s) := .foldl evaluate_line _ s

/-! ### Frames heard -/

theorem noteHeard_line (h : Heard) (s : State) : LineKept s (noteHeard h s) :=
  .of_same (noteHeard_port h s) fun speaks => speaks.of_same (noteHeard_mode h s) (noteHeard_straps h s)

theorem hearFrame_line {handle : State → State} (handles : ∀ t, LineKept t (handle t)) (fits : Bool) (h : Heard)
    (s : State) : LineKept s (hearFrame fits h handle s) := by
  unfold hearFrame
  split
  · exact .refl s
  · exact .refl s
  · exact .of_only (noteClash_only s) rfl
  · exact (noteHeard_line h s).trans (handles _)

theorem consumers_line (k : ReportKind) (h : Heard) (d e : Nat) (call : Bool) (s : State) :
    LineKept s (consumers k h d e call s) := by
  cases k
  case engine =>
    exact (LineKept.trans (.of_only (followEngine_only _ _ s) rfl) (applyGates_line _)).trans (evaluateReport_line _ _)
  case fuelFlow => exact .of_only (consumers_only .fuelFlow h d e call s) rfl
  case chassis =>
    have moved : LineKept s (issue pulseDelta d s) := .of_only (issue_only pulseDelta_only d s) rfl
    have speeds := ((moved.trans (.of_only (followStandstill_only (slotAt h.slots 2) _) rfl)).trans
      (.of_only (holdSpeed_only (slotAt h.slots 2) _) rfl)).trans
        (.of_only (takeGateSpeed_only h.ready (slotAt h.slots 2) _) rfl)
    exact (speeds.trans (applyGates_line _)).trans (evaluateReport_line _ _)
  case tank => exact .of_only (consumers_only .tank h d e call s) rfl
  case bodyDoors | bodyLamps => exact evaluateReport_line _ s
  case rearConsole =>
    have called : LineKept s (rearCall s) := (postChime_line _ _ _ _ s).trans (.of_only (postNote_only _ _ _ _ _) rfl)
    exact LineKept.trans (.ite called (.refl s)) (hushChanged_line _)

theorem offerReport_line (k : ReportKind) (h : Heard) (s : State) : LineKept s (offerReport k h s) := by
  unfold offerReport
  split
  · exact LineKept.trans (.of_only (only_bus s _) rfl) (consumers_line k h _ _ _ _)
  · exact .of_only (markRival_only k h.source s) rfl
  · exact .refl s

theorem staleEffects_line (k : ReportKind) (s : State) : LineKept s (staleEffects k s) := by
  unfold staleEffects
  split
  · exact .of_only (clearStandstill_only s) rfl
  · exact .of_only (clearPump_only s) rfl
  · exact hushChanged_line s
  · exact .refl s

theorem expireStale_line (k : ReportKind) (s : State) : LineKept s (expireStale k s) := by
  unfold expireStale
  split
  · exact .ite ((LineKept.trans (.of_only (only_bus s _) rfl) (staleEffects_line k _)).trans
      (offerOwned_line _ _)) (.refl s)
  · exact .refl s

/-! ### Power states -/

/-- A start into RUN or WATCH leaves the port, and a part with an address may then speak. -/
theorem LineKept.of_start {s t : State} (port : t.port = s.port) (straps : t.straps = s.straps)
    (mode : t.power.mode = .run ∨ t.power.mode = .watch ∨ t.power.mode = .sleep) : LineKept s t := by
  refine .of_same port fun ⟨address, _⟩ => ⟨straps ▸ address, ?_⟩
  rcases mode with on | on | on <;> simp [on]

theorem enterRun_line (s : State) : LineKept s (enterRun s) :=
  LineKept.trans (.of_start (t := runBegun s) rfl rfl (.inl rfl)) (applyGates_line _)

theorem watchBegun_line (g : Gauges) (s : State) : LineKept s (watchBegun g s) :=
  .of_start rfl rfl (.inr (.inl rfl))

theorem startInto_line (toRun : Bool) (s : State) : LineKept s (startInto toRun s) :=
  .ite (enterRun_line s) ((watchBegun_line _ s).trans (applyGates_line _))

theorem enterWatch_line (s : State) : LineKept s (enterWatch s) :=
  (((watchBegun_line _ s).trans (.of_only (endReminders_only _) rfl)).trans (applyGates_line _)).trans
    (.of_only (offerStores_only _) rfl)

/-- In SLEEP the entry in flight alone stays queued (10 R164). -/
theorem sleepPort_kept (p : Port) : PortKept p (sleepPort p) where
  transmit within := by
    obtain ⟨fit, flight⟩ := transmitWithin_iff.mp within
    refine transmitWithin_iff.mpr ⟨Fits.sublist fit List.filter_sublist, ?_⟩
    rw [← show _ = if (sleepPort p).sending.isSome then 1 else 0 from flight]
    exact (List.countP_filter ..).trans (List.countP_congr fun e _ => by simp)
  intake _ := rfl
  silent silent := by
    obtain ⟨queue, _, sending, _⟩ := portSilent_iff.mp silent
    exact portSilent_iff.mpr ⟨by simp [sleepPort, queue], rfl, sending, rfl⟩

theorem enterSleep_line (s : State) : LineKept s (enterSleep s) := by
  have emptied : LineKept s { s with port := sleepPort s.port } := .put_port (sleepPort_kept s.port)
  exact emptied.trans (.of_start rfl rfl (.inr (.inr rfl)))

/-- A wake start from SLEEP empties the transmit queue, and a warm restart keeps it (10 TABLE 10-8). -/
theorem wakePort_kept (warm : Bool) (p : Port) : PortKept p (wakePort warm p) := by
  cases warm
  · refine ⟨fun _ => rfl, fun _ => rfl, fun silent => ?_⟩
    obtain ⟨_, _, _, pulse⟩ := portSilent_iff.mp silent
    exact portSilent_iff.mpr ⟨rfl, rfl, rfl, pulse⟩
  · refine ⟨id, fun _ => rfl, fun silent => ?_⟩
    obtain ⟨queue, _, sending, pulse⟩ := portSilent_iff.mp silent
    exact portSilent_iff.mpr ⟨queue, rfl, sending, pulse⟩

theorem wakeBlocks_line (warm : Bool) (kind : Nat) (s : State) : LineKept s (wakeBlocks warm kind s) := by
  have woken : LineKept s { s with port := wakePort warm s.port } := .put_port (wakePort_kept warm s.port)
  have quiet : ∀ t, LineKept t (emptyMessages (emptyChimes t)) := fun t =>
    (LineKept.trans (.of_only (only_chime t _) rfl) (reportSource_line t _)).trans (.of_only (emptyMessages_only _) rfl)
  exact (woken.trans (quiet _)).trans (.of_same rfl id)

theorem wakeStart_line (toRun : Bool) (s : State) : LineKept s (wakeStart toRun s) := by
  have woken := (wakeBlocks_line false 1 s).trans (startInto_line toRun _)
  have stored := (woken.trans (.of_only (reofferAll_only _) rfl)).trans (.of_only (kickWriter_only _) rfl)
  exact stored.trans (offerOwned_line .presence _)

theorem warmRestart_line (s : State) : LineKept s (warmRestart s) :=
  ((wakeBlocks_line true 2 s).trans (startInto_line _ _)).trans (offerOwned_line .presence _)

theorem rosterRefresh_line (s : State) : LineKept s (rosterRefresh s) := by
  have unbinds : ∀ b o, LineKept s { s with bus := b, port := { s.port with owed := o } } :=
    fun _ _ => .of_port ⟨id, id, id⟩ id
  have cleared : ∀ t, LineKept t (clearPump (clearStandstill t)) := fun t =>
    .of_only ((clearStandstill_only t).trans (clearPump_only _)) rfl
  exact (((unbinds _ _).trans (cleared _)).trans (hushChanged_line _)).trans (offerOwned_line .rollCall _)

theorem endListen_line (s : State) : LineKept s (endListen s) := by
  have ended : LineKept s { s with power := { s.power with startTimer := none, lastStart := 0 } } := .put_power rfl
  exact (ended.trans (startInto_line _ _)).trans (offerOwned_line .presence _)

theorem setIgn_line (on : Bool) (s : State) : LineKept s (setIgn on s) := .put_power rfl

theorem ignitionOn_line (s : State) : LineKept s (ignitionOn s) := by
  have set := setIgn_line true s
  unfold ignitionOn
  split
  · exact .refl s
  · exact set
  · exact set
  · exact (set.trans (enterRun_line _)).settled
  · exact (set.trans (wakeStart_line true _)).settled

theorem ignitionOff_line (s : State) : LineKept s (ignitionOff s) := by
  have set := setIgn_line false s
  unfold ignitionOff
  split
  · exact .refl s
  · exact set
  · exact set
  · exact set
  · exact (set.trans (enterWatch_line _)).settled

theorem pulseOnLine_line (s : State) : LineKept s (pulseOnLine s) := .put_port ⟨id, id, id⟩

theorem pulseHeard_line (s : State) : LineKept s (pulseHeard s) := by
  unfold pulseHeard
  split
  · exact .refl s
  · exact ((pulseOnLine_line s).trans (wakeStart_line _ _)).settled
  all_goals exact pulseOnLine_line s

theorem keyWakes_line (key : Key) (s : State) : LineKept s (keyWakes key s) := by
  have asked : ∀ (t : State) w k, LineKept t { t with port := { t.port with wakeWanted := w }, keys := k } :=
    fun _ _ _ => .of_port ⟨id, id, id⟩ id
  exact (wakeStart_line false s).trans (asked _ _ _)

theorem dipInput_line (input : DipInput) (s : State) : LineKept s (dipInput input s) := by
  have active : LineKept s { s with power := setDipInput input s.power } := .put_power (by cases input <;> rfl)
  have silenced : ∀ t, LineKept t (silenceForDip t) := fun t =>
    LineKept.trans (.of_only (releaseOutput_only t) rfl) (reportSource_line t _)
  have dipped : ∀ t : State, LineKept t { t with power := { t.power with dip := true } } := fun _ => .put_power rfl
  have begun : ∀ t, LineKept t (beginDip t) := fun t =>
    (((dipped t).trans (silenced _)).trans (.of_only (only_nsp _ _) rfl)).trans (applyGates_line _)
  exact .ite active (active.trans (begun _))

theorem endDip_line (s : State) : LineKept s (endDip s) := by
  have ended : LineKept s { s with power := { s.power with dip := false, settleTimer := none } } := .put_power rfl
  exact (ended.trans (hushChanged_line _)).trans (.of_only (dipFreesWriter_only _) rfl)

/-- A load that comes to its end leaves the port, which is silent in STARTING. -/
theorem finished_load_line {s t : State} (loading : s.power.mode = .starting .load)
    (only : OnlyIn ([.power, .faults] ++ storeBlocks) s t) : LineKept s t :=
  .of_starting loading (only.port (by decide))

theorem answerOperation_line (answer : StoreAnswer) (s : State) : LineKept s (answerOperation answer s) := by
  unfold answerOperation
  split
  · unfold answerLoad
    split
    · exact .of_same rfl id
    · exact .ite (.of_only (only_nsp s _) rfl) (finished_load_line ‹_› (failLoad_only s))
    · exact .refl s
  · exact .of_only (answerWrite_only answer s) rfl

/-! ### Keys, the display and the line's own commands -/

theorem showTimeOver_only (s : State) : OnlyIn [.warn, .msg, .disp, .service] s (showTimeOver s) := by
  unfold showTimeOver
  split
  · exact departRecord_only _ s
  · exact .refl _ s

theorem repost_only (s : State) : OnlyIn [.warn, .msg, .disp, .service] s (repost s) := by
  unfold repost
  split
  · exact .ite (postReminder_only _ s) (.refl _ s)
  · exact .refl _ s

theorem completeTransfer_only (s : State) : OnlyIn [.disp] s (completeTransfer s) := by
  unfold completeTransfer
  split
  · exact .ite (only_disp s _) (only_disp s _)
  · exact .refl _ s

theorem acceptPress_line {act : State → State} (acts : ∀ t, LineKept t (act t)) (k : Key) (holds : State → KeyAction)
    (s : State) : LineKept s (acceptPress k holds act s) := by
  have noted : ∀ t, LineKept t (pressNoted t) := fun t =>
    LineKept.trans (.of_only (wakeDisplay_only t) rfl) (postChime_line _ _ _ _ _)
  refine .ite (.ite ?_ ?_) (.refl s)
  · exact (LineKept.trans (.of_only (only_keys s _) rfl) (noted _)).trans (.of_only (holdKey_only _ _ _) rfl)
  · exact (((noted s).trans (.of_only (keepSetMode_only _) rfl)).trans (acts _)).trans
      (.of_only (holdKey_only _ _ _) rfl)

theorem noteAction_line (s : State) : LineKept s (noteAction s) := by
  have noted : ∀ o, LineKept s (noteRecord o s) := fun o => by
    unfold noteRecord
    split
    · exact (acknowledge_line _ s).trans (.of_only (departRecord_only _ _) rfl)
    · exact .of_only (departRecord_only o s) rfl
  unfold noteAction
  split
  · exact noted _
  · exact .of_only (moveReview_only s) rfl
  · exact .of_only (openReview_only s) rfl
  · exact LineKept.trans (.of_only (leaveSetMode_only s) rfl) (.of_only (openReview_only _) rfl)

theorem acceptRelease_line {act : KeyAction → State → State} (acts : ∀ a t, LineKept t (act a t)) (k : Key)
    (s : State) : LineKept s (acceptRelease k act s) := by
  unfold acceptRelease
  split
  · exact .ite (LineKept.trans (.of_only (holdKey_only _ _ s) rfl) (acts _ _)) (.refl s)
  · exact .refl s

theorem reoffer_line {s : State} (speaks : MaySpeak s) (what : Reoffer) : LineKept s (reoffer what s) := by
  unfold reoffer
  split
  · exact .ite (answerBits_line speaks _ _) (.refl s)
  · exact .ite (offerOwned_line _ s) (.refl s)

theorem mirrorPeriod_line (s : State) : LineKept s (mirrorPeriod s) := by
  have next : ∀ b, LineKept s { s with bus := b } := fun b => .of_only (only_bus s b) rfl
  exact .ite ((next _).trans (offerPeriodicMirror_line _)) (next _)

theorem stopPeriod_line (s : State) : LineKept s (stopPeriod s) := by
  have next : ∀ f, LineKept s { s with fuel := f } := fun f => .of_only (only_fuel s f) rfl
  exact .ite ((next _).trans (offerOwned_line .transferStop _)) (next _)

/-- Where the silence holds, a command waits in the intake queue of a part that may speak alone. -/
theorem intakeHead_speaks {s : State} {e : IntakeEntry} (head : intakeHead s = some e) (silence : silenceHolds s = true) :
    MaySpeak s := by
  refine (silenceHolds_iff.mp silence).resolve_right fun silent => ?_
  obtain ⟨_, intake, _⟩ := portSilent_iff.mp silent
  unfold intakeHead at head
  rw [intake] at head
  split at head <;> cases head

theorem demand_line {s : State} {n : Nat} {mask : BitVec 6} {index : Option Nat}
    (head : intakeHead s = some ⟨n, .demand mask index⟩) : LineKept s (takeDemand n mask index (dropHead s)) := by
  have dropped := dropHead_line s
  refine ⟨fun within => takeDemand_transmit n mask index (dropped.transmit within), fun within => ?_,
    fun silence => silenceHolds_iff.mpr (.inl ?_)⟩
  · unfold intakeWithin
    rw [takeDemand_intake]
    exact dropped.intake within
  · have only := ((dropHead_only s).mono (by decide)).trans (takeDemand_only n mask index (dropHead s))
    exact (intakeHead_speaks head silence).of_only only (by decide) (by decide)

theorem beginPulse_line {s : State} (may : mayPulse s = true) : LineKept s (beginPulse s) := by
  refine .of_speaking (maySpeak_of_mayQueue ?_) id id
  simp only [mayPulse, Bool.and_eq_true] at may
  exact may.1.1.1

end Sys2Proof.Machine
end

section
/-! PROOFS. Line queues of every command and every step, and the statements about their bounds (O8) and about the
silence of a part that may not speak (O10). -/

namespace Sys2Proof.Machine

/-- Every command keeps the bounds of the line's queues and the silence. -/
theorem exec_line (c : Instr) (s : State) : ∃ t, exec c s = .next t ∧ LineKept s t := by
  cases c
  case standbySupplyUp => exact ⟨_, rfl, .ite (.refl s) (.of_cold rfl)⟩
  case standbySupplyLoss => exact ⟨_, rfl, .ite (.of_cold rfl) (.refl s)⟩
  case settleEnd =>
    refine ⟨_, rfl, ?_⟩
    split
    · exact .of_starting ‹_› rfl
    · exact .refl s
  case loadComplete =>
    refine ⟨_, rfl, ?_⟩
    split
    · exact .ite (finished_load_line ‹_› (completeLoad_only s)) (finished_load_line ‹_› (failLoad_only s))
    · exact .refl s
  case listenEnd => exact ⟨_, rfl, .ite (endListen_line s).settled (.refl s)⟩
  case ignOn => exact ⟨_, rfl, ignitionOn_line s⟩
  case ignOff => exact ⟨_, rfl, ignitionOff_line s⟩
  case sleepTimerExpiry => exact ⟨_, rfl, .ite (enterSleep_line s).settled (.refl s)⟩
  case wakePulseHeard => exact ⟨_, rfl, pulseHeard_line s⟩
  case keyWake key => exact ⟨_, rfl, .ite (keyWakes_line key s).settled (.refl s)⟩
  case supplyDipBegin input => exact ⟨_, rfl, .ite (dipInput_line input s).settled (.refl s)⟩
  case dipInputsClear => exact ⟨_, rfl, .ite (.put_power rfl) (.refl s)⟩
  case supplyDipEnd => exact ⟨_, rfl, .ite (endDip_line s).settled (.refl s)⟩
  case restartRequestRosterRefresh =>
    refine ⟨_, rfl, ?_⟩
    split
    · exact ((dropHead_line s).trans (rosterRefresh_line _)).settled
    · exact .refl s
  case restartRequestWarmRestart =>
    refine ⟨_, rfl, ?_⟩
    split
    · exact ((dropHead_line s).trans (warmRestart_line _)).settled
    · exact .refl s
  case reportArrival kind frame => exact ⟨_, rfl, (hearFrame_line (offerReport_line kind frame) _ frame s).settled⟩
  case rollCall frame => exact ⟨_, rfl, hearFrame_line (offerOwned_line .presence) _ frame s⟩
  case presence frame => exact ⟨_, rfl, hearFrame_line (fun t => .of_only (heardPresence_only frame t) rfl) _ frame s⟩
  case otherFrameHeard kind target frame => exact ⟨_, rfl, .ite (hearFrame_line .refl _ frame s) (.refl s)⟩
  case ownAddressFrameHeard => exact ⟨_, rfl, .ite (.of_only (noteClash_only s) rfl) (.refl s)⟩
  case frameDiscarded cause =>
    refine ⟨_, rfl, .ite ?_ (.refl s)⟩
    cases cause
    case wakePulse => exact pulseOnLine_line s
    all_goals exact .refl s
  case addressedFrameAnswer kind frame => exact ⟨_, rfl, hearFrame_line (answerHeard_line kind frame) _ frame s⟩
  case demand =>
    refine ⟨_, rfl, ?_⟩
    split
    · exact demand_line ‹_›
    · exact .refl s
  case chimeRequest =>
    refine ⟨_, rfl, ?_⟩
    split
    · exact ((dropHead_line s).trans (peerChime_line _ _ _ _)).settled
    · exact .refl s
  case notice =>
    refine ⟨_, rfl, ?_⟩
    split
    · exact ((dropHead_line s).trans (.of_only (postNote_only _ _ _ _ _) rfl)).settled
    · exact .refl s
  case serviceReset =>
    refine ⟨_, rfl, ?_⟩
    split
    · exact .ite ((dropHead_line s).trans (.of_only (serviceResetOp_only _ _) rfl)).settled (dropHead_line s)
    · exact .refl s
  case journeyClear =>
    refine ⟨_, rfl, ?_⟩
    split
    · exact .ite ((dropHead_line s).trans (.of_only (clearJourneys_only _) rfl)).settled (dropHead_line s)
    · exact .refl s
  case clockSet =>
    refine ⟨_, rfl, ?_⟩
    split
    · exact ((dropHead_line s).trans (.of_only (setClock_only _ _) rfl)).settled
    · exact .refl s
  case attemptBegin => exact ⟨_, rfl, beginAttempt_line s⟩
  case lostArbitration =>
    refine ⟨_, rfl, ?_⟩
    split
    · exact endAttempt_line actKeeps_some s
    · exact .refl s
  case readbackFault =>
    refine ⟨_, rfl, ?_⟩
    split
    · exact (endAttempt_line actKeeps_some s).trans (countFault_line _)
    · exact .refl s
  case broadcastSentWhole =>
    refine ⟨_, rfl, ?_⟩
    split
    · exact .ite ((endAttempt_line actKeeps_none s).trans (markSentWhole_line _ _)) (.refl s)
    · exact .refl s
  case answerSlotClose =>
    refine ⟨_, rfl, ?_⟩
    split
    · exact .ite (.refl s) (closeSlot_line _ _ s)
    · exact .refl s
  case retryDelayExpiry name => exact ⟨_, rfl, .put_port (endRetry_port name s.port)⟩
  case lineFaultPauseExpiry | holdOffExpiry => exact ⟨_, rfl, .put_port ⟨id, id, id⟩⟩
  case wakePulseSend =>
    refine ⟨_, rfl, ?_⟩
    split
    · exact beginPulse_line ‹_›
    · exact .refl s
  case wakePulseEnd =>
    refine ⟨_, rfl, ?_⟩
    split
    · exact .refl s
    · exact .refl s
    all_goals exact .put_port ⟨id, id, id⟩
  case ownerReoffer what =>
    refine ⟨_, rfl, ?_⟩
    split
    · exact reoffer_line (maySpeak_of_mayQueue ‹_›) what
    · exact .refl s
  case staleTimerExpiry kind => exact ⟨_, rfl, (expireStale_line kind s).settled⟩
  case rosterTimerExpiry station => exact ⟨_, rfl, .of_only (modifyRoster_only station expireRoster s) rfl⟩
  case mirrorTimerExpiry => exact ⟨_, rfl, .ite (mirrorPeriod_line s) (.refl s)⟩
  case dampingStep => exact ⟨_, rfl, .ite (.of_only (dampingPeriod_only s) rfl) (.refl s)⟩
  case coilOffTimerExpiry => exact ⟨_, rfl, .ite (.of_only (only_gauges s _) rfl) (.refl s)⟩
  case correctionTimerExpiry => exact ⟨_, rfl, .ite (LineKept.of_only (correctionPeriod_only s) rfl).settled (.refl s)⟩
  case standstillTimerExpiry | pumpTimerExpiry => exact ⟨_, rfl, .ite (.of_only (only_fuel s _) rfl) (.refl s)⟩
  case transferStopTimerExpiry => exact ⟨_, rfl, .ite (stopPeriod_line s) (.refl s)⟩
  case tripSecondTimerExpiry | instantSamplerExpiry =>
    exact ⟨_, rfl, .ite (LineKept.of_only (only_trip s _) rfl).settled (.refl s)⟩
  case clockSecond => exact ⟨_, rfl, .ite (LineKept.of_only (clockPeriod_only s) rfl).settled (.refl s)⟩
  case modePress => exact ⟨_, rfl, (acceptPress_line (fun t => .of_only (modeAction_only t) rfl) _ _ s).settled⟩
  case selectPress => exact ⟨_, rfl, (acceptPress_line (fun t => .of_only (selectAction_only t) rfl) _ _ s).settled⟩
  case resetPress => exact ⟨_, rfl, (acceptPress_line (fun t => .of_only (resetAction_only t) rfl) _ _ s).settled⟩
  case notePress => exact ⟨_, rfl, (acceptPress_line noteAction_line _ _ s).settled⟩
  case journeyPress => exact ⟨_, rfl, (acceptPress_line (fun t => .of_only (journeyAction_only t) rfl) _ _ s).settled⟩
  case journeyRelease =>
    exact ⟨_, rfl, (acceptRelease_line (fun a t => .of_only (journeyShort_only a t) rfl) _ s).settled⟩
  case keyRelease key => exact ⟨_, rfl, .ite (.refl s) (acceptRelease_line (fun _ t => .refl t) key s)⟩
  case journeyLongPress =>
    refine ⟨_, rfl, ?_⟩
    split
    · exact .ite (LineKept.trans (.of_only (takeLong_only _ s) rfl) (.of_only (journeyLong_only _) rfl)).settled
        (.refl s)
    · exact .refl s
  case tripReset =>
    refine ⟨_, rfl, ?_⟩
    split
    · exact .ite (LineKept.trans (.of_only (takeLong_only _ s) rfl) (.of_only (tripResetOp_only _ _) rfl)).settled
        (.refl s)
    · exact .refl s
  case serviceResetPress =>
    refine ⟨_, rfl, ?_⟩
    split
    · exact .ite (LineKept.trans (.of_only (takeLong_only _ s) rfl)
        (.ite (.of_only (serviceResetOp_only _ _) rfl) (.refl _))).settled (.refl s)
    · exact .refl s
  case setModeTimeout | blinkTimerExpiry | journeyReadoutAlternate | displayTimerExpiry =>
    exact ⟨_, rfl, .ite (LineKept.of_only (only_disp s _) rfl).settled (.refl s)⟩
  case displayTransferComplete => exact ⟨_, rfl, .of_only (completeTransfer_only s) rfl⟩
  case minimumShowTimeExpiry =>
    exact ⟨_, rfl, .ite (LineKept.trans (.of_only (only_msg s _) rfl) (.of_only (select_only _) rfl)).settled (.refl s)⟩
  case maximumShowTimeExpiry => exact ⟨_, rfl, .ite (LineKept.of_only (showTimeOver_only s) rfl).settled (.refl s)⟩
  case reminderRepostTimerExpiry => exact ⟨_, rfl, .ite (LineKept.of_only (repost_only s) rfl).settled (.refl s)⟩
  case evaluationTimerExpiry =>
    exact ⟨_, rfl, .ite (LineKept.trans (.of_only (only_warn s _) rfl) (.foldl evaluate_line timedEntries _)).settled
      (.refl s)⟩
  case reOfferTimerExpiry entry => exact ⟨_, rfl, .ite (postOutstanding_line entry s).settled (.refl s)⟩
  case reChimeTimerExpiry entry => exact ⟨_, rfl, .of_only (modifyWarn_only entry rechimeFalls s) rfl⟩
  case reviewTimerExpiry => exact ⟨_, rfl, .ite (LineKept.of_only (moveReview_only s) rfl).settled (.refl s)⟩
  case flashTimerExpiry | staleGraceExpiry | engineRunningTimerExpiry =>
    exact ⟨_, rfl, .ite (.of_only (only_warn s _) rfl) (.refl s)⟩
  case lampProvingExpiry =>
    exact ⟨_, rfl, .ite (LineKept.trans (.of_only (only_warn s _) rfl) (.of_only (setCursor_only _ _) rfl)).settled
      (.refl s)⟩
  case windowTimerExpiry =>
    exact ⟨_, rfl, .ite (LineKept.trans (.of_only (only_warn s _) rfl) (applyGates_line _)).settled (.refl s)⟩
  case elementEnd => exact ⟨_, rfl, .ite (elementOver_line s).settled (.refl s)⟩
  case busyPollRetry answer => exact ⟨_, rfl, (answerOperation_line answer s).settled⟩
  case failedWriteWaitExpiry => exact ⟨_, rfl, (LineKept.of_only (endWriteWait_only s) rfl).settled⟩
  case writeComplete => exact ⟨_, rfl, (LineKept.of_only (completeWrite_only s) rfl).settled⟩

/-- Every step keeps the bounds of the line's queues and the silence. -/
theorem step_line {s t : State} (stepped : step s = .next t) : LineKept s t := by
  unfold step at stepped
  split at stepped
  · cases stepped
    exact .of_same rfl id
  · rename_i c rest _
    obtain ⟨u, carried, kept⟩ := exec_line c { s with pending := rest }
    cases carried.symm.trans stepped
    have taken : LineKept s { s with pending := rest } := .of_same rfl id
    exact taken.trans kept

end Sys2Proof.Machine

open Sys2Proof Sys2Proof.Machine

/-- Settles O8: a frame joins where there is room and its identity is new, an attempt begins where none is in flight and
its end leaves none, and a command is taken with room alone, so every command and every step keeps the bounds. -/
theorem lineQueuesKeepTheirBounds : Obligations.LineQueuesKeepTheirBounds :=
  fun _ _ transmit intake stepped => ⟨(step_line stepped).transmit transmit, (step_line stepped).intake intake⟩

/-- Settles O10: frames are offered, sent and answered, and a wake pulse driven, by a part with an address in RUN or WATCH
alone, and STARTING is left with a silent port, so every command and every step keeps the silence. -/
theorem listenOnlyPartStaysSilent : Obligations.ListenOnlyPartStaysSilent :=
  fun _ _ silence stepped => (step_line stepped).silence silence
end
section
/-! PROOFS. Frames: the fields that the characters of a frame give back, the characters that its cells give back, and the
statement about both (10 TABLE 10-1, TABLE 10-2, R152, R153; O15). -/

namespace Sys2Proof.Machine

/-! ### The check character -/

theorem charSum_append : ∀ a b : List Byte, charSum (a ++ b) = charSum a + charSum b
  | [], b => by simp [charSum]
  | c :: rest, b => by rw [List.cons_append, charSum, charSum, charSum_append rest b, BitVec.add_assoc]

/-- The characters of a frame sum to 0 modulo 256. -/
theorem charSum_encodeFrame (f : Frame) : charSum (encodeFrame f) = 0 := by
  rw [encodeFrame, charSum_append]
  simp [charSum]

/-! ### The validity character -/

/-- One bit for each slot, set where it is valid, the first slot in the lowest place (10 TABLE 10-1). -/
def validFlags : List Slot → Nat
  | [] => 0
  | x :: rest => Nat.bit x.isSome (validFlags rest)

theorem validFlags_lt : ∀ slots : List Slot, validFlags slots < 2 ^ slots.length
  | [] => by simp [validFlags]
  | x :: rest => by
    rw [validFlags, List.length_cons]
    exact Nat.bit_lt_two_pow_succ_iff.mpr (validFlags_lt rest)

theorem testBit_validFlags : ∀ (slots : List Slot) (i : Nat),
    (validFlags slots).testBit i = (slots.getD i none).isSome
  | [], i => by simp [validFlags]
  | x :: rest, 0 => by simp [validFlags]
  | x :: rest, i + 1 => by
    rw [validFlags, Nat.testBit_bit_succ, testBit_validFlags rest i, List.getD_cons_succ]

/-- Of six slots at most, the validity bits are the flags from their place up. -/
theorem validityBits_eq : ∀ (slots : List Slot) (k : Nat), k + slots.length ≤ 6 →
    validityBits k slots = 2 ^ k * validFlags slots
  | [], _, _ => rfl
  | x :: rest, k, room => by
    rw [List.length_cons] at room
    have low : k < 6 := by omega
    rw [validityBits, validityBits_eq rest (k + 1) (by omega), validFlags, Nat.bit_val]
    cases x <;> simp [low] <;> ring

/-- The bits of the validity character: the slots', READY and FIRST (10 TABLE 10-1). -/
theorem getLsbD_validityByte {slots : List Slot} (room : slots.length ≤ 6) (ready first : Bool) :
    (∀ i < 6, (validityByte ready first slots).getLsbD i = (slots.getD i none).isSome)
      ∧ (validityByte ready first slots).getLsbD 6 = ready ∧ (validityByte ready first slots).getLsbD 7 = first := by
  have low : validFlags slots < 2 ^ 6 :=
    (validFlags_lt slots).trans_le (Nat.pow_le_pow_right (by decide) room)
  have form : validityBits 0 slots + (if ready then 64 else 0) + (if first then 128 else 0)
      = 2 ^ 6 * (ready.toNat + 2 * first.toNat) + validFlags slots := by
    rw [validityBits_eq slots 0 (by omega)]
    cases ready <;> cases first <;> simp <;> omega
  have bits : ∀ i < 8, (validityByte ready first slots).getLsbD i
      = if i < 6 then (slots.getD i none).isSome else (ready.toNat + 2 * first.toNat).testBit (i - 6) := by
    intro i inside
    rw [validityByte, byteOf, BitVec.getLsbD_ofNat, form, Nat.testBit_two_pow_mul_add _ low, testBit_validFlags]
    simp [inside]
  refine ⟨fun i inside => ?_, ?_, ?_⟩
  · rw [bits i (by omega), if_pos inside]
  · rw [bits 6 (by decide)]
    cases ready <;> cases first <;> rfl
  · rw [bits 7 (by decide)]
    cases ready <;> cases first <;> rfl

/-! ### The slots -/

theorem high_append_low (w : Word) : w.extractLsb' 8 8 ++ w.extractLsb' 0 8 = w := by
  refine BitVec.eq_of_getLsbD_eq fun i inside => ?_
  rw [BitVec.getLsbD_append]
  by_cases low : i < 8
  · simp [low]
  · have same : 8 + (i - 8) = i := by omega
    have high : i - 8 < 8 := by omega
    simp [low, same, high]

/-- The characters of slots, before the check character, are read as those slots under their validity bits. -/
theorem readSlots_slotBytes (validity check : Byte) : ∀ (slots : List Slot) (k : Nat), k + slots.length ≤ 6 →
    (∀ i < slots.length, validity.getLsbD (k + i) = (slots.getD i none).isSome) →
    readSlots validity k (slotBytes slots ++ [check]) = slots
  | [], _, _, _ => rfl
  | x :: rest, k, room, flags => by
    rw [List.length_cons] at room flags
    have low : k < 6 := by omega
    have here : validity.getLsbD k = x.isSome := by simpa using flags 0 (by omega)
    have later := readSlots_slotBytes validity check rest (k + 1) (by omega) fun i inside => by
      rw [Nat.add_assoc, Nat.add_comm 1 i]
      simpa using flags (i + 1) (by omega)
    rw [slotBytes, List.cons_append, List.cons_append, readSlots, later, high_append_low, here]
    cases x <;> simp [low]

theorem length_slotBytes : ∀ slots : List Slot, (slotBytes slots).length = 2 * slots.length
  | [] => rfl
  | x :: rest => by simp [slotBytes, length_slotBytes rest]; omega

/-! ### The whole frame -/

theorem frameWf_iff {f : Frame} : frameWf f = true ↔ f.cls < 8 ∧ isStation f.source = true ∧ f.target ≤ 30
    ∧ f.slots.length ≤ 6 ∧ lengthFits f.kind f.slots = true := by
  simp only [frameWf, Bool.and_eq_true, decide_eq_true_eq, and_assoc]
  exact Iff.rfl

/-- The characters of a well-formed frame give its fields back (10 TABLE 10-1). -/
theorem readFrame_encodeFrame {f : Frame} (wf : frameWf f = true) : readFrame (encodeFrame f) = some f := by
  obtain ⟨cls, station, target, room, _⟩ := frameWf_iff.mp wf
  obtain ⟨_, source⟩ := isStation_iff.mp station
  obtain ⟨flags, ready, first⟩ := getLsbD_validityByte room f.ready f.first
  have slots := readSlots_slotBytes (validityByte f.ready f.first f.slots) (-(charSum (frameBody f))) f.slots 0
    (by omega) fun i inside => by rw [Nat.zero_add]; exact flags i (by omega)
  have lead : (byteOf (f.cls * 32 + f.source)).toNat = f.cls * 32 + f.source := by
    rw [byteOf, BitVec.toNat_ofNat]
    omega
  have target' : (byteOf f.target).toNat = f.target := by
    rw [byteOf, BitVec.toNat_ofNat]
    omega
  have high : (f.cls * 32 + f.source) / 32 = f.cls := by omega
  have low : (f.cls * 32 + f.source) % 32 = f.source := by omega
  simp only [encodeFrame, frameBody, List.cons_append, readFrame] at slots ⊢
  rw [slots, lead, target', ready, first, high, low]

theorem heardFrame_encodeFrame {f : Frame} (wf : frameWf f = true) : heardFrame (encodeFrame f) = some f := by
  obtain ⟨_, station, target, _, fits⟩ := frameWf_iff.mp wf
  have length : (encodeFrame f).length = 5 + 2 * f.slots.length := by
    simp [encodeFrame, frameBody, length_slotBytes]
    omega
  have odd : (5 + 2 * f.slots.length) % 2 = 1 := by omega
  rw [heardFrame, readFrame_encodeFrame wf]
  simp [length, odd, station, target, charSum_encodeFrame, fits, Config.stations]

/-! ### Cells -/

/-- Cells are read character by character, and then on from the cells that follow. -/
theorem readChars_frameCells (rest : List Bool) : ∀ chars : List Byte,
    readChars (frameCells chars ++ rest) = chars.foldr Reception.after (readChars rest)
  | [] => rfl
  | c :: more => by
    rw [frameCells, List.flatMap_cons, List.append_assoc, readChars_charCells, List.foldr_cons]
    exact congrArg (Reception.after c) (readChars_frameCells rest more)

theorem foldr_after_chars (last : List Byte) : ∀ chars : List Byte,
    chars.foldr Reception.after (.chars last) = .chars (chars ++ last)
  | [] => rfl
  | c :: more => by rw [List.foldr_cons, foldr_after_chars last more]; rfl

theorem foldr_after_discarded (cause : DiscardCause) : ∀ chars : List Byte,
    chars.foldr Reception.after (.discarded cause) = .discarded cause
  | [] => rfl
  | c :: more => by rw [List.foldr_cons, foldr_after_discarded cause more]; rfl

/-- The cells of characters, with the line recessive after them, give those characters (10 R152). -/
theorem readChars_recessive_after (chars : List Byte) (rest : List Bool) :
    readChars (frameCells chars ++ false :: rest) = .chars chars := by
  rw [readChars_frameCells, readChars_recessive, foldr_after_chars, List.append_nil]

theorem receiveCells_encodeFrame (own : Option Nat) {f : Frame} (wf : frameWf f = true) :
    receiveCells own (frameCells (encodeFrame f)) = frameCommand own f := by
  have read : readChars (frameCells (encodeFrame f) ++ List.replicate 10 false) = .chars (encodeFrame f) :=
    readChars_recessive_after _ (List.replicate 9 false)
  rw [receiveCells, read]
  dsimp only
  rw [receive, heardFrame_encodeFrame wf]

theorem stopCause_ne_failedTest (run : Nat) : stopCause run ≠ .failedTest := by
  unfold stopCause
  split
  · simp
  · split <;> simp

/-- Ten cells of which the tenth, a stop cell, is dominant discard the frame, whatever came before. -/
theorem receiveCells_discarded (own : Option Nat) (chars : List Byte) {cells : List Bool} {cause : DiscardCause}
    (stops : readChars (cells ++ List.replicate 10 false) = .discarded cause) :
    receiveCells own (frameCells chars ++ cells) = .frameDiscarded cause := by
  rw [receiveCells, List.append_assoc, readChars_frameCells, stops, foldr_after_discarded]

theorem readChars_dominant_stop {data : List Bool} (eight : data.length = 8) (rest : List Bool) :
    ∃ run, readChars (true :: data ++ true :: rest) = .discarded (stopCause run) := by
  match data, eight with
  | [_, _, _, _, _, _, _, _], _ => exact ⟨_, rfl⟩

theorem dominantRun_replicate (rest : List Bool) : ∀ n : Nat, dominantRun (List.replicate n true ++ false :: rest) = n
  | 0 => rfl
  | n + 1 => by rw [List.replicate_succ, List.cons_append, dominantRun, dominantRun_replicate rest n]

/-- A dominant run of ten cells and more discards the frame by its length (10 R152). -/
theorem readChars_dominant_run {n : Nat} (long : 10 ≤ n) (rest : List Bool) :
    readChars (List.replicate n true ++ false :: rest) = .discarded (stopCause n) := by
  obtain ⟨m, rfl⟩ := Nat.exists_eq_add_of_le long
  have start : List.replicate (10 + m) true = List.replicate 9 true ++ true :: List.replicate m true := by
    rw [show 10 + m = 9 + (m + 1) by omega, List.replicate_add]
    rfl
  have run : dominantRun (List.replicate 9 true) + dominantRun (true :: (List.replicate m true ++ false :: rest))
      = 10 + m := by
    rw [dominantRun, dominantRun_replicate, show dominantRun (List.replicate 9 true) = 9 from rfl]
    omega
  rw [start, List.append_assoc, List.cons_append]
  exact congrArg (fun k => Reception.discarded (stopCause k)) run

end Sys2Proof.Machine

open Sys2Proof Sys2Proof.Machine

/-- Settles O15: each field is read back from its characters, each character from its cells, and a dominant stop cell
ends the reading. -/
theorem charactersAreHeardAsTheirFrame : Obligations.CharactersAreHeardAsTheirFrame := by
  refine ⟨fun f wf => heardFrame_encodeFrame wf, fun chars rest => readChars_recessive_after chars rest,
    fun own f wf => receiveCells_encodeFrame own wf, fun own chars data rest eight => ?stop,
    fun own chars n rest long => ?run⟩
  case stop =>
    obtain ⟨run, discarded⟩ := readChars_dominant_stop eight (rest ++ List.replicate 10 false)
    refine ⟨stopCause run, stopCause_ne_failedTest run, ?_⟩
    rw [List.append_assoc]
    exact receiveCells_discarded own chars (by simpa using discarded)
  case run =>
    have discarded := readChars_dominant_run long (rest ++ List.replicate 10 false)
    have cause : stopCause n = if 12 ≤ n then .wakePulse else .longRun := by
      have past : 9 < n := by omega
      simp [stopCause, past]
    rw [← cause, List.append_assoc]
    exact receiveCells_discarded own chars (by simpa using discarded)
end
section
/-! PROOFS. Answers: the slots of a command frame against the ranges of TABLE 10-5, the refusals of the car, the journey
and the chime set, and the statement about the answer to an addressed frame (10 R157, R158; O37). -/

namespace Sys2Proof.Machine

/-! ### The slots of a command -/

theorem patternOfCode_above {n : Nat} (above : 7 < n) : patternOfCode n = none := by
  obtain ⟨m, rfl⟩ := Nat.exists_eq_add_of_lt above
  rw [show 7 + m + 1 = m + 8 by omega]
  rfl

theorem patternOfCode_within {n : Nat} (within : n ≤ 7) :
    ∃ p, patternOfCode n = some p ∧ (p = .call ↔ n = 6) := by
  interval_cases n <;> exact ⟨_, rfl, by decide⟩

/-- A DEMAND's slots are refused, or are its mask and its index. -/
theorem parse_demand (mask index : Slot) : parseCommand .demand [mask, index]
    = if slotsRefused .demand [mask, index] then none else some (commandOf .demand [mask, index]) := by
  cases mask with
  | none => exact (if_pos rfl).symm
  | some m =>
    change parseDemand m index = _
    unfold parseDemand
    by_cases wide : m.toNat ≤ 63
    · cases index with
      | none => simp [wide, slotsRefused, slotAt, commandOf, slotNat]
      | some i => by_cases low : i.toNat ≤ 9 <;> simp [wide, low, slotsRefused, slotAt, commandOf, slotNat]
    · simp [wide, slotsRefused, slotAt]

/-- A CHIME REQUEST's slots are refused, or are its pattern and its repetitions. -/
theorem parse_chimeRequest (pattern reps : Slot) : parseCommand .chimeRequest [pattern, reps]
    = if slotsRefused .chimeRequest [pattern, reps] then none
      else some (commandOf .chimeRequest [pattern, reps]) := by
  cases pattern with
  | none => exact (if_pos rfl).symm
  | some m =>
    cases reps with
    | none => exact (if_pos (by simp [slotsRefused, slotAt])).symm
    | some r =>
      change parseChime m r = _
      rw [parseChime]
      by_cases known : m.toNat ≤ 7
      · obtain ⟨p, named, _⟩ := patternOfCode_within known
        by_cases low : r.toNat ≤ 9 <;> simp [named, known, low, slotsRefused, slotAt, commandOf, slotNat]
      · simp [patternOfCode_above (Nat.lt_of_not_le known), known, slotsRefused, slotAt]

/-- A NOTICE's slots are refused, or are its text and its seconds. -/
theorem parse_notice (text seconds : Slot) : parseCommand .notice [text, seconds]
    = if slotsRefused .notice [text, seconds] then none else some (commandOf .notice [text, seconds]) := by
  cases text with
  | none => exact (if_pos rfl).symm
  | some m =>
    cases seconds with
    | none => exact (if_pos (by simp [slotsRefused, slotAt])).symm
    | some r =>
      have zero : r = 0#16 ↔ ¬1 ≤ r.toNat := by rw [← BitVec.toNat_inj]; simp
      change parseNotice m r = _
      rw [parseNotice]
      by_cases known : m.toNat ≤ 15 <;> by_cases low : 1 ≤ r.toNat <;> by_cases high : r.toNat ≤ 30 <;>
        simp [noticeExists, known, low, high, zero, slotsRefused, slotAt, commandOf, slotNat]

/-- A SERVICE RESET's slot is refused, or is its item. -/
theorem parse_serviceReset (item : Slot) : parseCommand .serviceReset [item]
    = if slotsRefused .serviceReset [item] then none else some (commandOf .serviceReset [item]) := by
  cases item with
  | none => exact (if_pos rfl).symm
  | some i =>
    change (if i.toNat ≤ 8 then some (Command.serviceReset i.toNat) else none) = _
    by_cases low : i.toNat ≤ 8 <;> simp [low, slotsRefused, slotAt, commandOf, slotNat]

/-- A RESTART REQUEST's slot is refused, or is its action. -/
theorem parse_restartRequest (action : Slot) : parseCommand .restartRequest [action]
    = if slotsRefused .restartRequest [action] then none else some (commandOf .restartRequest [action]) := by
  cases action with
  | none => exact (if_pos rfl).symm
  | some a =>
    have one : a = 1#16 ↔ a.toNat = 1 := by rw [← BitVec.toNat_inj]; rfl
    have two : a = 2#16 ↔ a.toNat = 2 := by rw [← BitVec.toNat_inj]; rfl
    change parseRestart a = _
    rw [parseRestart]
    split <;> rename_i named
    · simp [slotsRefused, slotAt, commandOf, slotNat, one, named]
    · simp [slotsRefused, slotAt, commandOf, slotNat, one, two, named]
    · simp_all [slotsRefused, slotAt]

/-- A CLOCK SET's slot is refused, or is its minutes. -/
theorem parse_clockSet (minutes : Slot) : parseCommand .clockSet [minutes]
    = if slotsRefused .clockSet [minutes] then none else some (commandOf .clockSet [minutes]) := by
  cases minutes with
  | none => exact (if_pos rfl).symm
  | some m =>
    change (if m.toNat ≤ 1439 then some (Command.clockSet m.toNat) else none) = _
    by_cases low : m.toNat ≤ 1439 <;> simp [low, slotsRefused, slotAt, commandOf, slotNat]

/-- The slots of a command of the part, as many as its kind carries, are refused by the third row of TABLE 10-5 or are
the command's. -/
theorem parseCommand_eq {k : FrameKind} {slots : List Slot} (taken : isTakenCommand k = true)
    (fits : slots.length = kindSlots k) :
    parseCommand k slots = if slotsRefused k slots then none else some (commandOf k slots) := by
  cases k
  case demand =>
    obtain ⟨a, b, rfl⟩ := List.length_eq_two.mp fits
    exact parse_demand a b
  case chimeRequest =>
    obtain ⟨a, b, rfl⟩ := List.length_eq_two.mp fits
    exact parse_chimeRequest a b
  case notice =>
    obtain ⟨a, b, rfl⟩ := List.length_eq_two.mp fits
    exact parse_notice a b
  case serviceReset =>
    obtain ⟨a, rfl⟩ := List.length_eq_one_iff.mp fits
    exact parse_serviceReset a
  case restartRequest =>
    obtain ⟨a, rfl⟩ := List.length_eq_one_iff.mp fits
    exact parse_restartRequest a
  case clockSet =>
    obtain ⟨a, rfl⟩ := List.length_eq_one_iff.mp fits
    exact parse_clockSet a
  case journeyClear =>
    obtain rfl := List.length_eq_zero_iff.mp fits
    rfl
  all_goals cases taken

/-! ### The refusals of the state -/

/-- The last request of a set has no priority below the others'. -/
theorem worstRequest_priority {q : List ChimeRequest} {w : ChimeRequest} (worst : worstRequest q = some w) (top : Nat) :
    w.priority ≤ top ↔ ∀ r ∈ q, r.priority ≤ top := by
  obtain ⟨here, last⟩ := worstRequest_some worst
  refine ⟨fun low r there => ?_, fun all => all w here⟩
  have behind := last r there
  rw [← Bool.not_eq_true, outranks_iff] at behind
  omega

theorem worstRequest_none {q : List ChimeRequest} (empty : worstRequest q = none) : q = [] := by
  cases q with
  | nil => rfl
  | cons r rest =>
    unfold worstRequest at empty
    split at empty
    · cases empty
    · split at empty <;> cases empty

/-- A full set refuses a peer's request exactly when no request is of its source or of a higher priority number than
the one posted (08 R130). -/
theorem chimeRefused_eq (s : State) (source : Nat) (pattern : ChimePattern) (reps : Nat) :
    chimeRefused s source pattern reps = (decide (reps ≠ 0) && decide (8 ≤ s.chime.requests.length)
      && s.chime.requests.all (fun r =>
        decide (r.source ≠ .peer source) && decide (r.priority ≤ if pattern = .call then 3 else 4))) := by
  have apart : (s.chime.requests.all fun r =>
      decide (r.source ≠ .peer source) && decide (r.priority ≤ if pattern = .call then 3 else 4))
      = (!sourcePresent (.peer source) s.chime.requests
        && s.chime.requests.all fun r => decide (r.priority ≤ if pattern = .call then 3 else 4)) := by
    rw [Bool.eq_iff_iff]
    simp [sourcePresent, forall_and]
  rw [apart, chimeRefused]
  cases worst : worstRequest s.chime.requests with
  | none => simp [worstRequest_none worst, Config.chimeCapacity]
  | some w =>
    have same := worstRequest_priority worst (if pattern = .call then 3 else 4)
    have same' : decide (w.priority ≤ if pattern = .call then 3 else 4)
        = s.chime.requests.all fun r => decide (r.priority ≤ if pattern = .call then 3 else 4) := by
      rw [Bool.eq_iff_iff]
      simpa using same
    rw [← same', Bool.eq_iff_iff]
    simp only [Bool.and_eq_true, Bool.not_eq_true', decide_eq_true_eq]
    rw [show Config.chimeCapacity = 8 from rfl]
    tauto

theorem refusedNow_commandOf (s : State) {k : FrameKind} {h : Heard} (taken : isTakenCommand k = true)
    (fits : h.slots.length = kindSlots k) (legal : slotsRefused k h.slots = false) :
    refusedNow s h.source (commandOf k h.slots) = refusedByState s k h := by
  cases k
  case chimeRequest =>
    obtain ⟨a, b, slots⟩ := List.length_eq_two.mp fits
    rw [slots] at legal
    cases a with
    | none => cases legal
    | some m => cases b with
      | none => simp [slotsRefused, slotAt] at legal
      | some r =>
        have known : m.toNat ≤ 7 := by
          simp [slotsRefused, slotAt] at legal
          exact legal.1
        obtain ⟨p, named, isCall⟩ := patternOfCode_within known
        have six : m = 6#16 ↔ m.toNat = 6 := by rw [← BitVec.toNat_inj]; rfl
        have zero : r = 0#16 ↔ r.toNat = 0 := by rw [← BitVec.toNat_inj]; rfl
        simp only [commandOf, refusedNow, chimeRefused_eq, refusedByState, slots, slotAt, slotNat]
        simp [named, isCall, six, zero]
  case restartRequest =>
    simp only [commandOf, refusedByState]
    split <;> rfl
  case demand | notice | serviceReset | journeyClear | clockSet => rfl
  all_goals cases taken

/-! ### The answer -/

/-- The answer to an addressed frame of a fitting length is the row of TABLE 10-5, and a frame given TAKE is the command
of its slots. -/
theorem decideAnswer_eq (s : State) {code : Byte} {h : Heard} (fits : lengthFits code h.slots = true) :
    (decideAnswer s code h).1 = tableAnswer s code h
      ∧ (tableAnswer s code h ≠ .take → (decideAnswer s code h).2 = none)
      ∧ ∀ k, kindOfCode code = some k → tableAnswer s code h = .take →
          (decideAnswer s code h).2 = some (commandOf k h.slots) := by
  unfold decideAnswer tableAnswer
  cases kind : kindOfCode code with
  | none => simp
  | some k =>
    have length : h.slots.length = kindSlots k := by simpa [lengthFits, kind] using fits
    cases taken : isTakenCommand k with
    | false => simp [taken]
    | true =>
      have parse := parseCommand_eq taken length
      by_cases service : isServiceCommand k = true ∧ h.source ≠ 30
      · simp [service]
      · cases legal : slotsRefused k h.slots with
        | true =>
          rw [legal] at parse
          simp [taken, service, parse, legal]
        | false =>
          rw [legal] at parse
          have state := refusedNow_commandOf s taken length legal
          cases refuses : refusedByState s k h <;> by_cases full : 4 ≤ s.port.intake.length <;>
            simp [taken, service, parse, state, refuses, full, Config.intakeCapacity, legal]

theorem carStopped_noteHeard (h : Heard) (s : State) : carStopped (noteHeard h s) = carStopped s := by
  simp [carStopped, roadSpeed, freshSlot]

/-- A part that answers gives the decided answer, and the command taken joins the intake queue. -/
theorem answerHeard_port {code : Byte} {h : Heard} {s : State} (replies : answers s = true) :
    (answerHeard code h s).port = { s.port with
      answer := some (decideAnswer s code h).1,
      intake := s.port.intake
        ++ (decideAnswer s code h).2.toList.map fun c => { source := h.source, command := c } } := by
  rw [answerHeard, if_pos replies]
  cases (decideAnswer s code h).2 <;> rfl

/-- The noting of a frame changes nothing that the table reads. -/
theorem tableAnswer_noteHeard (h : Heard) (s : State) (code : Byte) (g : Heard) :
    tableAnswer (noteHeard h s) code g = tableAnswer s code g := by
  have refuses : ∀ k, refusedByState (noteHeard h s) k g = refusedByState s k g := fun k => by
    cases k <;> simp [refusedByState, carStopped_noteHeard]
  simp only [tableAnswer, refuses, noteHeard_port]

end Sys2Proof.Machine

open Sys2Proof Sys2Proof.Machine

/-- Settles O37: the frame is noted, which changes nothing that the table reads, and its answer is the first row of the
table that it meets. -/
theorem addressedFramesAreAnsweredByTheTable : Obligations.AddressedFramesAreAnsweredByTheTable := by
  intro code h s heard
  obtain ⟨answer, silent, taken⟩ := decideAnswer_eq (noteHeard h s) (heardBy_iff.mp heard).2.2.1
  rw [tableAnswer_noteHeard] at answer silent taken
  have replies (may : mayQueue s = true) : answers (noteHeard h s) = true := (mayQueue_noteHeard h s).trans may
  refine ⟨_, exec_addressedFrameAnswer_heard heard, fun may => ?_, fun may other => ?_, fun k may take kind => ?_, ?_⟩
  · have unanswered : answers (noteHeard h s) = false := (mayQueue_noteHeard h s).trans may
    rw [answerHeard, if_neg (by simp [unanswered]), noteHeard_port]
  · simp [answerHeard_port (replies may), answer, noteHeard_port, silent other]
  · simp [answerHeard_port (replies may), answer, noteHeard_port, taken k kind take, take]
  · exact ((noteHeard_only h s).mono (by decide)).trans ((answerHeard_only code h _).mono (by decide))
end
section
/-! PROOFS. Straps and line delays: the odd parity of the straps as a count of levels, a timer's end in the transmit
queue, the cells of a wake pulse, and the statements about them (10 R152, R159, R160, R162, R163; O18, O46). -/

namespace Sys2Proof.Machine

/-! ### The straps -/

theorem levels_eq_countP (adr : BitVec 5) : adr.toNat % 2 + adr.toNat / 2 % 2 + adr.toNat / 4 % 2 + adr.toNat / 8 % 2
    + adr.toNat / 16 = (List.range 5).countP (fun i => adr.getLsbD i) := by
  revert adr
  decide

/-- The levels that the sampling adds up are the high ones among the address straps, and the parity strap. -/
theorem strapHighs_eq (p : StrapPins) :
    strapHighs p = (List.range 5).countP (fun i => p.adr.getLsbD i) + (if p.apr then 1 else 0) := by
  rw [strapHighs, levels_eq_countP]

theorem strapAddress_eq (p : StrapPins) : strapAddress p
    = if strapHighs p % 2 = 1 ∧ 1 ≤ p.adr.toNat ∧ p.adr.toNat ≤ 29 then some p.adr.toNat else none := by
  simp [strapAddress, and_assoc]

theorem strapAddress_isNone (p : StrapPins) : (strapAddress p).isNone
    = !decide (strapHighs p % 2 = 1 ∧ 1 ≤ p.adr.toNat ∧ p.adr.toNat ≤ 29) := by
  rw [strapAddress_eq]
  split <;> rename_i good <;> simp [good]

/-! ### The delays -/

/-- The end of a retry delay of one identity: every entry is as it was but for the delay. -/
theorem map_endRetry (id : FrameId) (queue : List TxEntry) :
    (queue.map fun e => if e.id = id then { e with retry := none } else e).map (fun e => { e with retry := none })
      = queue.map (fun e : TxEntry => { e with retry := none }) := by
  rw [List.map_map]
  refine List.map_congr_left fun e _ => ?_
  simp only [Function.comp_apply]
  split <;> rfl

theorem retry_of_mem_endRetry {id : FrameId} {queue : List TxEntry} {e : TxEntry}
    (here : e ∈ queue.map fun x => if x.id = id then { x with retry := none } else x) (same : e.id = id) :
    e.retry = none := by
  obtain ⟨x, _, rfl⟩ := List.mem_map.mp here
  split at same <;> rename_i other
  · rw [if_pos other]
  · exact absurd same other

theorem mayPulse_iff {s : State} : mayPulse s = true ↔ mayQueue s = true ∧ s.port.wakeWanted = true
    ∧ s.port.lineHeld = false ∧ s.port.sending = none := by
  simp [mayPulse, and_assoc]

/-- Of the 24 dominant cells of a wake pulse 8 have gone by with each millisecond (10 R152, R162). -/
theorem drivenCells_beginPulse {s : State} (idle : s.port.sending = none) (ms : Nat) :
    drivenCells { beginPulse s with now := s.now + ms } = List.replicate (24 - 8 * ms) true := by
  have cells : Config.cellsPerMs * (s.now + 3 - (s.now + ms)) = 24 - 8 * ms := by
    simp only [Config.cellsPerMs]
    omega
  simp only [drivenCells, beginPulse_sending, beginPulse_pulseUntil, idle, Option.getD_some, cells]

end Sys2Proof.Machine

open Sys2Proof Sys2Proof.Machine

/-- Settles O18: the sampling's own test of the address is the odd parity of the six straps and the range 1 to 29. -/
theorem strapsAreSampledAfterSettle : Obligations.StrapsAreSampledAfterSettle := by
  intro p s settling highs good
  have sampled : exec (.settleEnd p) s = .next (sampleStraps p s) := congrArg _ (if_pos settling)
  rw [sampled, sampleStraps, strapAddress_isNone, strapAddress_eq, strapHighs_eq]

/-- Settles O46: each timer's command clears that timer, and the pulse's cells are counted down from its end. -/
theorem lineDelaysEndWithTheirTimers : Obligations.LineDelaysEndWithTheirTimers := by
  refine ⟨fun _ => rfl, fun _ => rfl, fun s id => ?retry, fun s may wanted free idle => ?pulse,
    fun s online unslept => ?ended⟩
  case retry =>
    exact ⟨_, rfl, fun _ here same => retry_of_mem_endRetry here same, map_endRetry id _, rfl⟩
  case pulse =>
    have drives : exec .wakePulseSend s = .next (beginPulse s) :=
      congrArg _ (if_pos (mayPulse_iff.mpr ⟨may, wanted, free, idle⟩))
    exact ⟨drives, drivenCells_beginPulse idle⟩
  case ended =>
    change Host.Outcome.next _ = _
    cases mode : s.power.mode with
    | offline => exact absurd mode online
    | sleep => exact absurd mode unslept
    | starting _ | run | watch => rfl
end
section
/-! PROOFS. Attempts: the entry that an attempt begins, what the end of one makes of each entry and of the queue, and the
statements about its beginning, its failure and its answer (10 R154 to R156, R159, R160, R164; O43, O44, O45). -/

namespace Sys2Proof.Machine

/-! ### The beginning -/

theorem mayTransmit_iff {s : State} : mayTransmit s = true ↔ mayQueue s = true ∧ s.port.holdOff = none
    ∧ s.port.pauseTimer = none ∧ s.port.sending = none ∧ s.port.wakeWanted = false ∧ s.port.lineHeld = false := by
  simp [mayTransmit, runs, and_assoc]

/-- A queue with an eligible entry has a head, of the lowest class and among equals of the earliest order. -/
theorem exists_txHead {queue : List TxEntry} (waiting : ∃ e ∈ queue, txEligible e = true) :
    ∃ head, txHead queue = some head ∧ head ∈ queue ∧ txEligible head = true
      ∧ ∀ e ∈ queue, txEligible e = true → kindClass head.id.kind < kindClass e.id.kind
          ∨ (kindClass head.id.kind = kindClass e.id.kind ∧ head.order ≤ e.order) := by
  cases first : txHead queue with
  | none =>
    obtain ⟨e, here, eligible⟩ := waiting
    exact absurd eligible (by simp [txHead_none.mp first e here])
  | some head =>
    obtain ⟨here, eligible, least⟩ := txHead_some first
    refine ⟨head, rfl, here, eligible, fun e there may => ?_⟩
    have behind := least e there may
    rw [← Bool.not_eq_true, txBefore_iff] at behind
    omega

theorem beginAttempt_eq {s : State} {own : Nat} {head : TxEntry} (may : mayTransmit s = true)
    (first : txHead s.port.queue = some head) (strapped : s.straps.address = some own) :
    beginAttempt s = { s with port := { s.port with
      queue := s.port.queue.map (fun x => if x.id = head.id then { x with inFlight := true } else x),
      sending := some (encodeFrame (attemptFrame s own head)) } } := by
  rw [beginAttempt, if_pos may, first, strapped]

/-! ### The end of an attempt -/

section
variable {sleeping : Bool} {act : TxEntry → Option TxEntry} {e : TxEntry}

theorem landEntry_waiting (waits : e.inFlight = false) : landEntry sleeping act e = some e := by
  simp [landEntry, waits]

theorem landEntry_asleep (flies : e.inFlight = true) : landEntry true act e = none := by
  simp [landEntry, flies]

theorem landEntry_replaced {r : List Slot} (flies : e.inFlight = true) (waits : e.replacement = some r) :
    landEntry false act e = some (newTx e.id r e.periodic e.order) := by
  simp [landEntry, flies, waits, newTx]

theorem landEntry_acted (flies : e.inFlight = true) (bare : e.replacement = none) :
    landEntry false act e = act { e with inFlight := false } := by
  simp [landEntry, flies, bare]

end

/-- What an attempt that failed makes of an entry outside SLEEP. -/
def keptEntry (e : TxEntry) : TxEntry :=
  if e.inFlight then
    (match e.replacement with
     | some r => newTx e.id r e.periodic e.order
     | none => { e with inFlight := false })
  else e

theorem landEntry_keptEntry (e : TxEntry) : landEntry false some e = some (keptEntry e) := by
  unfold keptEntry
  split <;> rename_i flies
  · cases waits : e.replacement with
    | some r => exact landEntry_replaced flies waits
    | none => rw [landEntry_acted flies waits, waits]
  · exact landEntry_waiting (by simpa using flies)

theorem filterMap_landEntry_awake (queue : List TxEntry) :
    queue.filterMap (landEntry false some) = queue.map keptEntry := by
  rw [← List.filterMap_eq_map]
  exact congrArg (queue.filterMap ·) (funext landEntry_keptEntry)

theorem filterMap_landEntry_asleep (act : TxEntry → Option TxEntry) (queue : List TxEntry) :
    queue.filterMap (landEntry true act) = queue.filter (fun e => !e.inFlight) := by
  rw [← List.filterMap_eq_filter]
  refine List.filterMap_congr fun e _ => ?_
  cases flies : e.inFlight
  · rw [landEntry_waiting flies]
    simp [Option.guard, flies]
  · rw [landEntry_asleep flies]
    simp [Option.guard, flies]

theorem endAttempt_awake {s : State} (awoke : s.power.mode ≠ .sleep) : endAttempt some s = { s with
    port := { s.port with queue := s.port.queue.map keptEntry, sending := none } } := by
  rw [endAttempt, decide_eq_false awoke, filterMap_landEntry_awake]

theorem endAttempt_asleep {s : State} (asleep : s.power.mode = .sleep) (act : TxEntry → Option TxEntry) :
    endAttempt act s = { s with
      port := { s.port with queue := s.port.queue.filter (fun e => !e.inFlight), sending := none } } := by
  rw [endAttempt, decide_eq_true asleep, filterMap_landEntry_asleep]

/-! ### The failures -/

theorem exists_flying {s : State} (sends : ∃ e ∈ s.port.queue, e.inFlight = true) : ∃ e, flying s = some e :=
  Option.isSome_iff_exists.mp (List.find?_isSome.mpr sends)

theorem countFault_few {s : State} (few : s.port.faultCount < 7) :
    countFault s = { s with port := { s.port with faultCount := s.port.faultCount + 1 } } :=
  if_pos (Nat.succ_lt_succ few)

theorem countFault_eighth {s : State} (eighth : s.port.faultCount = 7) :
    countFault s = { s with port := { s.port with faultCount := 0, pauseTimer := some (s.now + 1000) },
                            faults := { s.faults with line := true } } :=
  if_neg (by omega)

/-- Both failures end the attempt with its entry as it was; a readback fault is counted. -/
theorem exec_failures {s : State} (sends : ∃ e ∈ s.port.queue, e.inFlight = true) :
    exec .lostArbitration s = .next (endAttempt some s)
      ∧ exec .readbackFault s = .next (countFault (endAttempt some s)) := by
  obtain ⟨e, flies⟩ := exists_flying sends
  exact ⟨by change Host.Outcome.next _ = _; rw [flies], by change Host.Outcome.next _ = _; rw [flies]⟩

/-! ### The answers -/

/-- The queue after the end of the one attempt in flight: the others stay, and the entry is landed. -/
theorem endAttempt_queue {s : State} {before after : List TxEntry} {e : TxEntry} (act : TxEntry → Option TxEntry)
    (queue : s.port.queue = before ++ e :: after) (others : ∀ x ∈ before ++ after, x.inFlight = false) :
    (endAttempt act s).port.queue
      = before ++ ((landEntry (s.power.mode = .sleep) act e).toList ++ after) := by
  have stay (part : List TxEntry) (waiting : ∀ x ∈ part, x.inFlight = false) :
      part.filterMap (landEntry (s.power.mode = .sleep) act) = part :=
    (List.filterMap_congr fun x here => landEntry_waiting (waiting x here)).trans List.filterMap_some
  simp only [endAttempt, queue, List.filterMap_append]
  rw [stay before fun x here => others x (List.mem_append_left _ here), List.filterMap_cons]
  cases landEntry (s.power.mode = .sleep) act e <;>
    simp [stay after fun x here => others x (List.mem_append_right _ here)]

theorem flying_eq {s : State} {before after : List TxEntry} {e : TxEntry}
    (queue : s.port.queue = before ++ e :: after) (flies : e.inFlight = true)
    (others : ∀ x ∈ before ++ after, x.inFlight = false) : flying s = some e := by
  rw [flying, queue, List.find?_append, List.find?_eq_none.mpr fun x here => by
    simp [others x (List.mem_append_left _ here)]]
  simp [flies]

/-- The entries that remain after an attempt whose outcome drops the entry, but for its replacement contents. -/
def leftAfter (sleeping : Prop) [Decidable sleeping] (before after : List TxEntry) (e : TxEntry) : List TxEntry :=
  match e.replacement with
  | some r => if sleeping then before ++ after else before ++ newTx e.id r e.periodic e.order :: after
  | none => before ++ after

/-- The outcome acts on an entry without replacement contents outside SLEEP, and on no other (10 R160, R164). -/
theorem endAttempt_queue_left {s : State} {before after : List TxEntry} {e : TxEntry}
    (act : TxEntry → Option TxEntry) (queue : s.port.queue = before ++ e :: after) (flies : e.inFlight = true)
    (others : ∀ x ∈ before ++ after, x.inFlight = false) :
    (endAttempt act s).port.queue = if e.replacement = none ∧ s.power.mode ≠ .sleep
      then before ++ ((act { e with inFlight := false }).toList ++ after)
      else leftAfter (s.power.mode = .sleep) before after e := by
  rw [endAttempt_queue act queue others, leftAfter]
  by_cases asleep : s.power.mode = .sleep
  · rw [decide_eq_true asleep, landEntry_asleep flies]
    cases e.replacement <;> simp [asleep]
  · rw [decide_eq_false asleep]
    cases waits : e.replacement with
    | none => simp [landEntry_acted flies waits, waits, asleep]
    | some r => simp [landEntry_replaced flies waits, asleep]

/-- An outcome that drops the entry leaves the others, and its replacement contents. -/
theorem endAttempt_queue_dropped {s : State} {before after : List TxEntry} {e : TxEntry}
    {act : TxEntry → Option TxEntry} (queue : s.port.queue = before ++ e :: after) (flies : e.inFlight = true)
    (others : ∀ x ∈ before ++ after, x.inFlight = false) (drops : act { e with inFlight := false } = none) :
    (endAttempt act s).port.queue = leftAfter (s.power.mode = .sleep) before after e := by
  rw [endAttempt_queue_left act queue flies others, drops]
  split
  · rename_i bare
    simp [leftAfter, bare.1]
  · rfl

/-- An outcome that keeps the entry below a limit and drops it at the limit. -/
theorem endAttempt_queue_counted {s : State} {before after : List TxEntry} {e kept : TxEntry} {below : Prop}
    [Decidable below] {act : TxEntry → Option TxEntry} (queue : s.port.queue = before ++ e :: after)
    (flies : e.inFlight = true) (others : ∀ x ∈ before ++ after, x.inFlight = false)
    (counts : act { e with inFlight := false } = if below then some kept else none) :
    (endAttempt act s).port.queue = if below ∧ e.replacement = none ∧ ¬ s.power.mode = .sleep
      then before ++ kept :: after else leftAfter (s.power.mode = .sleep) before after e := by
  by_cases low : below
  · rw [endAttempt_queue_left act queue flies others, counts, if_pos low]
    simp [low]
  · rw [endAttempt_queue_dropped queue flies others (counts.trans (if_neg low)), if_neg fun both => low both.1]

theorem mem_sentWhole_markSentWhole (k : FrameKind) (s : State) : k ∈ (markSentWhole k s).port.sentWhole := by
  simp only [markSentWhole]
  split <;> rename_i sent
  · simpa using sent
  · simp

theorem judgeAnswer_done {run : Option Nat} (short : ∃ n, run = some n ∧ 1 ≤ n ∧ n ≤ 5) :
    judgeAnswer run = some .take ∨ judgeAnswer run = some .refuse := by
  obtain ⟨n, rfl, _, _⟩ := short
  interval_cases n <;> decide

theorem judgeAnswer_hold {run : Option Nat} (middle : ∃ n, run = some n ∧ 6 ≤ n ∧ n ≤ 8) :
    judgeAnswer run = some .hold := by
  obtain ⟨n, rfl, _, _⟩ := middle
  interval_cases n <;> decide

theorem judgeAnswer_unanswered {run : Option Nat} (long : run = none ∨ ∃ n, run = some n ∧ 8 < n) :
    judgeAnswer run = none := by
  obtain rfl | ⟨n, rfl, above⟩ := long
  · rfl
  · simp only [judgeAnswer]
    repeat rw [if_neg (by omega)]

theorem judgeAnswer_isSome {run : Option Nat} (short : ∃ n, run = some n ∧ 1 ≤ n ∧ n ≤ 8) :
    (judgeAnswer run).isSome = true := by
  obtain ⟨n, rfl, _, _⟩ := short
  interval_cases n <;> decide

theorem dropsUnanswered_iff {answer : Option Answer} {e : TxEntry} :
    dropsUnanswered answer e = true ↔ answer = none ∧ e.replacement = none ∧ 2 ≤ e.unanswered := by
  simp [dropsUnanswered, and_assoc]

/-- The answer slot's close leaves the port and the faults as the frame sent whole does: the roster alone may change
besides. -/
theorem closeSlot_only (e : TxEntry) (answer : Option Answer) (s : State) :
    OnlyIn [.bus] (markSentWhole e.id.kind (endAttempt (answerAct s.now answer) s)) (closeSlot e answer s) := by
  unfold closeSlot
  split
  · exact modifyRoster_only _ _ _
  · exact .refl _ _

theorem closeSlot_bus {e : TxEntry} {answer : Option Answer} {s : State} (keeps : dropsUnanswered answer e = false) :
    (closeSlot e answer s).bus = s.bus := by
  simp [closeSlot, keeps]

theorem closeSlot_silences {e : TxEntry} {answer : Option Answer} {s : State} (whole : banksWhole s = true)
    (drops : dropsUnanswered answer e = true) (station : isStation e.id.target = true) :
    (rosterOf (closeSlot e answer s) e.id.target).status = .silent := by
  rw [closeSlot, if_pos drops, silenceTarget,
    rosterOf_modifyRoster_same (by simpa using roster_length_of_banksWhole whole) station]

theorem exec_broadcastSentWhole_eq {s : State} {e : TxEntry} (flies : flying s = some e)
    (broadcast : e.id.target = 0) : exec .broadcastSentWhole s
      = .next (markSentWhole e.id.kind (endAttempt (fun _ => none) s)) := by
  change Host.Outcome.next _ = _
  simp [flies, broadcast]

theorem exec_answerSlotClose_eq {s : State} {e : TxEntry} (flies : flying s = some e)
    (addressed : e.id.target ≠ 0) (run : Option Nat) : exec (.answerSlotClose run) s
      = .next (closeSlot e (judgeAnswer run) s) := by
  change Host.Outcome.next _ = _
  simp [flies, addressed]

end Sys2Proof.Machine

open Sys2Proof Sys2Proof.Machine

/-- Settles O43: the port may transmit, and the head that it takes is first by class and order. -/
theorem attemptSendsTheHeadOfTheQueue : Obligations.AttemptSendsTheHeadOfTheQueue := by
  intro s own awoke strapped clear unpaused idle unwanted free waiting
  have queues : mayQueue s = true := by simp [mayQueue, awoke, strapped]
  have may := mayTransmit_iff.mpr ⟨queues, clear, unpaused, idle, unwanted, free⟩
  obtain ⟨head, first, here, eligible, least⟩ := exists_txHead waiting
  exact ⟨head, here, eligible, least, congrArg _ (beginAttempt_eq may first strapped)⟩

/-- Settles O44: outside SLEEP the failed attempt keeps every entry, in SLEEP it keeps the others, and a readback fault
is counted after that. -/
theorem failedAttemptsKeepTheirEntry : Obligations.FailedAttemptsKeepTheirEntry := by
  intro s sends kept
  have kept_eq : kept = s.port.queue.map keptEntry := rfl
  obtain ⟨lost, fault⟩ := exec_failures sends
  rw [lost, fault, kept_eq]
  refine ⟨fun awoke => ?awake, fun asleep => ?asleep⟩
  case awake =>
    rw [endAttempt_awake awoke]
    exact ⟨rfl, fun few => congrArg _ (countFault_few few), fun eighth => congrArg _ (countFault_eighth eighth)⟩
  case asleep =>
    rw [endAttempt_asleep asleep]
    exact ⟨rfl, fun few => congrArg _ (countFault_few few), fun eighth => congrArg _ (countFault_eighth eighth)⟩

/-- Settles O45: the frame sent whole is marked, its entry is landed by the answer of the run, and the third UNANSWERED
attempt alone reaches the roster. -/
theorem sentFramesLeaveByTheirAnswer : Obligations.SentFramesLeaveByTheirAnswer := by
  intro s before after e whole queue flies others sleeping left
  have left_eq : left = leftAfter (s.power.mode = .sleep) before after e := rfl
  have flying_e := flying_eq queue flies others
  have ends (act : TxEntry → Option TxEntry) :
      OnlyIn [.port, .faults] s (markSentWhole e.id.kind (endAttempt act s)) :=
    ((endAttempt_only act s).mono (by decide)).trans (markSentWhole_only _ _)
  refine ⟨fun broadcast => ?broadcast, fun addressed run => ?addressed⟩
  case broadcast =>
    exact ⟨_, exec_broadcastSentWhole_eq flying_e broadcast, endAttempt_queue_dropped queue flies others rfl, rfl,
      mem_sentWhole_markSentWhole _ _, rfl, rfl, ends _⟩
  case addressed =>
    have closes := closeSlot_only e (judgeAnswer run) s
    refine ⟨_, exec_answerSlotClose_eq flying_e addressed run, ?_⟩
    rw [closes.port (by decide), closes.faults (by decide), left_eq]
    refine ⟨rfl, mem_sentWhole_markSentWhole _ _, rfl, rfl, fun short => ?done, fun middle => ?hold,
      fun long => ?unanswered, fun long third bare station => ?silenced, fun spared => ?roster, ?frame⟩
    case done =>
      refine endAttempt_queue_dropped queue flies others ?_
      obtain answer | answer := judgeAnswer_done short <;> rw [answer] <;> rfl
    case hold =>
      rw [judgeAnswer_hold middle]
      exact endAttempt_queue_counted queue flies others rfl
    case unanswered =>
      rw [judgeAnswer_unanswered long]
      exact endAttempt_queue_counted queue flies others rfl
    case silenced =>
      exact closeSlot_silences whole (dropsUnanswered_iff.mpr ⟨judgeAnswer_unanswered long, bare, third⟩) station
    case roster =>
      refine closeSlot_bus (Bool.eq_false_iff.mpr fun drops => ?_)
      obtain ⟨unanswered, bare, third⟩ := dropsUnanswered_iff.mp drops
      obtain short | few | replaced := spared
      · have answered := judgeAnswer_isSome short
        rw [unanswered] at answered
        cases answered
      · omega
      · exact replaced bare
    case frame =>
      exact ((ends _).mono (by decide)).trans (closes.mono (by decide))
end

section
/-! PROOFS. Store: what the offers to the write queue leave of the store port (11 R167, R168), the relation of two
states that keeps the words of the external memory, the bounds of the write queue and the dip's hold of the writer (11
R165, R167), and what the store, the units and the power states do to it. -/

namespace Sys2Proof.Machine

/-! ### Words offered to the write queue -/

theorem writesWithin_iff {n : Nsp} :
    writesWithin n = true ↔ (queuedAddresses n).length ≤ 16 ∧ (queuedAddresses n).Nodup := by
  simp only [writesWithin, Bool.and_eq_true, decide_eq_true_eq, distinct_iff, queuedAddresses, List.length_map]

/-- The write queue holds the entries that stand in it and those that joined behind them; nothing else of the store's
writing changes. -/
structure QueueGrown (m n : Nsp) : Prop where
  memory : n.memory = m.memory
  writer : n.writer = m.writer
  addresses : ∃ more, queuedAddresses n = queuedAddresses m ++ more
  within : writesWithin m = true → writesWithin n = true

theorem QueueGrown.refl (n : Nsp) : QueueGrown n n := ⟨rfl, rfl, ⟨[], (List.append_nil _).symm⟩, id⟩

theorem QueueGrown.trans {l m n : Nsp} (h : QueueGrown l m) (k : QueueGrown m n) : QueueGrown l n :=
  have ⟨first, early⟩ := h.addresses
  have ⟨second, late⟩ := k.addresses
  ⟨k.memory.trans h.memory, k.writer.trans h.writer, ⟨first ++ second, by rw [late, early, List.append_assoc]⟩,
    k.within ∘ h.within⟩

theorem queueWord_memory (n : Nsp) (aw : Nat × Word) : (queueWord n aw).memory = n.memory := by
  unfold queueWord
  split <;> rfl

theorem queueWord_writer (n : Nsp) (aw : Nat × Word) : (queueWord n aw).writer = n.writer := by
  unfold queueWord
  split <;> rfl

theorem wordQueued_eq (a : Nat) (n : Nsp) : wordQueued a n.queue = decide (a ∈ queuedAddresses n) := by
  rw [Bool.eq_iff_iff]
  simp [wordQueued, queuedAddresses]

/-- An offered word joins at the end where its address does not stand in the queue. -/
theorem queuedAddresses_queueWord (n : Nsp) (aw : Nat × Word) : queuedAddresses (queueWord n aw)
    = queuedAddresses n ++ (if aw.1 ∈ queuedAddresses n then [] else [aw.1]) := by
  rw [queuedAddresses, queueWord_addresses, wordQueued_eq]
  simp only [decide_eq_true_eq]
  rfl

/-- Words of different addresses join the queue but for those that stand in it. -/
theorem queuedAddresses_foldl_queueWord : ∀ (words : List (Nat × Word)) (n : Nsp), (words.map Prod.fst).Nodup →
    queuedAddresses (words.foldl queueWord n)
      = queuedAddresses n ++ (words.map Prod.fst).filter (fun a => a ∉ queuedAddresses n)
  | [], n, _ => by simp
  | aw :: rest, n, apart => by
    obtain ⟨new, later⟩ := List.nodup_cons.mp apart
    have same : (rest.map Prod.fst).filter (fun a => a ∉ queuedAddresses (queueWord n aw))
        = (rest.map Prod.fst).filter (fun a => a ∉ queuedAddresses n) := by
      refine List.filter_congr fun a ha => ?_
      have other : a ≠ aw.1 := fun eq => new (eq ▸ ha)
      rw [queuedAddresses_queueWord]
      split <;> simp [other]
    rw [List.foldl_cons, queuedAddresses_foldl_queueWord rest _ later, same, queuedAddresses_queueWord]
    by_cases queued : aw.1 ∈ queuedAddresses n <;> simp [queued]

theorem foldl_queueWord_memory : ∀ (words : List (Nat × Word)) (n : Nsp),
    (words.foldl queueWord n).memory = n.memory
  | [], _ => rfl
  | aw :: rest, n => (foldl_queueWord_memory rest _).trans (queueWord_memory n aw)

theorem foldl_queueWord_writer : ∀ (words : List (Nat × Word)) (n : Nsp),
    (words.foldl queueWord n).writer = n.writer
  | [], _ => rfl
  | aw :: rest, n => (foldl_queueWord_writer rest _).trans (queueWord_writer n aw)

/-! ### Records offered to the store -/

theorem atAddresses_fst : ∀ (words : List Word) (base : Nat),
    (atAddresses base words).map Prod.fst = List.range' base words.length
  | [], _ => rfl
  | _ :: rest, base => congrArg (base :: ·) (atAddresses_fst rest (base + 1))

/-- The words of one record have different addresses (11 TABLE 11-1). -/
theorem recordWords_nodup (s : State) (r : StoreRecord) : ((recordWords s r).map Prod.fst).Nodup := by
  rw [recordWords, atAddresses_fst]
  exact List.nodup_range'

/-- A record that fits joins a queue within its bounds. -/
theorem recordWords_within {s : State} {r : StoreRecord} (fits : recordFits s r = true)
    (within : writesWithin s.nsp = true) : writesWithin ((recordWords s r).foldl queueWord s.nsp) = true := by
  obtain ⟨_, apart⟩ := writesWithin_iff.mp within
  have joined := queuedAddresses_foldl_queueWord (recordWords s r) s.nsp (recordWords_nodup s r)
  have counted : ((recordWords s r).map Prod.fst).countP (fun a => a ∉ queuedAddresses s.nsp)
      = ((recordWords s r).filter (fun aw => !wordQueued aw.1 s.nsp.queue)).length := by
    rw [List.countP_map, List.countP_eq_length_filter]
    refine congrArg List.length (List.filter_congr fun aw _ => ?_)
    rw [wordQueued_eq, ← decide_not]
    rfl
  have length : (queuedAddresses s.nsp).length = s.nsp.queue.length := List.length_map _
  have room : _ + s.nsp.queue.length ≤ 16 := of_decide_eq_true fits
  refine writesWithin_iff.mpr ⟨?_, ?_⟩ <;> rw [joined]
  · rw [List.length_append, ← List.countP_eq_length_filter, counted, length]
    omega
  · refine List.nodup_append.mpr ⟨apart, (recordWords_nodup s r).filter _, fun a old b new eq => ?_⟩
    simp only [List.mem_filter, decide_eq_true_eq] at new
    exact new.2 (eq ▸ old)

theorem markTaken_grown (r : StoreRecord) (s : State) : QueueGrown s.nsp (markTaken r s).nsp := by
  cases r
  case odometer => exact ⟨rfl, rfl, ⟨[], (List.append_nil _).symm⟩, id⟩
  case item i =>
    rw [markTaken, (modifyItem_only i _ s).nsp (by decide)]
    exact .refl _
  all_goals exact .refl _

theorem takeRecord_grown (s : State) (r : StoreRecord) : QueueGrown s.nsp (takeRecord s r).nsp := by
  rcases takeRecord_cases s r with ⟨_, _, _, fits, taken⟩ | left
  · rw [taken]
    refine QueueGrown.trans ?_ (markTaken_grown r { s with nsp := (recordWords s r).foldl queueWord s.nsp })
    exact ⟨foldl_queueWord_memory _ _, foldl_queueWord_writer _ _,
      ⟨_, queuedAddresses_foldl_queueWord _ _ (recordWords_nodup s r)⟩, recordWords_within fits⟩
  · rw [left]
    exact .refl _

theorem foldl_takeRecord_grown : ∀ (l : List StoreRecord) (s : State), QueueGrown s.nsp (l.foldl takeRecord s).nsp
  | [], s => .refl s.nsp
  | r :: rest, s => (takeRecord_grown s r).trans (foldl_takeRecord_grown rest _)

theorem reofferAll_grown (s : State) : QueueGrown s.nsp (reofferAll s).nsp := foldl_takeRecord_grown reofferOrder s

/-! ### The relation -/

/-- The form of the external memory, the bounds of the write queue and the hold of the writer in a dip (11 R165, R167)
that `s` has, `t` has. -/
structure StoreFormKept (s t : State) : Prop where
  form : memoryWf s.nsp.memory = true → memoryWf t.nsp.memory = true
  writes : writesWithin s.nsp = true → writesWithin t.nsp = true
  writer : writerHolds s = true → writerHolds t = true

/-- The words of the external memory stay, and the bounds of the write queue and the hold of the writer are kept. -/
structure StoreKept (s t : State) : Prop where
  memory : t.nsp.memory = s.nsp.memory
  writes : writesWithin s.nsp = true → writesWithin t.nsp = true
  writer : writerHolds s = true → writerHolds t = true

theorem StoreKept.form {s t : State} (h : StoreKept s t) : StoreFormKept s t :=
  ⟨fun wf => by rw [h.memory, wf], h.writes, h.writer⟩

theorem StoreFormKept.trans {s t u : State} (h : StoreFormKept s t) (k : StoreFormKept t u) : StoreFormKept s u :=
  ⟨k.form ∘ h.form, k.writes ∘ h.writes, k.writer ∘ h.writer⟩

theorem StoreKept.refl (s : State) : StoreKept s s := ⟨rfl, id, id⟩

theorem StoreKept.trans {s t u : State} (h : StoreKept s t) (k : StoreKept t u) : StoreKept s u :=
  ⟨k.memory.trans h.memory, k.writes ∘ h.writes, k.writer ∘ h.writer⟩

theorem StoreKept.ite {c : Prop} [Decidable c] {s t u : State} (h : StoreKept s t) (k : StoreKept s u) :
    StoreKept s (if c then t else u) := by
  split <;> assumption

theorem StoreKept.foldl {α : Type} {f : State → α → State} (h : ∀ t a, StoreKept t (f t a)) :
    ∀ (l : List α) (s : State), StoreKept s (l.foldl f s)
  | [], s => .refl s
  | a :: rest, s => (h s a).trans (StoreKept.foldl h rest (f s a))

theorem writerHolds_iff {s : State} : writerHolds s = true ↔
    (s.power.dip = true → ∀ n acked retry, s.nsp.writer = .trying n acked retry → acked = true) := by
  unfold writerHolds
  cases s.power.dip <;> cases s.nsp.writer <;> simp

/-- An operation that leaves what the store holds, but for its writer, which holds to the dip. -/
theorem StoreKept.of_writer {s t : State} (memory : t.nsp.memory = s.nsp.memory) (queue : t.nsp.queue = s.nsp.queue)
    (writer : writerHolds s = true → writerHolds t = true) : StoreKept s t := by
  refine ⟨memory, fun within => ?_, writer⟩
  rwa [writesWithin, queue]

/-- An operation that leaves the queue, the writer, the memory and the dip. -/
theorem StoreKept.of_same {s t : State} (memory : t.nsp.memory = s.nsp.memory := by rfl)
    (queue : t.nsp.queue = s.nsp.queue := by rfl) (writer : t.nsp.writer = s.nsp.writer := by rfl)
    (dip : t.power.dip = s.power.dip := by rfl) : StoreKept s t :=
  .of_writer memory queue fun holds => by rwa [writerHolds, dip, writer]

/-- Outside a dip every writer holds. -/
theorem writerHolds_of_steady {s : State} (steady : s.power.dip = false) : writerHolds s = true :=
  writerHolds_iff.mpr fun dip => absurd (steady.symm.trans dip) Bool.false_ne_true

theorem StoreKept.of_only {bs : List Block} {s t : State} (only : OnlyIn bs s t)
    (quiet : bs.all (fun b => b ≠ .power ∧ b ≠ .nsp) = true) : StoreKept s t := by
  have out : ∀ b ∈ bs, b ≠ .power ∧ b ≠ .nsp := by simpa using quiet
  have power := only.power fun inside => (out _ inside).1 rfl
  have nsp := only.nsp fun inside => (out _ inside).2 rfl
  exact .of_same (by rw [nsp]) (by rw [nsp]) (by rw [nsp]) (by rw [power])

theorem StoreKept.settled {s t : State} (h : StoreKept s t) : StoreKept s (settled t) :=
  h.trans (.of_same (by rw [settled_nsp]) (by rw [settled_nsp]) (by rw [settled_nsp]) (settled_dip t))

/-! ### The store -/

theorem takeRecord_store (s : State) (r : StoreRecord) : StoreKept s (takeRecord s r) := by
  have grown := takeRecord_grown s r
  have power := (takeRecord_only s r).power (by decide)
  exact ⟨grown.memory, grown.within, fun holds => by rwa [writerHolds, power, grown.writer]⟩

/-- A write starts outside a dip alone. -/
theorem kickWriter_store (s : State) : StoreKept s (kickWriter s) := by
  unfold kickWriter
  split
  case isTrue starts =>
    simp only [Bool.and_eq_true, Bool.not_eq_true'] at starts
    obtain ⟨⟨_, steady⟩, _⟩ := starts
    exact .of_writer rfl rfl fun _ => writerHolds_of_steady steady
  case isFalse => exact .refl s

theorem offerRecord_store (r : StoreRecord) (s : State) : StoreKept s (offerRecord r s) :=
  (takeRecord_store s r).trans (kickWriter_store _)

theorem reofferAll_store (s : State) : StoreKept s (reofferAll s) := .foldl takeRecord_store _ s

theorem markOdometer_store (s : State) : StoreKept s (markOdometer s) :=
  StoreKept.trans (.of_only (only_trip s _) rfl) (offerRecord_store .odometer _)

theorem markOpenSlot_store (s : State) : StoreKept s (markOpenSlot s) :=
  StoreKept.trans (.of_only (only_journey s _) rfl) (offerRecord_store .openSlot _)

/-- The state in which the head of the write queue has just been stored. -/
def headStored (e : WriteEntry) (rest : List WriteEntry) (s : State) : State :=
  { s with
    nsp := { s.nsp with queue := afterWrite e ++ rest, writer := .idle,
                        memory := writeWord (e.addr % 128) e.data s.nsp.memory, storing := some e.addr },
    faults := { s.faults with nv := false } }

/-- The state in which the records that wait have been offered, where the queue has come to 8 entries. -/
def headOffered (e : WriteEntry) (rest : List WriteEntry) (s : State) : State :=
  if (afterWrite e ++ rest).length ≤ 8 then reofferAll (headStored e rest s) else headStored e rest s

/-- After the storing of the head and the offers the next write starts. -/
theorem storeHead_eq (e : WriteEntry) (rest : List WriteEntry) (s : State) :
    storeHead e rest s = kickWriter (headOffered e rest s) := rfl

/-- The entry that was the head keeps its address while newer data wait. -/
theorem afterWrite_addresses (e : WriteEntry) :
    (afterWrite e).map (fun x => x.addr) = if e.replacement.isSome then [e.addr] else [] := by
  unfold afterWrite
  cases e.replacement <;> rfl

theorem headStored_addresses (e : WriteEntry) (rest : List WriteEntry) (s : State) :
    queuedAddresses (headStored e rest s).nsp
      = (if e.replacement.isSome then [e.addr] else []) ++ rest.map (fun x => x.addr) := by
  rw [queuedAddresses, headStored, List.map_append, afterWrite_addresses]

theorem headStored_storeForm {e : WriteEntry} {rest : List WriteEntry} {s : State} (queue : s.nsp.queue = e :: rest) :
    StoreFormKept s (headStored e rest s) := by
  refine ⟨memoryWf_writeWord (Nat.mod_lt _ (by decide)), fun within => ?_,
    fun _ => writerHolds_iff.mpr fun _ _ _ _ trying => Writer.noConfusion trying⟩
  have before : queuedAddresses s.nsp = e.addr :: rest.map (fun x => x.addr) := congrArg (List.map _) queue
  have shorter : (queuedAddresses (headStored e rest s).nsp).Sublist (queuedAddresses s.nsp) := by
    rw [before, headStored_addresses]
    split
    · exact List.Sublist.refl _
    · exact List.sublist_cons_self _ _
  obtain ⟨few, apart⟩ := writesWithin_iff.mp within
  exact writesWithin_iff.mpr ⟨shorter.length_le.trans few, apart.sublist shorter⟩

theorem completeWrite_storeForm (s : State) : StoreFormKept s (completeWrite s) := by
  unfold completeWrite
  split
  case h_1 n acked retry e rest _ queue =>
    split
    · exact (StoreKept.refl s).form
    · have offered : StoreKept (headStored e rest s) (storeHead e rest s) := by
        rw [storeHead_eq]
        have offers : StoreKept (headStored e rest s) (headOffered e rest s) := .ite (reofferAll_store _) (.refl _)
        exact offers.trans (kickWriter_store _)
      exact (headStored_storeForm queue).trans offered.form
  case h_2 => exact (StoreKept.refl s).form

theorem tryAcked_store (tries : Nat) (s : State) : StoreKept s (tryAcked tries s) :=
  .of_writer rfl rfl fun _ => writerHolds_iff.mpr fun _ _ _ _ trying => by
    cases trying
    rfl

theorem tryUnacked_store (tries : Nat) (s : State) : StoreKept s (tryUnacked tries s) := by
  have put : ∀ f w, (s.power.dip = true → ∀ n acked retry, w = Writer.trying n acked retry → acked = true) →
      StoreKept s { s with nsp := { s.nsp with writer := w }, faults := f } :=
    fun _ _ holds => .of_writer rfl rfl fun _ => writerHolds_iff.mpr holds
  unfold tryUnacked
  split
  · exact put _ _ fun _ _ _ _ trying => Writer.noConfusion trying
  · split
    · exact put _ _ fun _ _ _ _ trying => Writer.noConfusion trying
    case isFalse steady => exact put _ _ fun dip => absurd dip steady

theorem answerWrite_store (answer : StoreAnswer) (s : State) : StoreKept s (answerWrite answer s) := by
  unfold answerWrite
  split
  case h_1 n acked retry _ =>
    cases answer
    case commandAcked => exact .ite (.refl s) (tryAcked_store n s)
    case commandUnacked => exact .ite (.refl s) (tryUnacked_store n s)
    case dataUnacked => exact .ite (.refl s) ((tryAcked_store n s).trans (tryUnacked_store n _))
  case h_2 => exact .refl s

theorem endWriteWait_store (s : State) : StoreKept s (endWriteWait s) := by
  unfold endWriteWait
  split
  · refine .of_writer rfl rfl fun _ => ?_
    split
    · exact writerHolds_iff.mpr fun _ _ _ _ trying => Writer.noConfusion trying
    · exact writerHolds_of_steady (by simpa using ‹¬s.power.dip = true›)
  · exact .refl s

/-! ### The load -/

theorem loadItem_store (m : Option (List (Nat × Word))) (s : State) (i : Nat) : StoreKept s (loadItem m s i) := by
  unfold loadItem
  split
  · exact .of_only (modifyItem_only i _ s) rfl
  · exact StoreKept.trans (.of_only (only_faults s _) rfl) (.of_only (modifyItem_only i _ _) rfl)

theorem loadOdometer_store (m : Option (List (Nat × Word))) (s : State) : StoreKept s (loadOdometer m s) := by
  unfold loadOdometer
  split <;> exact .of_same

theorem finishLoad_store (m : Option (List (Nat × Word))) (s : State) : StoreKept s (finishLoad m s) := by
  have journey : ∀ t, StoreKept t (loadJourney m t) := fun _ => .of_same
  have listening : ∀ (t : State) mode timer,
      StoreKept t { t with power := { t.power with mode := mode, startTimer := timer } } := fun _ _ _ => .of_same
  have loaded := ((loadOdometer_store m s).trans (.foldl (loadItem_store m) itemNumbers _)).trans (journey _)
  unfold finishLoad
  dsimp only
  exact (loaded.trans (listening _ _ _)).trans (.foldl (fun t i => offerRecord_store (.item i) t) itemNumbers _)

theorem completeLoad_store (s : State) : StoreKept s (completeLoad s) := by
  refine StoreKept.trans ?_ (finishLoad_store _ _)
  exact .of_same

theorem failLoad_store (s : State) : StoreKept s (failLoad s) := by
  refine StoreKept.trans ?_ (finishLoad_store _ _)
  exact .of_same

theorem answerOperation_store (answer : StoreAnswer) (s : State) : StoreKept s (answerOperation answer s) := by
  refine .ite ?_ (answerWrite_store answer s)
  unfold answerLoad
  split
  · exact .of_same
  · exact .ite .of_same (failLoad_store s)
  · exact .refl s

/-! ### Service items, journeys, distance and the clock -/

theorem markItem_store (i : Nat) (s : State) : StoreKept s (markItem i s) :=
  .ite (.of_only (modifyItem_only i _ s) rfl)
    (StoreKept.trans (.of_only (modifyItem_only i _ s) rfl) (offerRecord_store _ _))

theorem itemMoved_store (i : Nat) (km : Int) (hours : Option Int) (m : Bool) (s : State) :
    StoreKept s (itemMoved i km hours m s) :=
  StoreKept.trans (.of_only (modifyItem_only i _ s) rfl) (.ite (markItem_store i _) (.refl _))

theorem wholeKmMark_store (s : State) : StoreKept s (wholeKmMark s) :=
  .foldl (fun t _ => .ite (itemMoved_store _ _ _ _ t) (.refl t)) _ s

theorem countHours_store (s : State) (i : Nat) : StoreKept s (countHours s i) := by
  unfold countHours
  split
  · exact .ite (itemMoved_store _ _ _ _ s) (.refl s)
  · exact .refl s

theorem countTenths_store : ∀ (n : Nat) (s : State), StoreKept s (countTenths n s)
  | 0, s => .refl s
  | n + 1, s => (StoreKept.foldl countHours_store itemNumbers s).trans (countTenths_store n _)

theorem runSeconds_store (d : Nat) (s : State) : StoreKept s (runSeconds d s) :=
  StoreKept.trans (.of_only (only_service s _) rfl) (countTenths_store _ _)

theorem resetItem_store (s : State) (i : Nat) : StoreKept s (resetItem s i) :=
  (StoreKept.trans (.of_only (modifyItem_only i _ s) rfl) (markItem_store i _)).trans
    (.of_only (cursorAfterReset_only i _) rfl)

theorem serviceResetOp_store (i : Nat) (s : State) : StoreKept s (serviceResetOp i s) :=
  .ite ((StoreKept.foldl resetItem_store _ s).trans (.of_only (postNote_only _ _ _ _ _) rfl))
    ((resetItem_store s i).trans (.of_only (postNote_only _ _ _ _ _) rfl))

theorem journeyMinute_store (s : State) : StoreKept s (journeyMinute s) := by
  have counted : ∀ j, StoreKept s { s with journey := j } := fun j => .of_only (only_journey s j) rfl
  unfold journeyMinute
  split
  · exact .refl s
  · exact .ite ((counted _).trans (markOpenSlot_store _)) (counted _)

theorem openJourneyOp_store (s : State) : StoreKept s (openJourneyOp s) :=
  (StoreKept.trans (.of_only (only_journey s _) rfl) (markOpenSlot_store _)).trans
    (.of_only (postNote_only _ _ _ _ _) rfl)

theorem closeJourneyOp_store (j : Journey) (s : State) : StoreKept s (closeJourneyOp j s) :=
  ((((StoreKept.of_only (only_journey s _) rfl).trans (offerRecord_store (.position (ringPositionOf j.number)) _)).trans
    (offerRecord_store .header _)).trans (offerRecord_store .openSlot _)).trans
    (.of_only (postNote_only _ _ _ _ _) rfl)

theorem clearJourneys_store (s : State) : StoreKept s (clearJourneys s) :=
  (StoreKept.trans (.of_only (only_journey s _) rfl) (.foldl (fun t p => offerRecord_store (.position p) t) _ _)).trans
    (.of_only (postNote_only _ _ _ _ _) rfl)

theorem journeyShort_store (a : KeyAction) (s : State) : StoreKept s (journeyShort a s) := by
  unfold journeyShort
  split
  · exact .ite (.of_only (setReadout_only _ s) rfl) (openJourneyOp_store s)
  · exact .refl s

theorem journeyLong_store (s : State) : StoreKept s (journeyLong s) := by
  unfold journeyLong
  split
  · exact closeJourneyOp_store _ s
  · exact openJourneyOp_store s

theorem odometerStep_store (s : State) : StoreKept s (odometerStep s) := by
  let moved : State := { s with trip := { s.trip with odometer := s.trip.odometer + 1 } }
  have moves : StoreKept s moved := .of_only (only_trip s _) rfl
  have marked : StoreKept s (if moved.trip.odometer % 10 = 0 then wholeKmMark moved else moved) :=
    .ite (moves.trans (wholeKmMark_store moved)) moves
  exact .ite (.ite (marked.trans (markOdometer_store _)) marked) (.refl s)

theorem distanceSteps_store : ∀ (n : Nat) (s : State), StoreKept s (distanceSteps n s)
  | 0, s => .refl s
  | n + 1, s => by
    have others : ∀ t, StoreKept t (watchStep (journeyStep (tripsStep t))) := fun _ => .of_same
    exact ((odometerStep_store s).trans (others _)).trans (distanceSteps_store n _)

theorem pulseDelta_store (d : Nat) (s : State) : StoreKept s (pulseDelta d s) :=
  StoreKept.trans (.of_only (only_trip s _) rfl) (distanceSteps_store _ _)

theorem issue_store {f : Nat → State → State} (kept : ∀ d t, StoreKept t (f d t)) (d : Nat) (s : State) :
    StoreKept s (issue f d s) := .ite (.refl s) (kept d s)

theorem clockPeriod_store (s : State) : StoreKept s (clockPeriod s) := by
  have set : ∀ (t : State) c, StoreKept t { t with clock := c } := fun t c => .of_only (only_clock t c) rfl
  have minute : ∀ t, StoreKept t (minuteTick t) := fun t =>
    StoreKept.trans (.ite (.refl t) (set _ _)) (journeyMinute_store _)
  exact (set _ _).trans (.ite ((set _ _).trans (minute _)) (set _ _))

/-! ### Reports -/

theorem hearFrame_store {handle : State → State} (handles : ∀ t, StoreKept t (handle t)) (fits : Bool) (h : Heard)
    (s : State) : StoreKept s (hearFrame fits h handle s) := by
  have dip : (noteHeard h s).power.dip = s.power.dip := by
    dsimp only [noteHeard]
    rw [(modifyRoster_only _ _ s).power (by decide)]
  have noted : StoreKept s (noteHeard h s) :=
    .of_same (by rw [noteHeard_nsp]) (by rw [noteHeard_nsp]) (by rw [noteHeard_nsp]) dip
  unfold hearFrame
  split
  · exact .refl s
  · exact .refl s
  · exact .of_only (noteClash_only s) rfl
  · exact noted.trans (handles _)

theorem consumers_store (k : ReportKind) (h : Heard) (d e : Nat) (c : Bool) (s : State) :
    StoreKept s (consumers k h d e c s) := by
  cases k
  case fuelFlow =>
    have counts : ∀ d t, StoreKept t (fuelDelta d t) := fun d t => .of_only (fuelDelta_only d t) rfl
    exact (issue_store counts d s).trans (issue_store runSeconds_store e _)
  case chassis =>
    have moved := (issue_store pulseDelta_store d s).trans
      (.of_only (followStandstill_only (slotAt h.slots 2) _) rfl)
    have speeds := (moved.trans (.of_only (holdSpeed_only (slotAt h.slots 2) _) rfl)).trans
      (.of_only (takeGateSpeed_only h.ready (slotAt h.slots 2) _) rfl)
    exact (speeds.trans (.of_only (applyGates_only _) rfl)).trans (.of_only (evaluateReport_only _ _) rfl)
  all_goals exact .of_only (consumers_only _ h d e c s) rfl

theorem offerReport_store (k : ReportKind) (h : Heard) (s : State) : StoreKept s (offerReport k h s) := by
  unfold offerReport
  split
  · exact StoreKept.trans (.of_only (only_bus s _) rfl) (consumers_store k h _ _ _ _)
  · exact .of_only (markRival_only k _ s) rfl
  · exact .refl s

/-! ### Power states -/

/-- A state with an idle writer and an empty queue meets every bound of the store, whatever its memory holds. -/
theorem StoreFormKept.of_cold {s t : State} (memory : memoryWf s.nsp.memory = true → memoryWf t.nsp.memory = true)
    (queue : t.nsp.queue = []) (writer : t.nsp.writer = .idle) : StoreFormKept s t := by
  refine ⟨memory, fun _ => ?_, fun _ => writerHolds_iff.mpr fun _ _ _ _ trying => ?_⟩
  · rw [writesWithin, queue]
    rfl
  · rw [writer] at trying
    cases trying

theorem coldStart_store (crank lowv : Bool) (s : State) : StoreKept s (coldStart crank lowv s) :=
  have cold : StoreFormKept s (coldStart crank lowv s) := .of_cold id rfl rfl
  ⟨rfl, cold.writes, cold.writer⟩

theorem supplyLost_storeForm (cut : Option Word) (s : State) : StoreFormKept s (supplyLost cut s) :=
  .of_cold (memoryWf_cutMemory cut s.nsp) rfl rfl

theorem startInto_store (toRun : Bool) (s : State) : StoreKept s (startInto toRun s) := by
  have run : StoreKept s (runBegun s) := .of_same
  have watch : StoreKept s (watchBegun (gaugesGathering s) s) := .of_same
  exact .ite (run.trans (.of_only (applyGates_only _) rfl)) (watch.trans (.of_only (applyGates_only _) rfl))

theorem offerStores_store (s : State) : StoreKept s (offerStores s) := by
  have moved : ∀ t i, StoreKept t (markMoved t i) := fun t i => .ite (markItem_store i t) (.refl t)
  unfold offerStores
  dsimp only
  exact ((markOdometer_store s).trans (.ite (markOpenSlot_store _) (.refl _))).trans (.foldl moved itemNumbers _)

theorem enterWatch_store (s : State) : StoreKept s (enterWatch s) := by
  have watch : StoreKept s (watchBegun (gaugesParking s) s) := .of_same
  exact ((watch.trans (.of_only (endReminders_only _) rfl)).trans (.of_only (applyGates_only _) rfl)).trans
    (offerStores_store _)

theorem wakeBlocks_store (warm : Bool) (kind : Nat) (s : State) : StoreKept s (wakeBlocks warm kind s) := by
  let emptied : State := emptyMessages (emptyChimes { s with port := wakePort warm s.port })
  have quiet : StoreKept s emptied :=
    (StoreKept.trans (.of_only (only_port s _) rfl) (.of_only (emptyChimes_only _) rfl)).trans
      (.of_only (emptyMessages_only _) rfl)
  have woken : StoreKept emptied (wakeBlocks warm kind s) := .of_same
  exact quiet.trans woken

theorem wakeStart_store (toRun : Bool) (s : State) : StoreKept s (wakeStart toRun s) :=
  ((((wakeBlocks_store false 1 s).trans (startInto_store toRun _)).trans (reofferAll_store _)).trans
    (kickWriter_store _)).trans (.of_only (offerOwned_only .presence _) rfl)

theorem warmRestart_store (s : State) : StoreKept s (warmRestart s) :=
  ((wakeBlocks_store true 2 s).trans (startInto_store _ _)).trans (.of_only (offerOwned_only .presence _) rfl)

theorem endListen_store (s : State) : StoreKept s (endListen s) := by
  have listened : ∀ timer kind,
      StoreKept s { s with power := { s.power with startTimer := timer, lastStart := kind } } := fun _ _ => .of_same
  exact ((listened _ _).trans (startInto_store _ _)).trans (.of_only (offerOwned_only .presence _) rfl)

theorem setIgn_store (on : Bool) (s : State) : StoreKept s (setIgn on s) := .of_same

theorem ignitionOn_store (s : State) : StoreKept s (ignitionOn s) := by
  have set := setIgn_store true s
  unfold ignitionOn
  split
  · exact .refl s
  · exact set
  · exact set
  · exact (set.trans (startInto_store true _)).settled
  · exact (set.trans (wakeStart_store true _)).settled

theorem ignitionOff_store (s : State) : StoreKept s (ignitionOff s) := by
  have set := setIgn_store false s
  unfold ignitionOff
  split
  · exact .refl s
  · exact set
  · exact set
  · exact set
  · exact (set.trans (enterWatch_store _)).settled

theorem pulseOnLine_store (s : State) : StoreKept s (pulseOnLine s) := .of_only (only_port s _) rfl

theorem pulseHeard_store (s : State) : StoreKept s (pulseHeard s) := by
  unfold pulseHeard
  split
  · exact .refl s
  · exact ((pulseOnLine_store s).trans (wakeStart_store _ _)).settled
  all_goals exact pulseOnLine_store s

theorem keyWakes_store (key : Key) (s : State) : StoreKept s (keyWakes key s) := by
  have wanted : ∀ (t : State) p k, StoreKept t { t with port := p, keys := k } := fun _ _ _ => .of_same
  exact (wakeStart_store false s).trans (wanted _ _ _)

/-! ### The supply dip -/

/-- The dip holds back a try whose command byte is not acknowledged. -/
theorem dipStopsWriter_trying {n : Nsp} {tries : Nat} {acked : Bool} {retry : Timer}
    (trying : (dipStopsWriter n).writer = .trying tries acked retry) : acked = true := by
  unfold dipStopsWriter at trying
  split at trying
  · cases trying
  case h_2 others =>
    cases acked
    · exact absurd trying (others tries retry)
    · rfl

theorem dipStopsWriter_kept (n : Nsp) :
    (dipStopsWriter n).memory = n.memory ∧ (dipStopsWriter n).queue = n.queue := by
  unfold dipStopsWriter
  split <;> exact ⟨rfl, rfl⟩

theorem beginDip_store (s : State) : StoreKept s (beginDip s) := by
  let silenced : State := silenceForDip { s with power := { s.power with dip := true } }
  have nsp : silenced.nsp = s.nsp := (silenceForDip_only _).nsp (by decide)
  have kept := dipStopsWriter_kept silenced.nsp
  have stopped : StoreKept s { silenced with nsp := dipStopsWriter silenced.nsp } :=
    .of_writer (by rw [kept.1, nsp]) (by rw [kept.2, nsp])
      fun _ => writerHolds_iff.mpr fun _ _ _ _ => dipStopsWriter_trying
  exact stopped.trans (.of_only (applyGates_only _) rfl)

theorem dipInput_store (input : DipInput) (s : State) : StoreKept s (dipInput input s) := by
  have active : StoreKept s { s with power := setDipInput input s.power } := by
    cases input <;> exact .of_same
  exact .ite active (active.trans (beginDip_store _))

theorem dipFreesWriter_kept (s : State) :
    (dipFreesWriter s).nsp.memory = s.nsp.memory ∧ (dipFreesWriter s).nsp.queue = s.nsp.queue := by
  unfold dipFreesWriter
  split
  · exact ⟨rfl, rfl⟩
  · exact ⟨(kickWriter_store s).memory, kickWriter_queue s⟩

theorem endDip_store (s : State) : StoreKept s (endDip s) := by
  let decided : State := withArbiter id { s with power := { s.power with dip := false, settleTimer := none } }
  have only : OnlyIn [.chime, .port] { s with power := { s.power with dip := false, settleTimer := none } } decided :=
    withArbiter_only (fun t => .refl _ t) _
  have nsp : decided.nsp = s.nsp := only.nsp (by decide)
  have kept := dipFreesWriter_kept decided
  have power : (endDip s).power = decided.power := (dipFreesWriter_only decided).power (by decide)
  refine .of_writer (kept.1.trans (by rw [nsp])) (kept.2.trans (by rw [nsp])) fun _ => writerHolds_of_steady ?_
  rw [power, only.power (by decide)]

theorem acceptRelease_store {act : KeyAction → State → State} (acts : ∀ a t, StoreKept t (act a t)) (k : Key)
    (s : State) : StoreKept s (acceptRelease k act s) := by
  unfold acceptRelease
  split
  · exact .ite (StoreKept.trans (.of_only (holdKey_only _ _ s) rfl) (acts _ _)) (.refl s)
  · exact .refl s

end Sys2Proof.Machine
end

section
/-! PROOFS. Store of every command and every step, and the statements about the form of the store (O6) and about the words
of the external memory (O3). -/

namespace Sys2Proof.Machine

theorem reoffer_only (what : Reoffer) (s : State) : OnlyIn [.bus, .port] s (reoffer what s) := by
  unfold reoffer
  split
  · exact .ite (answerBits_only _ _ s) (.refl _ s)
  · exact .ite ((offerOwned_only _ s).mono (by decide)) (.refl _ s)

theorem closeSlot_store (e : TxEntry) (answer : Option Answer) (s : State) : StoreKept s (closeSlot e answer s) :=
  (StoreKept.trans (.of_only (endAttempt_only (answerAct s.now answer) s) rfl)
    (.of_only (markSentWhole_only e.id.kind _) rfl)).trans (.of_only (closeSlot_only e answer s) rfl)

/-- Every command but the completion of a write and the loss of the supply leaves the words of the external memory, and
keeps the bounds of the write queue and the writer's hold in a dip. -/
theorem exec_store (c : Instr) (s : State) (complete : c ≠ .writeComplete) (loss : ∀ cut, c ≠ .standbySupplyLoss cut) :
    ∃ t, exec c s = .next t ∧ StoreKept s t := by
  have dropped : StoreKept s (dropHead s) := .of_only (dropHead_only s) rfl
  cases c
  case standbySupplyUp crank lowv => exact ⟨_, rfl, .ite (.refl s) (coldStart_store crank lowv s)⟩
  case standbySupplyLoss cut => exact absurd rfl (loss cut)
  case settleEnd => exact ⟨_, rfl, .ite .of_same (.refl s)⟩
  case loadComplete => exact ⟨_, rfl, .ite (.ite (completeLoad_store s) (failLoad_store s)) (.refl s)⟩
  case listenEnd => exact ⟨_, rfl, .ite (endListen_store s).settled (.refl s)⟩
  case ignOn => exact ⟨_, rfl, ignitionOn_store s⟩
  case ignOff => exact ⟨_, rfl, ignitionOff_store s⟩
  case sleepTimerExpiry => exact ⟨_, rfl, .ite (StoreKept.settled .of_same) (.refl s)⟩
  case wakePulseHeard => exact ⟨_, rfl, pulseHeard_store s⟩
  case keyWake key => exact ⟨_, rfl, .ite (keyWakes_store key s).settled (.refl s)⟩
  case supplyDipBegin input => exact ⟨_, rfl, .ite (dipInput_store input s).settled (.refl s)⟩
  case dipInputsClear => exact ⟨_, rfl, .ite .of_same (.refl s)⟩
  case supplyDipEnd => exact ⟨_, rfl, .ite (endDip_store s).settled (.refl s)⟩
  case restartRequestRosterRefresh =>
    refine ⟨_, rfl, ?_⟩
    split
    · exact (dropped.trans (.of_only (rosterRefresh_only _) rfl)).settled
    · exact .refl s
  case restartRequestWarmRestart =>
    refine ⟨_, rfl, ?_⟩
    split
    · exact (dropped.trans (warmRestart_store _)).settled
    · exact .refl s
  case reportArrival kind frame => exact ⟨_, rfl, (hearFrame_store (offerReport_store kind frame) _ frame s).settled⟩
  case rollCall frame => exact ⟨_, rfl, hearFrame_store (fun t => .of_only (offerOwned_only .presence t) rfl) _ frame s⟩
  case presence frame => exact ⟨_, rfl, hearFrame_store (fun t => .of_only (heardPresence_only frame t) rfl) _ frame s⟩
  case otherFrameHeard frame => exact ⟨_, rfl, .ite (hearFrame_store .refl _ frame s) (.refl s)⟩
  case ownAddressFrameHeard => exact ⟨_, rfl, .ite (.of_only (noteClash_only s) rfl) (.refl s)⟩
  case frameDiscarded cause =>
    refine ⟨_, rfl, .ite ?_ (.refl s)⟩
    cases cause
    case wakePulse => exact pulseOnLine_store s
    all_goals exact .refl s
  case addressedFrameAnswer kind frame =>
    exact ⟨_, rfl, hearFrame_store (fun t => .of_only (answerHeard_only kind frame t) rfl) _ frame s⟩
  case demand =>
    refine ⟨_, rfl, ?_⟩
    split
    · exact dropped.trans (.of_only (takeDemand_only _ _ _ _) rfl)
    · exact .refl s
  case chimeRequest =>
    refine ⟨_, rfl, ?_⟩
    split
    · exact (dropped.trans (.of_only (peerChime_only _ _ _ _) rfl)).settled
    · exact .refl s
  case notice =>
    refine ⟨_, rfl, ?_⟩
    split
    · exact (dropped.trans (.of_only (postNote_only _ _ _ _ _) rfl)).settled
    · exact .refl s
  case serviceReset =>
    refine ⟨_, rfl, ?_⟩
    split
    · exact .ite (dropped.trans (serviceResetOp_store _ _)).settled dropped
    · exact .refl s
  case journeyClear =>
    refine ⟨_, rfl, ?_⟩
    split
    · exact .ite (dropped.trans (clearJourneys_store _)).settled dropped
    · exact .refl s
  case clockSet =>
    refine ⟨_, rfl, ?_⟩
    split
    · exact (dropped.trans (.of_only (setClock_only _ _) rfl)).settled
    · exact .refl s
  case attemptBegin => exact ⟨_, rfl, .of_only (beginAttempt_only s) rfl⟩
  case lostArbitration =>
    refine ⟨_, rfl, ?_⟩
    split
    · exact .of_only (endAttempt_only some s) rfl
    · exact .refl s
  case readbackFault =>
    refine ⟨_, rfl, ?_⟩
    split
    · exact StoreKept.trans (.of_only (endAttempt_only some s) rfl) (.of_only (countFault_only _) rfl)
    · exact .refl s
  case broadcastSentWhole =>
    refine ⟨_, rfl, ?_⟩
    split
    · exact .ite (StoreKept.trans (.of_only (endAttempt_only _ s) rfl) (.of_only (markSentWhole_only _ _) rfl)) (.refl s)
    · exact .refl s
  case answerSlotClose =>
    refine ⟨_, rfl, ?_⟩
    split
    · exact .ite (.refl s) (closeSlot_store _ _ s)
    · exact .refl s
  case lineFaultPauseExpiry | retryDelayExpiry | holdOffExpiry => exact ⟨_, rfl, .of_only (only_port s _) rfl⟩
  case ownerReoffer what => exact ⟨_, rfl, .ite (.of_only (reoffer_only what s) rfl) (.refl s)⟩
  case wakePulseSend => exact ⟨_, rfl, .ite (.of_only (only_port s _) rfl) (.refl s)⟩
  case wakePulseEnd =>
    refine ⟨_, rfl, ?_⟩
    split
    · exact .refl s
    · exact .refl s
    all_goals exact .of_only (only_port s _) rfl
  case staleTimerExpiry kind => exact ⟨_, rfl, (StoreKept.of_only (expireStale_only kind s) rfl).settled⟩
  case rosterTimerExpiry station => exact ⟨_, rfl, .of_only (modifyRoster_only station expireRoster s) rfl⟩
  case mirrorTimerExpiry =>
    have next : ∀ b, StoreKept s { s with bus := b } := fun b => .of_only (only_bus s b) rfl
    exact ⟨_, rfl, .ite (.ite ((next _).trans (.of_only (offerPeriodicMirror_only _) rfl)) (next _)) (.refl s)⟩
  case dampingStep => exact ⟨_, rfl, .ite (.of_only (dampingPeriod_only s) rfl) (.refl s)⟩
  case coilOffTimerExpiry => exact ⟨_, rfl, .ite (.of_only (only_gauges s _) rfl) (.refl s)⟩
  case correctionTimerExpiry => exact ⟨_, rfl, .ite (StoreKept.of_only (correctionPeriod_only s) rfl).settled (.refl s)⟩
  case standstillTimerExpiry | pumpTimerExpiry => exact ⟨_, rfl, .ite (.of_only (only_fuel s _) rfl) (.refl s)⟩
  case transferStopTimerExpiry =>
    have next : ∀ f, StoreKept s { s with fuel := f } := fun f => .of_only (only_fuel s f) rfl
    exact ⟨_, rfl, .ite (.ite ((next _).trans (.of_only (offerOwned_only _ _) rfl)) (next _)) (.refl s)⟩
  case tripSecondTimerExpiry | instantSamplerExpiry =>
    exact ⟨_, rfl, .ite (StoreKept.of_only (only_trip s _) rfl).settled (.refl s)⟩
  case clockSecond => exact ⟨_, rfl, .ite (clockPeriod_store s).settled (.refl s)⟩
  case modePress => exact ⟨_, rfl, (StoreKept.of_only (acceptPress_only modeAction_only _ _ s) rfl).settled⟩
  case selectPress => exact ⟨_, rfl, (StoreKept.of_only (acceptPress_only selectAction_only _ _ s) rfl).settled⟩
  case resetPress => exact ⟨_, rfl, (StoreKept.of_only (acceptPress_only resetAction_only _ _ s) rfl).settled⟩
  case notePress => exact ⟨_, rfl, (StoreKept.of_only (acceptPress_only noteAction_only _ _ s) rfl).settled⟩
  case journeyPress => exact ⟨_, rfl, (StoreKept.of_only (acceptPress_only journeyAction_only _ _ s) rfl).settled⟩
  case journeyRelease => exact ⟨_, rfl, (acceptRelease_store journeyShort_store _ s).settled⟩
  case keyRelease key => exact ⟨_, rfl, .ite (.refl s) (acceptRelease_store (fun _ t => .refl t) key s)⟩
  case journeyLongPress =>
    refine ⟨_, rfl, ?_⟩
    split
    · exact .ite (StoreKept.trans (.of_only (takeLong_only _ s) rfl) (journeyLong_store _)).settled (.refl s)
    · exact .refl s
  case tripReset =>
    refine ⟨_, rfl, ?_⟩
    split
    · exact .ite (StoreKept.trans (.of_only (takeLong_only _ s) rfl) (.of_only (tripResetOp_only _ _) rfl)).settled
        (.refl s)
    · exact .refl s
  case serviceResetPress =>
    refine ⟨_, rfl, ?_⟩
    split
    · exact .ite (StoreKept.trans (.of_only (takeLong_only _ s) rfl)
        (.ite (serviceResetOp_store _ _) (.refl _))).settled (.refl s)
    · exact .refl s
  case setModeTimeout | blinkTimerExpiry | journeyReadoutAlternate | displayTimerExpiry =>
    exact ⟨_, rfl, .ite (StoreKept.of_only (only_disp s _) rfl).settled (.refl s)⟩
  case displayTransferComplete => exact ⟨_, rfl, .of_only (completeTransfer_only s) rfl⟩
  case minimumShowTimeExpiry =>
    exact ⟨_, rfl, .ite (StoreKept.trans (.of_only (only_msg s _) rfl) (.of_only (select_only _) rfl)).settled (.refl s)⟩
  case maximumShowTimeExpiry => exact ⟨_, rfl, .ite (StoreKept.of_only (showTimeOver_only s) rfl).settled (.refl s)⟩
  case reminderRepostTimerExpiry => exact ⟨_, rfl, .ite (StoreKept.of_only (repost_only s) rfl).settled (.refl s)⟩
  case evaluationTimerExpiry =>
    exact ⟨_, rfl, .ite (StoreKept.of_only (evaluationPeriod_only s) rfl).settled (.refl s)⟩
  case reOfferTimerExpiry entry =>
    exact ⟨_, rfl, .ite (StoreKept.of_only (postOutstanding_only entry s) rfl).settled (.refl s)⟩
  case reChimeTimerExpiry entry => exact ⟨_, rfl, .of_only (modifyWarn_only entry rechimeFalls s) rfl⟩
  case reviewTimerExpiry => exact ⟨_, rfl, .ite (StoreKept.of_only (moveReview_only s) rfl).settled (.refl s)⟩
  case flashTimerExpiry | staleGraceExpiry | engineRunningTimerExpiry =>
    exact ⟨_, rfl, .ite (.of_only (only_warn s _) rfl) (.refl s)⟩
  case lampProvingExpiry =>
    exact ⟨_, rfl, .ite (StoreKept.trans (.of_only (only_warn s _) rfl) (.of_only (setCursor_only _ _) rfl)).settled
      (.refl s)⟩
  case windowTimerExpiry =>
    exact ⟨_, rfl, .ite (StoreKept.trans (.of_only (only_warn s _) rfl) (.of_only (applyGates_only _) rfl)).settled
      (.refl s)⟩
  case elementEnd => exact ⟨_, rfl, .ite (StoreKept.of_only (elementOver_only s) rfl).settled (.refl s)⟩
  case busyPollRetry answer => exact ⟨_, rfl, (answerOperation_store answer s).settled⟩
  case failedWriteWaitExpiry => exact ⟨_, rfl, (endWriteWait_store s).settled⟩
  case writeComplete => exact absurd rfl complete

/-- Every command keeps the form of the external memory, the bounds of the write queue and the writer's hold in a
dip. -/
theorem exec_storeForm (c : Instr) (s : State) : ∃ t, exec c s = .next t ∧ StoreFormKept s t := by
  by_cases complete : c = .writeComplete
  · rw [complete]
    exact ⟨_, rfl, (completeWrite_storeForm s).trans (StoreKept.refl _).settled.form⟩
  · by_cases loss : ∃ cut, c = .standbySupplyLoss cut
    · obtain ⟨cut, rfl⟩ := loss
      refine ⟨_, rfl, ?_⟩
      split
      · exact supplyLost_storeForm cut s
      · exact (StoreKept.refl s).form
    · obtain ⟨t, carried, kept⟩ := exec_store c s complete fun cut eq => loss ⟨cut, eq⟩
      exact ⟨t, carried, kept.form⟩

/-- Every step keeps the form of the external memory, the bounds of the write queue and the writer's hold in a dip. -/
theorem step_storeForm {s t : State} (stepped : step s = .next t) : StoreFormKept s t := by
  unfold step at stepped
  split at stepped
  · cases stepped
    have ticked : StoreKept s (tick s) := .of_same
    exact ticked.form
  · rename_i c rest _
    obtain ⟨u, carried, kept⟩ := exec_storeForm c { s with pending := rest }
    cases carried.symm.trans stepped
    have taken : StoreKept s { s with pending := rest } := .of_same
    exact taken.form.trans kept

end Sys2Proof.Machine

open Sys2Proof Sys2Proof.Machine

/-- Settles O6: a word is stored in the memory's form, a record joins the write queue with room for the addresses that
are not there, and a try begins outside a dip alone, so every command and every step keeps the three. -/
theorem storeKeepsItsForm : Obligations.StoreKeepsItsForm :=
  ⟨fun _ _ wf stepped => (step_storeForm stepped).form wf, fun _ _ within stepped => (step_storeForm stepped).writes within,
    fun _ _ holds stepped => (step_storeForm stepped).writer holds⟩

/-- Settles O3: no other command stores a word. -/
theorem onlyStoreWritesChangeMemory : Obligations.OnlyStoreWritesChangeMemory := fun c s complete loss =>
  have ⟨t, carried, kept⟩ := exec_store c s complete loss
  ⟨t, carried, kept.memory⟩
end

section
/-! PROOFS. Writes: what the memory's answers make of a try, what the storing of the head leaves of the write queue, and the
statement about the writes (11 R165 to R167; O59). -/

namespace Sys2Proof.Machine

/-! ### The memory's answers -/

section
variable {s : State} {n : Nat} {acked : Bool} {retry : Timer}

theorem exec_busyPollRetry_write (written : s.power.mode ≠ .starting .load) (answer : StoreAnswer) :
    exec (.busyPollRetry answer) s = .next (settled (answerWrite answer s)) :=
  congrArg (fun t => Host.Outcome.next (settled t)) (if_neg written)

theorem exec_busyPollRetry_load (loading : s.power.mode = .starting .load) (answer : StoreAnswer) :
    exec (.busyPollRetry answer) s = .next (settled (answerLoad answer s)) :=
  congrArg (fun t => Host.Outcome.next (settled t)) (if_pos loading)

theorem answerWrite_commandAcked (trying : s.nsp.writer = .trying n false retry) (steady : s.power.dip = false) :
    answerWrite .commandAcked s = tryAcked n s := by
  simp [answerWrite, trying, steady]

theorem answerWrite_commandUnacked (trying : s.nsp.writer = .trying n false retry) (steady : s.power.dip = false) :
    answerWrite .commandUnacked s = tryUnacked n s := by
  simp [answerWrite, trying, steady]

theorem answerWrite_dataUnacked (trying : s.nsp.writer = .trying n acked retry)
    (goesOn : acked = true ∨ s.power.dip = false) : answerWrite .dataUnacked s = tryUnacked n (tryAcked n s) := by
  obtain on | on := goesOn <;> simp [answerWrite, trying, on]

/-- Up to the nineteenth try another follows after 1 ms, in a dip at its end. -/
theorem tryUnacked_again (few : n < 19) : tryUnacked n s = { s with nsp := { s.nsp with
    writer := if s.power.dip then .held else .trying (n + 1) false (some (s.now + 1)) } } := by
  have more : ¬20 ≤ n + 1 := by omega
  rw [tryUnacked, if_neg more]
  split <;> rfl

/-- The twentieth try is the last. -/
theorem tryUnacked_fails (last : 19 ≤ n) : tryUnacked n s = { s with
    faults := { s.faults with nv := true }, nsp := { s.nsp with writer := .waiting (s.now + 10000) } } :=
  if_pos (by omega)

theorem answerLoad_again (few : s.nsp.loadTries < 19) : answerLoad .commandUnacked s = { s with
    nsp := { s.nsp with loadTries := s.nsp.loadTries + 1, loadRetry := some (s.now + 1) } } :=
  if_pos (by omega)

theorem answerLoad_fails (last : 19 ≤ s.nsp.loadTries) : answerLoad .commandUnacked s = failLoad s :=
  if_neg (by omega)

theorem endWriteWait_waiting {d : Nat} (waiting : s.nsp.writer = .waiting d) : endWriteWait s = { s with
    nsp := { s.nsp with writer := if s.power.dip then .held else .trying 0 false none } } := by
  simp [endWriteWait, waiting, firstTry]

/-! ### The supply dip -/

theorem beginDip_nsp (s : State) : (beginDip s).nsp = dipStopsWriter s.nsp := by
  let silenced : State := silenceForDip { s with power := { s.power with dip := true } }
  have nsp : silenced.nsp = s.nsp := (silenceForDip_only _).nsp (by decide)
  rw [← nsp]
  exact (applyGates_only { silenced with nsp := dipStopsWriter silenced.nsp }).nsp (by decide)

theorem dipStopsWriter_of_trying {p : Nsp} (trying : p.writer = .trying n acked retry) :
    dipStopsWriter p = { p with writer := if acked then .trying n true retry else .held } := by
  cases p
  cases trying
  cases acked <;> rfl

theorem endDip_nsp_of_held (held : s.nsp.writer = .held) :
    (endDip s).nsp = { s.nsp with writer := .trying 0 false none } := by
  let ended : State := { s with power := { s.power with dip := false, settleTimer := none } }
  let decided : State := withArbiter id ended
  have nsp : decided.nsp = s.nsp := (withArbiter_only (fun t => .refl _ t) ended).nsp (by decide)
  have freed : dipFreesWriter decided = { decided with nsp := { decided.nsp with writer := firstTry } } := by
    simp [dipFreesWriter, nsp, held]
  calc (endDip s).nsp = (dipFreesWriter decided).nsp := rfl
    _ = { s.nsp with writer := .trying 0 false none } := by rw [freed, nsp]; rfl

/-! ### The head stored -/

variable {e : WriteEntry} {rest : List WriteEntry}

theorem completeWrite_eq (trying : s.nsp.writer = .trying n acked retry) (goesOn : acked = true ∨ s.power.dip = false)
    (queue : s.nsp.queue = e :: rest) : completeWrite s = storeHead e rest s := by
  obtain on | on := goesOn <;> simp [completeWrite, trying, queue, on]

theorem headOffered_grown (e : WriteEntry) (rest : List WriteEntry) (s : State) :
    QueueGrown (headStored e rest s).nsp (headOffered e rest s).nsp := by
  unfold headOffered
  split
  · exact reofferAll_grown _
  · exact .refl _

theorem headOffered_only (e : WriteEntry) (rest : List WriteEntry) (s : State) :
    OnlyIn storeBlocks (headStored e rest s) (headOffered e rest s) := .ite (reofferAll_only _) (.refl _ _)

theorem storeHead_faults (e : WriteEntry) (rest : List WriteEntry) (s : State) :
    (storeHead e rest s).faults = { s.faults with nv := false } := by
  rw [storeHead_eq, (kickWriter_only _).faults (by decide), (headOffered_only e rest s).faults (by decide)]
  rfl

theorem storeHead_memory (e : WriteEntry) (rest : List WriteEntry) (s : State) :
    (storeHead e rest s).nsp.memory = writeWord (e.addr % 128) e.data s.nsp.memory := by
  rw [storeHead_eq, (kickWriter_store _).memory, (headOffered_grown e rest s).memory]
  rfl

/-- The head leaves unless newer data wait, and the records offered join at the end. -/
theorem storeHead_addresses (e : WriteEntry) (rest : List WriteEntry) (s : State) :
    ∃ more, queuedAddresses (storeHead e rest s).nsp
      = (if e.replacement.isSome then [e.addr] else []) ++ rest.map (fun x => x.addr) ++ more := by
  have kicked : queuedAddresses (storeHead e rest s).nsp = queuedAddresses (headOffered e rest s).nsp :=
    congrArg (List.map _) (kickWriter_queue _)
  rw [← headStored_addresses e rest s, kicked]
  exact (headOffered_grown e rest s).addresses

theorem kickWriter_dip (dip : s.power.dip = true) : kickWriter s = s := by
  simp [kickWriter, dip]

/-- In a dip no other write starts. -/
theorem storeHead_writer_of_dip (dip : s.power.dip = true) : (storeHead e rest s).nsp.writer = .idle := by
  have power : (headOffered e rest s).power = s.power := (headOffered_only e rest s).power (by decide)
  rw [storeHead_eq, kickWriter_dip (by rw [power, dip]), (headOffered_grown e rest s).writer]
  rfl

end

end Sys2Proof.Machine

open Sys2Proof Sys2Proof.Machine

/-- Settles O59: each answer takes the writer where its equation says, the dip holds and frees it, and the head that is
stored goes before the records offered behind it. -/
theorem writesReachTheMemory : Obligations.WritesReachTheMemory := by
  refine ⟨fun n retry s trying written steady => ⟨?acked, ?unacked⟩, fun n acked retry s trying written goesOn => ?data,
    fun s loading few => ?loadTry, fun s loading => ?loadAcked, fun d s waiting => ?waited,
    fun input n acked retry s on steady trying => ?dips, fun s settling held => ?dipEnds,
    fun n acked retry e rest s trying goesOn queue wf => ?stores⟩
  case acked =>
    refine ⟨_, exec_busyPollRetry_write written _, ?_⟩
    rw [answerWrite_commandAcked trying steady]
    exact settled_from _
  case unacked =>
    refine ⟨_, exec_busyPollRetry_write written _, ?_⟩
    rw [answerWrite_commandUnacked trying steady]
    refine ⟨fun few => ?_, fun last => ?_⟩
    · rw [tryUnacked_again few, steady]
      exact settled_from _
    · rw [tryUnacked_fails last]
      exact settled_from _
  case data =>
    refine ⟨_, exec_busyPollRetry_write written _, ?_⟩
    rw [answerWrite_dataUnacked trying goesOn]
    refine ⟨fun few => ?_, fun last => ?_⟩
    · rw [tryUnacked_again few]
      exact settled_from _
    · rw [tryUnacked_fails last]
      exact settled_from _
  case loadTry =>
    refine ⟨_, exec_busyPollRetry_load loading _, ?_⟩
    rw [answerLoad_again few]
    exact settled_from _
  case loadAcked => exact ⟨_, exec_busyPollRetry_load loading _, settled_from _⟩
  case waited =>
    refine ⟨_, rfl, ?_⟩
    rw [endWriteWait_waiting waiting]
    exact settled_from _
  case dips =>
    let active : State := { s with power := setDipInput input s.power }
    have still : active.power.dip = false := by cases input <;> exact steady
    have begins : dipInput input s = beginDip active := if_neg (by rw [still]; exact Bool.false_ne_true)
    refine ⟨settled (dipInput input s), congrArg Host.Outcome.next (if_pos (decide_eq_true on)), ?_⟩
    rw [settled_nsp, begins, beginDip_nsp]
    exact dipStopsWriter_of_trying trying
  case dipEnds =>
    refine ⟨settled (endDip s), congrArg Host.Outcome.next (if_pos (Option.isSome_iff_ne_none.mpr settling)), ?_⟩
    rw [settled_nsp, endDip_nsp_of_held held]
  case stores =>
    have only : OnlyIn (mayChange .writeComplete) s (settled (completeWrite s)) :=
      ((completeWrite_only s).mono (by decide)).settled (by decide) (by decide)
    refine ⟨_, rfl, ?_⟩
    rw [settled_faults, settled_nsp]
    rw [completeWrite_eq trying goesOn queue] at only ⊢
    obtain ⟨more, joined⟩ := storeHead_addresses e rest s
    refine ⟨storeHead_faults e rest s, fun a => ?_, ⟨more, joined⟩, storeHead_writer_of_dip, only⟩
    rw [storeHead_memory, readWord_writeWord wf]
end

section
/-! PROOFS. Stored records: that the words of an odometer value, of a service record and of a journey record are read back
as what they were made of (11 TABLE 11-1), and the statement about them (O16). -/

namespace Sys2Proof.Machine

/-! ### Words -/

@[simp] theorem wordOf_toNat {n : Nat} (small : n < 65536) : (wordOf n).toNat = n := by
  simpa [wordOf] using small

theorem wordOfInt_toInt {x : Int} (low : -32768 ≤ x) (high : x < 32768) : (wordOfInt x).toInt = x := by
  rw [wordOfInt, BitVec.toInt_ofInt]
  exact Int.bmod_eq_of_le (by omega) (by omega)

/-- Words followed by their check word are good (11 TABLE 11-1). -/
theorem checkGood_checked (ws : List Word) : checkGood (ws ++ [checkWord ws]) = true := by
  simp [checkGood]

/-! ### The odometer -/

/-- The two words of an odometer value hold its high sixteen bits and its low eight with the check byte. -/
theorem odometerWords_value {v : Nat} (range : v ≤ 9999999) :
    ∃ high low, odometerWords v = [high, low] ∧ high.toNat * 256 + low.toNat / 256 = v := by
  refine ⟨_, _, rfl, ?_⟩
  rw [wordOf_toNat (by omega), wordOf_toNat (by omega)]
  omega

theorem slotValue_of_words {m : List (Nat × Word)} {slot v : Nat} (range : v ≤ 9999999)
    (stored : wordsAt m (2 * slot) 2 = odometerWords v) : slotValue m slot = some v := by
  obtain ⟨high, low, words, value⟩ := odometerWords_value range
  have read : [readWord m (2 * slot), readWord m (2 * slot + 1)] = [high, low] := stored.trans words
  simp only [List.cons.injEq, and_true] at read
  obtain ⟨here, next⟩ := read
  simp only [slotValue, here, next, value]
  simp [range, stored]

/-! ### Service records -/

theorem storedItem_itemWords {variant : BitVec 2} {i : Nat} {x : Item} (low : -9999 ≤ x.km) (high : x.km ≤ 30000)
    (timed : x.hours = none ↔ hoursInterval variant i = none) (range : ∀ h ∈ x.hours, -9999 ≤ h ∧ h ≤ 15000) :
    storedItem variant i (itemWords x) = some (x.km, x.hours) := by
  have good : checkGood (itemWords x) = true := checkGood_checked (itemFields x)
  have km : (wordOfInt x.km).toInt = x.km := wordOfInt_toInt (by omega) (by omega)
  have words : itemWords x = [wordOfInt x.km, (match x.hours with | some h => wordOfInt h | none => 0x8000),
    checkWord (itemFields x)] := rfl
  rw [words] at good ⊢
  simp only [storedItem, good, km, Bool.true_and, Bool.and_eq_true, decide_eq_true_eq]
  rw [if_pos ⟨low, high⟩]
  cases hours : x.hours
  case none =>
    rw [timed.mp hours]
    rfl
  case some h =>
    obtain ⟨lowest, highest⟩ := range h hours
    obtain ⟨interval, due⟩ := Option.ne_none_iff_exists'.mp fun none_ => by
      have := timed.mpr none_
      simp [hours] at this
    have back : (wordOfInt h).toInt = h := wordOfInt_toInt (by omega) (by omega)
    simp only [due, back]
    exact if_pos ⟨lowest, highest⟩

/-! ### Journey records -/

/-- A minute of the day is never the word that says the start clock is absent (05 R93). -/
theorem wordOf_minute_ne {m : Nat} (minute : m ≤ 1439) : wordOf m ≠ 0xFFFF := fun absent => by
  have back : (wordOf m).toNat = m := wordOf_toNat (by omega)
  rw [absent] at back
  change 65535 = m at back
  omega

theorem journeyOfWords_journeyWords {j : Journey} (number : j.number < 65536) (minutes : ∀ m ∈ j.startClock, m ≤ 1439)
    (distance : j.distance < 65536) (fuel : j.fuel < 65536) (elapsed : j.elapsed < 65536)
    (waiting : j.waiting < 65536) : journeyOfWords (journeyWords j) = j := by
  obtain ⟨_, start, _, _, _, _⟩ := j
  cases start
  case none =>
    simp only [journeyWords, journeyFields, journeyOfWords, List.cons_append, List.getD_cons_zero,
      List.getD_cons_succ, if_true, wordOf_toNat, number, distance, fuel, elapsed, waiting]
  case some m =>
    have minute : m ≤ 1439 := minutes m rfl
    have small : m < 65536 := by omega
    simp only [journeyWords, journeyFields, journeyOfWords, List.cons_append, List.getD_cons_zero,
      List.getD_cons_succ, wordOf_minute_ne minute, if_false, wordOf_toNat, small, number, distance, fuel, elapsed,
      waiting]

end Sys2Proof.Machine

open Sys2Proof Sys2Proof.Machine

/-- Settles O16: every field lies within what its word can hold, and the check word is the one of the words before it. -/
theorem storedRecordsLoadAsTheyWere : Obligations.StoredRecordsLoadAsTheyWere :=
  ⟨fun _ _ _ range stored => slotValue_of_words range stored,
    fun _ _ _ low high timed range => storedItem_itemWords low high timed range,
    fun j number minutes distance fuel elapsed waiting => ⟨checkGood_checked (journeyFields j),
      journeyOfWords_journeyWords number minutes distance fuel elapsed waiting⟩⟩
end

section
/-! PROOFS. Load: what each stage of the load takes from the words read, odometer, service records, ring and open journey,
and what the offers at its end leave of that (11 R169, R170, 06 R102, 05 R92 to R94). -/

namespace Sys2Proof.Machine

/-! ### The stages -/

section
variable (m : Option (List (Nat × Word))) (s : State)

/-- The odometer and the service records have been taken. -/
def itemsLoaded : State := itemNumbers.foldl (loadItem m) (loadOdometer m s)

/-- Every record has been taken, and LISTEN begins. -/
def recordsLoaded : State :=
  let loaded := loadJourney m (itemsLoaded m s)
  { loaded with power := { loaded.power with mode := .starting .listen, startTimer := some (s.now + 250) } }

theorem finishLoad_eq :
    finishLoad m s = itemNumbers.foldl (fun t i => offerRecord (.item i) t) (recordsLoaded m s) := rfl

theorem loadItem_only_items (i : Nat) : OnlyIn [.faults, .service] s (loadItem m s i) := by
  unfold loadItem
  split
  · exact (modifyItem_only i _ s).mono (by decide)
  · exact ((only_faults s _).mono (by decide)).trans ((modifyItem_only i _ _).mono (by decide))

theorem itemsLoaded_only : OnlyIn [.faults, .service] (loadOdometer m s) (itemsLoaded m s) :=
  .foldl (loadItem_only_items m) itemNumbers _

/-- The offers at the end of the load change the service items and the store port alone. -/
theorem finishLoad_offers : OnlyIn [.service, .nsp] (recordsLoaded m s) (finishLoad m s) :=
  .foldl (fun t i => offerRecord_item_only i t) itemNumbers _

theorem loadOdometer_power : (loadOdometer m s).power = s.power := (loadOdometer_only m s).power (by decide)

theorem finishLoad_power : (finishLoad m s).power
    = { s.power with mode := .starting .listen, startTimer := some (s.now + 250) } := by
  rw [(finishLoad_offers m s).power (by decide)]
  change { (itemsLoaded m s).power with mode := PowerMode.starting .listen, startTimer := some (s.now + 250) } = _
  rw [(itemsLoaded_only m s).power (by decide), loadOdometer_power]

theorem finishLoad_trip : (finishLoad m s).trip = (loadOdometer m s).trip := by
  rw [(finishLoad_offers m s).trip (by decide)]
  exact (itemsLoaded_only m s).trip (by decide)

theorem offerRecord_item_lastSlot (i : Nat) : (offerRecord (.item i) s).nsp.lastSlot = s.nsp.lastSlot := by
  have word : ∀ n aw, (queueWord n aw).lastSlot = n.lastSlot := fun n aw => by
    unfold queueWord
    split <;> rfl
  have words : ∀ (ws : List (Nat × Word)) (n : Nsp), (ws.foldl queueWord n).lastSlot = n.lastSlot := fun ws => by
    induction ws with
    | nil => exact fun _ => rfl
    | cons aw rest ih => exact fun n => (ih _).trans (word n aw)
  have kicked : ∀ t, (kickWriter t).nsp.lastSlot = t.nsp.lastSlot := fun t => by
    unfold kickWriter
    split <;> rfl
  rw [offerRecord, kicked]
  rcases takeRecord_cases s (.item i) with ⟨_, _, _, _, taken⟩ | left
  · rw [taken, markTaken, (modifyItem_only i _ _).nsp (by decide)]
    exact words _ _
  · rw [left]

theorem finishLoad_lastSlot : (finishLoad m s).nsp.lastSlot = (loadOdometer m s).nsp.lastSlot := by
  have offers := foldl_keeps (p := fun t => t.nsp.lastSlot) (fun t i => offerRecord_item_lastSlot t i) itemNumbers
    (recordsLoaded m s)
  have loaded : (recordsLoaded m s).nsp = (loadOdometer m s).nsp := (itemsLoaded_only m s).nsp (by decide)
  rw [finishLoad_eq, offers, loaded]

theorem finishLoad_journey_taken : (finishLoad m s).journey = { s.journey with
    openJourney := (loadOpen m (loadHeader m).1).1, residue := 0, ring := (loadRing m (loadHeader m).1).1,
    lastNumber := (loadHeader m).1, headerDirty := false, openDirty := false } := by
  have odometer : (loadOdometer m s).journey = s.journey := by
    unfold loadOdometer
    split <;> rfl
  have items : (itemsLoaded m s).journey = s.journey :=
    ((itemsLoaded_only m s).journey (by decide)).trans odometer
  rw [(finishLoad_offers m s).journey (by decide), ← items]
  rfl

end

/-! ### The flags -/

/-- The flag NV stays, and the flag store stays set. -/
structure FlagsGrow (s t : State) : Prop where
  nv : t.faults.nv = s.faults.nv
  store : s.faults.store = true → t.faults.store = true

theorem FlagsGrow.refl (s : State) : FlagsGrow s s := ⟨rfl, id⟩

theorem FlagsGrow.trans {s t u : State} (h : FlagsGrow s t) (k : FlagsGrow t u) : FlagsGrow s u :=
  ⟨k.nv.trans h.nv, k.store ∘ h.store⟩

theorem FlagsGrow.foldl {α : Type} {f : State → α → State} (h : ∀ t a, FlagsGrow t (f t a)) :
    ∀ (l : List α) (s : State), FlagsGrow s (l.foldl f s)
  | [], s => .refl s
  | a :: rest, s => (h s a).trans (FlagsGrow.foldl h rest (f s a))

section
variable {m : Option (List (Nat × Word))} {s : State} {i : Nat}

theorem FlagsGrow.of_faults {t : State} (same : t.faults = s.faults) : FlagsGrow s t := by
  constructor <;> rw [same]
  exact id

theorem FlagsGrow.flagged {f : Faults} (nv : f.nv = s.faults.nv) (store : f.store = true) :
    FlagsGrow s { s with faults := f } := ⟨nv, fun _ => store⟩

theorem loadItem_flags (m : Option (List (Nat × Word))) (s : State) (i : Nat) : FlagsGrow s (loadItem m s i) := by
  have put : ∀ f t, FlagsGrow t (modifyItem i f t) := fun f t =>
    .of_faults ((modifyItem_only i f t).faults (by decide))
  unfold loadItem
  split
  · exact put _ s
  · exact (FlagsGrow.flagged (f := { s.faults with store := true }) rfl rfl).trans (put _ _)

theorem loadOdometer_flags (m : Option (List (Nat × Word))) (s : State) : FlagsGrow s (loadOdometer m s) := by
  unfold loadOdometer
  split
  · exact .of_faults rfl
  · exact ⟨rfl, fun _ => rfl⟩

/-- What has set the flag store before the journeys are taken leaves it set. -/
theorem finishLoad_flags (m : Option (List (Nat × Word))) (s : State) : FlagsGrow (itemsLoaded m s) (finishLoad m s) :=
  have taken : FlagsGrow (itemsLoaded m s) (recordsLoaded m s) := ⟨rfl, fun set => by
    change (_ || _ || _ || _) = true
    simp [set]⟩
  taken.trans (.of_faults ((finishLoad_offers m s).faults (by decide)))

theorem itemsLoaded_flags (m : Option (List (Nat × Word))) (s : State) :
    FlagsGrow (loadOdometer m s) (itemsLoaded m s) := .foldl (loadItem_flags m) itemNumbers _

theorem finishLoad_nv (m : Option (List (Nat × Word))) (s : State) : (finishLoad m s).faults.nv = s.faults.nv :=
  (((loadOdometer_flags m s).trans (itemsLoaded_flags m s)).trans (finishLoad_flags m s)).nv

/-- A damaged journey record sets the flag store (05 R92 to R94). -/
theorem finishLoad_store_of_journeys (damaged : (loadHeader m).2 = true ∨ (loadRing m (loadHeader m).1).2 = true
    ∨ (loadOpen m (loadHeader m).1).2 = true) : (finishLoad m s).faults.store = true := by
  rw [(finishLoad_offers m s).faults (by decide)]
  change ((itemsLoaded m s).faults.store || (loadHeader m).2 || (loadRing m (loadHeader m).1).2
    || (loadOpen m (loadHeader m).1).2) = true
  obtain set | set | set := damaged <;> simp [set]

/-! ### The odometer -/

/-- The slot found holds the largest good value, and none is found where no slot is good (11 R169). -/
theorem bestSlot_spec (m : List (Nat × Word)) : ∀ slots : List Nat,
    (∀ best ∈ bestSlot m slots, best.1 ∈ slots ∧ slotValue m best.1 = some best.2
      ∧ ∀ slot ∈ slots, ∀ v ∈ slotValue m slot, v ≤ best.2)
    ∧ (bestSlot m slots = none → ∀ slot ∈ slots, slotValue m slot = none)
  | [] => by simp [bestSlot]
  | slot :: rest => by
    obtain ⟨found, missing⟩ := bestSlot_spec m rest
    unfold bestSlot
    split
    case h_1 v other w value later =>
      obtain ⟨listed, good, largest⟩ := found _ later
      split
      case isTrue most =>
        refine ⟨fun best eq => ?_, fun none_ => by cases none_⟩
        cases eq
        refine ⟨List.mem_cons_self, value, List.forall_mem_cons.mpr ⟨fun x hx => ?_, fun o ho x hx => ?_⟩⟩
        · exact (Option.some.inj (hx.symm.trans value)).le
        · exact (largest o ho x hx).trans most
      case isFalse less =>
        refine ⟨fun best eq => ?_, fun none_ => by cases none_⟩
        cases eq
        refine ⟨List.mem_cons_of_mem _ listed, good, List.forall_mem_cons.mpr ⟨fun x hx => ?_, largest⟩⟩
        have := Option.some.inj (hx.symm.trans value)
        omega
    case h_2 v value later =>
      refine ⟨fun best eq => ?_, fun none_ => by cases none_⟩
      cases eq
      refine ⟨List.mem_cons_self, value, List.forall_mem_cons.mpr ⟨fun x hx => ?_, fun o ho x hx => ?_⟩⟩
      · exact (Option.some.inj (hx.symm.trans value)).le
      · cases (missing later o ho).symm.trans hx
    case h_3 none_ =>
      refine ⟨fun best eq => ?_, fun later => List.forall_mem_cons.mpr ⟨none_, missing later⟩⟩
      obtain ⟨listed, good, largest⟩ := found best eq
      refine ⟨List.mem_cons_of_mem _ listed, good, List.forall_mem_cons.mpr ⟨fun x hx => ?_, largest⟩⟩
      cases none_.symm.trans hx

/-- The slot that the words read give the odometer, with its value. -/
def foundSlot (m : Option (List (Nat × Word))) : Option (Nat × Nat) :=
  m.bind fun m => bestSlot m [0, 1, 2, 3, 4, 5, 6, 7]

theorem loadOdometer_found {slot v : Nat} (found : foundSlot m = some (slot, v)) : loadOdometer m s = { s with
    trip := { s.trip with odometer := v, odoDirty := false }, nsp := { s.nsp with lastSlot := slot } } := by
  unfold foundSlot at found
  unfold loadOdometer
  rw [found]

theorem loadOdometer_missing (missing : foundSlot m = none) : loadOdometer m s = { s with
    trip := { s.trip with odometer := 0, odoDirty := false }, nsp := { s.nsp with lastSlot := 7 },
    faults := { s.faults with store := true } } := by
  unfold foundSlot at missing
  unfold loadOdometer
  rw [missing]

/-- The odometer is the largest good value, or 0 with the flag store where no slot is good (11 R169, R170). -/
theorem loadOdometer_largest (words : List (Nat × Word)) (s : State) :
    (∀ slot < 8, ∀ v ∈ slotValue words slot, v ≤ (loadOdometer (some words) s).trip.odometer)
    ∧ ((∃ slot < 8, slotValue words slot = some (loadOdometer (some words) s).trip.odometer)
      ∨ ((loadOdometer (some words) s).trip.odometer = 0 ∧ (loadOdometer (some words) s).faults.store = true
        ∧ ∀ slot < 8, slotValue words slot = none)) := by
  obtain ⟨found, missing⟩ := bestSlot_spec words [0, 1, 2, 3, 4, 5, 6, 7]
  have listed : ∀ slot, slot ∈ [0, 1, 2, 3, 4, 5, 6, 7] ↔ slot < 8 := fun slot => List.mem_range (n := 8)
  cases best : foundSlot (some words)
  case none =>
    have none_ := missing best
    rw [loadOdometer_missing best]
    refine ⟨fun slot few v value => ?_, .inr ⟨rfl, rfl, fun slot few => none_ slot ((listed slot).mpr few)⟩⟩
    cases (none_ slot ((listed slot).mpr few)).symm.trans value
  case some best_ =>
    obtain ⟨here, value, largest⟩ := found best_ best
    rw [loadOdometer_found best]
    exact ⟨fun slot few => largest slot ((listed slot).mpr few), .inl ⟨best_.1, (listed _).mp here, value⟩⟩

/-- The flag store set by the odometer stays set to the end of the load. -/
theorem finishLoad_store_of_odometer (set : (loadOdometer m s).faults.store = true) :
    (finishLoad m s).faults.store = true := (finishLoad_flags m s).store ((itemsLoaded_flags m s).store set)

/-! ### The service records -/

/-- What the words read make of item `i`. -/
def storedRecord (m : Option (List (Nat × Word))) (variant : BitVec 2) (i : Nat) : Option (Int × Option Int) :=
  m.bind fun m => storedItem variant i (wordsAt m (16 + 3 * (i - 1)) 3)

/-- Item `i` as stored (06 R102). -/
def takenItem (variant : BitVec 2) (i : Nat) (km : Int) (hours : Option Int) : Item :=
  { km := km, hours := hours, state := judgeItem variant i km hours, moved := false, dirty := false }

/-- Item `i` where its record fails (06 R102). -/
def lostItem (variant : BitVec 2) (i : Nat) : Item :=
  { takenItem variant i 0 ((hoursInterval variant i).map fun _ => 0) with dirty := true }

theorem lostItem_due (variant : BitVec 2) (i : Nat) : (lostItem variant i).state = .due := by
  have level : ∀ soon : Nat, ladder soon (-1000) 0 = .due := fun _ => rfl
  have hourLevel : ∀ soon : Nat, ladder soon (-300) 0 = .due := fun _ => rfl
  change judgeItem variant i 0 _ = .due
  unfold judgeItem
  cases hoursInterval variant i <;> simp only [Option.map_none, Option.map_some, level, hourLevel, worseState]

theorem loadItem_stored {km : Int} {hours : Option Int} (stored : storedRecord m s.straps.variant i = some (km, hours)) :
    loadItem m s i = modifyItem i (fun _ => takenItem s.straps.variant i km hours) s := by
  unfold storedRecord at stored
  unfold loadItem
  rw [stored]
  rfl

theorem loadItem_lost (lost : storedRecord m s.straps.variant i = none) :
    loadItem m s i = modifyItem i (fun _ => lostItem s.straps.variant i)
      { s with faults := { s.faults with store := true } } := by
  unfold storedRecord at lost
  unfold loadItem
  rw [lost]
  rfl

theorem loadItem_kept {j : Nat} (other : j ≠ i) (m : Option (List (Nat × Word))) (s : State) :
    ItemKept i s (loadItem m s j) := by
  have flagged : ∀ f, ItemKept i s { s with faults := f } := fun _ => .of_items rfl rfl rfl
  unfold loadItem
  split
  · exact modifyItem_kept other _ s
  · exact (flagged _).trans (modifyItem_kept other _ _)

theorem loadOdometer_kept (i : Nat) (m : Option (List (Nat × Word))) (s : State) :
    ItemKept i s (loadOdometer m s) := by
  unfold loadOdometer
  split <;> exact ⟨⟨rfl, id, List.Subset.refl _⟩, rfl⟩

/-- The pass over the items comes to each of them with the straps of the load and its bank whole. -/
theorem itemsLoaded_reaches (listed : i ∈ itemNumbers) (whole : s.service.items.length = 8) :
    ∃ u, u.straps = s.straps ∧ u.service.items.length = 8 ∧ ItemKept i (loadItem m u i) (itemsLoaded m s) := by
  obtain ⟨u, before, after⟩ := foldl_reaches (fun t j other => loadItem_kept other m t) (by decide) listed
    (loadOdometer m s)
  have kept := (loadOdometer_kept i m s).trans before
  exact ⟨u, kept.straps, kept.whole whole, after⟩

theorem itemsLoaded_whole (whole : s.service.items.length = 8) : (itemsLoaded m s).service.items.length = 8 :=
  (BanksKept.foldl (loadItem_banks m) itemNumbers _).items ((loadOdometer_kept 0 m s).whole whole)

theorem itemsLoaded_stored (listed : i ∈ itemNumbers) (whole : s.service.items.length = 8) {km : Int}
    {hours : Option Int} (stored : storedRecord m s.straps.variant i = some (km, hours)) :
    itemOf (itemsLoaded m s) i = takenItem s.straps.variant i km hours := by
  obtain ⟨u, straps, bank, after⟩ := itemsLoaded_reaches (m := m) listed whole
  rw [← straps] at stored ⊢
  rw [after.item, loadItem_stored stored]
  exact itemOf_modifyItem_same bank (isItem_of_mem listed)

theorem itemsLoaded_lost (listed : i ∈ itemNumbers) (whole : s.service.items.length = 8)
    (lost : storedRecord m s.straps.variant i = none) :
    itemOf (itemsLoaded m s) i = lostItem s.straps.variant i := by
  obtain ⟨u, straps, bank, after⟩ := itemsLoaded_reaches (m := m) listed whole
  rw [← straps] at lost ⊢
  rw [after.item, loadItem_lost lost]
  exact itemOf_modifyItem_same bank (isItem_of_mem listed)

/-- A failing record sets the flag store (06 R102). -/
theorem finishLoad_store_of_item (listed : i ∈ itemNumbers) (lost : storedRecord m s.straps.variant i = none) :
    (finishLoad m s).faults.store = true := by
  refine (finishLoad_flags m s).store ?_
  obtain ⟨before, after, numbers⟩ := List.append_of_mem listed
  let reached : State := before.foldl (loadItem m) (loadOdometer m s)
  have straps : reached.straps = s.straps :=
    ((OnlyIn.foldl (loadItem_only_items m) before _).straps (by decide)).trans (loadOdometer_kept i m s).straps
  have passed : itemsLoaded m s = after.foldl (loadItem m) (loadItem m reached i) := by
    rw [itemsLoaded, numbers, List.foldl_append, List.foldl_cons]
  rw [passed]
  refine (FlagsGrow.foldl (loadItem_flags m) after _).store ?_
  rw [loadItem_lost (by rw [straps, lost]), (modifyItem_only i _ _).faults (by decide)]

/-- A clean record is not taken. -/
theorem offerRecord_item_clean (clean : (itemOf s i).dirty = false) : ItemKept i s (offerRecord (.item i) s) := by
  refine ⟨offerRecord_grows _ s, ?_⟩
  rw [offerRecord, itemOf_congr (congrArg Service.items ((kickWriter_only _).service (by decide)))]
  rcases takeRecord_cases s (.item i) with ⟨_, dirty, _⟩ | left
  · cases clean.symm.trans dirty
  · rw [left]

/-- The offers come to each item with its record as the load took it. -/
theorem finishLoad_reaches (listed : i ∈ itemNumbers) (whole : s.service.items.length = 8) :
    ∃ u, u.service.items.length = 8 ∧ itemOf u i = itemOf (itemsLoaded m s) i
      ∧ ItemKept i (offerRecord (.item i) u) (finishLoad m s) := by
  obtain ⟨u, before, after⟩ := foldl_reaches (f := fun t i => offerRecord (.item i) t)
    (fun t _ other => offerRecord_kept other t) (by decide) listed (recordsLoaded m s)
  have bank : (recordsLoaded m s).service.items.length = 8 := itemsLoaded_whole (m := m) whole
  exact ⟨u, before.whole bank, before.item, after⟩

theorem finishLoad_item_stored (listed : i ∈ itemNumbers) (whole : s.service.items.length = 8) {km : Int}
    {hours : Option Int} (stored : storedRecord m s.straps.variant i = some (km, hours)) :
    itemOf (finishLoad m s) i = takenItem s.straps.variant i km hours := by
  obtain ⟨u, _, here, after⟩ := finishLoad_reaches (m := m) listed whole
  rw [itemsLoaded_stored listed whole stored] at here
  rw [after.item, (offerRecord_item_clean (by rw [here]; rfl)).item, here]

theorem finishLoad_item_lost (listed : i ∈ itemNumbers) (whole : s.service.items.length = 8)
    (lost : storedRecord m s.straps.variant i = none) :
    ∃ d, itemOf (finishLoad m s) i = { lostItem s.straps.variant i with dirty := d }
      ∧ itemWaits i (finishLoad m s) := by
  obtain ⟨u, bank, here, after⟩ := finishLoad_reaches (m := m) listed whole
  rw [itemsLoaded_lost listed whole lost] at here
  obtain ⟨d, offered, waits⟩ := offerRecord_item bank (isItem_of_mem listed)
  refine ⟨d, by rw [after.item, offered, here], itemWaits_kept after (waits ?_)⟩
  rw [here]
  rfl

end

end Sys2Proof.Machine
end

section
/-! PROOFS. The load's journeys, and the statements about the completed load (O19) and about the failed one (O20): what the
walk over the ring reads at each index (05 R93) and what the open slot gives (05 R94). -/

namespace Sys2Proof.Machine

/-! ### The ring -/

theorem allErased_iff {ws : List Word} : allErased ws = true ↔ ∀ w ∈ ws, w = 0xFFFF := by
  rw [allErased, List.all_eq_true]
  exact forall₂_congr fun _ _ => decide_eq_true_iff

theorem allErased_eq_false_iff {ws : List Word} : allErased ws = false ↔ ∃ w ∈ ws, w ≠ 0xFFFF := by
  rw [← Bool.not_eq_true, allErased_iff]
  simp only [not_forall, exists_prop, ne_eq]

/-- The words of the position that holds the number expected at an index of the walk (05 R88, R93). -/
def ringWords (m : List (Nat × Word)) (last i : Nat) : List Word :=
  wordsAt m (42 + 7 * ringPositionOf (expectedNumber last i)) 7

/-- What the walk enters for an index that it passes, with the mark of damage (05 R93). -/
def ringEntered (m : List (Nat × Word)) (last i : Nat) (entered : Option RingRecord) (damage : Bool) : Prop :=
  (∃ w ∈ ringWords m last i, w ≠ 0xFFFF)
    ∧ (checkGood (ringWords m last i) = true →
        (journeyOfWords (ringWords m last i)).number = expectedNumber last i
          ∧ entered = some (.good (journeyOfWords (ringWords m last i))))
    ∧ (checkGood (ringWords m last i) = false →
        entered = some (.damaged (expectedNumber last i)) ∧ damage = true)

/-- Where the walk ends before its last position: the words are erased, or a good record of another number. -/
def ringEnds (m : List (Nat × Word)) (last i : Nat) : Prop :=
  (∀ w ∈ ringWords m last i, w = 0xFFFF)
    ∨ (checkGood (ringWords m last i) = true
        ∧ (journeyOfWords (ringWords m last i)).number ≠ expectedNumber last i)

section
variable {m : List (Nat × Word)} {last : Nat}

theorem ringWalk_ends {i : Nat} (n : Nat) (ends : ringEnds m last i) : ringWalk m last i (n + 1) = ([], false) := by
  obtain erased | ⟨good, other⟩ := ends
  · exact if_pos (allErased_iff.mpr erased)
  · refine (ite_eq_left_iff.mpr fun _ => ?_)
    exact (if_pos good).trans (if_neg other)

/-- Where the walk does not end it enters one record and goes on. -/
theorem ringWalk_enters {i : Nat} (n : Nat) (goesOn : ¬ringEnds m last i) : ∃ r damage,
    ringWalk m last i (n + 1) = (r :: (ringWalk m last (i + 1) n).1, damage)
      ∧ ringEntered m last i (some r) damage ∧ ((ringWalk m last (i + 1) n).2 = true → damage = true) := by
  obtain ⟨written, same⟩ := not_or.mp goesOn
  have unerased : ¬allErased (ringWords m last i) = true := fun erased => written (allErased_iff.mp erased)
  have some_ := allErased_eq_false_iff.mp (Bool.eq_false_iff.mpr unerased)
  cases good : checkGood (ringWords m last i)
  case true =>
    have number : (journeyOfWords (ringWords m last i)).number = expectedNumber last i := by
      by_contra other
      exact same ⟨good, other⟩
    refine ⟨.good (journeyOfWords (ringWords m last i)), (ringWalk m last (i + 1) n).2, ?_,
      ⟨some_, fun _ => ⟨number, rfl⟩, fun bad => ?_⟩, id⟩
    · exact (if_neg unerased).trans ((if_pos good).trans (if_pos number))
    · cases good.symm.trans bad
  case false =>
    refine ⟨.damaged (expectedNumber last i), true, ?_, ⟨some_, fun fine => ?_, fun _ => ⟨rfl, rfl⟩⟩, fun _ => rfl⟩
    · exact (if_neg unerased).trans (if_neg (Bool.eq_false_iff.mp good))
    · cases good.symm.trans fine

/-- The walk enters a record at each index that it passes, and ends early only where `ringEnds` says (05 R93). -/
theorem ringWalk_spec : ∀ n i : Nat,
    (∀ k < (ringWalk m last i n).1.length,
      ringEntered m last (i + k) (ringWalk m last i n).1[k]? (ringWalk m last i n).2)
    ∧ ((ringWalk m last i n).1.length < n → ringEnds m last (i + (ringWalk m last i n).1.length))
  | 0, i => ⟨fun _ none_ => absurd none_ (Nat.not_lt_zero _), fun none_ => absurd none_ (Nat.not_lt_zero _)⟩
  | n + 1, i => by
    by_cases ends : ringEnds m last i
    case pos =>
      rw [ringWalk_ends n ends]
      exact ⟨fun _ none_ => absurd none_ (Nat.not_lt_zero _), fun _ => ends⟩
    case neg =>
      obtain ⟨r, damage, walk, entered, later⟩ := ringWalk_enters n ends
      obtain ⟨each, early⟩ := ringWalk_spec n (i + 1)
      rw [walk]
      refine ⟨fun k here => ?_, fun short => ?_⟩
      · cases k
        case zero => exact entered
        case succ k =>
          obtain ⟨written, good, bad⟩ := each k (Nat.lt_of_succ_lt_succ here)
          rw [Nat.add_right_comm i 1 k] at written good bad
          exact ⟨written, good, fun fails => ⟨(bad fails).1, later (bad fails).2⟩⟩
      · have ended := early (Nat.lt_of_succ_lt_succ short)
        rwa [Nat.add_right_comm] at ended

/-- The ring loaded for a last number (05 R93). -/
theorem loadRing_spec (m : List (Nat × Word)) (last : Nat) :
    (last = 0 → (loadRing (some m) last).1 = [])
    ∧ (∀ i < (loadRing (some m) last).1.length,
        ringEntered m last i (loadRing (some m) last).1[i]? (loadRing (some m) last).2)
    ∧ (last ≠ 0 → (loadRing (some m) last).1.length < 10 → ringEnds m last (loadRing (some m) last).1.length) := by
  by_cases none_ : last = 0
  · have ring : loadRing (some m) last = ([], false) := if_pos none_
    rw [ring]
    exact ⟨fun _ => rfl, fun i here => absurd here (Nat.not_lt_zero i), fun some_ => absurd none_ some_⟩
  · have ring : loadRing (some m) last = ringWalk m last 0 10 := if_neg none_
    obtain ⟨each, early⟩ := ringWalk_spec (m := m) (last := last) 10 0
    simp only [Nat.zero_add] at each early
    rw [ring]
    exact ⟨fun zero => absurd zero none_, each, fun _ => early⟩

end

/-! ### The open slot -/

theorem length_wordsAt (m : List (Nat × Word)) : ∀ n base : Nat, (wordsAt m base n).length = n
  | 0, _ => rfl
  | n + 1, base => congrArg (· + 1) (length_wordsAt m n (base + 1))

/-- Seven erased words fail their check. -/
theorem checkGood_of_allErased {m : List (Nat × Word)} {base : Nat} (erased : allErased (wordsAt m base 7) = true) :
    checkGood (wordsAt m base 7) = false := by
  rw [List.eq_replicate_of_mem (allErased_iff.mp erased), length_wordsAt]
  decide

/-- The open journey is the one of the slot where its check is good and its number neither 0 nor the last; a slot that
fails its check with a word written is damaged (05 R94). -/
theorem loadOpen_spec (m : List (Nat × Word)) (last : Nat) :
    let slot := wordsAt m 112 7
    (loadOpen (some m) last).1 = (if checkGood slot = true ∧ (journeyOfWords slot).number ≠ 0
        ∧ (journeyOfWords slot).number ≠ last then some (journeyOfWords slot) else none)
    ∧ (checkGood slot = false → (∃ w ∈ slot, w ≠ 0xFFFF) → (loadOpen (some m) last).2 = true) := by
  intro slot
  cases erased : allErased slot
  case true =>
    have bad : checkGood slot = false := checkGood_of_allErased erased
    have read : loadOpen (some m) last = (none, false) := if_pos erased
    rw [read, bad]
    refine ⟨rfl, fun _ written => ?_⟩
    cases erased.symm.trans (allErased_eq_false_iff.mpr written)
  case false =>
    have written : ¬allErased slot = true := Bool.eq_false_iff.mp erased
    cases good : checkGood slot
    case false =>
      have read : loadOpen (some m) last = (none, true) :=
        (if_neg written).trans (if_neg (Bool.eq_false_iff.mp good))
      rw [read]
      exact ⟨rfl, fun _ _ => rfl⟩
    case true =>
      have read : loadOpen (some m) last = if (journeyOfWords slot).number ≠ 0 && (journeyOfWords slot).number ≠ last
          then (some (journeyOfWords slot), false) else (none, false) := (if_neg written).trans (if_pos good)
      refine ⟨?_, fun bad => by cases bad⟩
      rw [read]
      simp only [Bool.and_eq_true, decide_eq_true_eq, true_and]
      split <;> rfl

/-! ### The failed load -/

/-- The journeys of a load without words (05 R92). -/
theorem failLoad_journey (s : State) : (failLoad s).journey.openJourney = none ∧ (failLoad s).journey.ring = []
    ∧ (failLoad s).journey.lastNumber = 0 := by
  rw [failLoad, finishLoad_journey_taken]
  exact ⟨rfl, rfl, rfl⟩

/-- Every item is DUE with 0 km, and its record waits to be written (06 R101, R102). -/
theorem failLoad_item {s : State} {i : Nat} (whole : s.service.items.length = 8) (listed : i ∈ itemNumbers) :
    (itemOf (failLoad s) i).km = 0 ∧ (itemOf (failLoad s) i).state = .due ∧ itemWaits i (failLoad s) := by
  let failed : State := { s with
    faults := { s.faults with nv := true }, nsp := { s.nsp with loadTries := 0, loadRetry := none } }
  obtain ⟨d, item, waits⟩ := finishLoad_item_lost (m := none) (s := failed) listed whole rfl
  have lost : itemOf (failLoad s) i = { lostItem s.straps.variant i with dirty := d } := item
  rw [lost]
  exact ⟨rfl, lostItem_due _ _, waits⟩

theorem failLoad_odometer (s : State) : (failLoad s).trip.odometer = 0 ∧ (failLoad s).nsp.lastSlot = 7 := by
  rw [failLoad, finishLoad_trip, finishLoad_lastSlot, loadOdometer_missing rfl]
  exact ⟨rfl, rfl⟩

theorem failLoad_faults (s : State) : (failLoad s).faults.nv = true ∧ (failLoad s).faults.store = true :=
  ⟨finishLoad_nv none _, finishLoad_store_of_journeys (.inl rfl)⟩

theorem settled_startTimer (s : State) : (settled s).power.startTimer = s.power.startTimer :=
  congrArg (fun t => t.power.startTimer) (settled_from s).rest

/-- The two commands that fail a load end in the failed load, settled or not. -/
theorem exec_failed_load {s : State} {c : Instr} (loading : s.power.mode = .starting .load)
    (fails : c = .loadComplete false ∨ c = .busyPollRetry .commandUnacked ∧ 19 ≤ s.nsp.loadTries) :
    ∃ t, exec c s = .next t ∧ (t = failLoad s ∨ t = settled (failLoad s)) := by
  obtain rfl | ⟨rfl, last⟩ := fails
  · exact ⟨failLoad s, congrArg Host.Outcome.next (if_pos loading), .inl rfl⟩
  · refine ⟨settled (failLoad s), ?_, .inr rfl⟩
    rw [exec_busyPollRetry_load loading, answerLoad_fails last]

end Sys2Proof.Machine

open Sys2Proof Sys2Proof.Machine

/-- Settles O20: both commands fail the load, which takes every record as failing and offers the items' again. -/
theorem failedLoadLosesEveryRecord : Obligations.FailedLoadLosesEveryRecord := by
  intro s c loading whole fails
  obtain ⟨t, carried, ended⟩ := exec_failed_load loading fails
  have only : OnlyIn (mayChange (.busyPollRetry .commandUnacked)) s (failLoad s) := (failLoad_only s).mono (by decide)
  have power := finishLoad_power none { s with
    faults := { s.faults with nv := true }, nsp := { s.nsp with loadTries := 0, loadRetry := none } }
  have mode : (failLoad s).power.mode = .starting .listen := congrArg Power.mode power
  have timer : (failLoad s).power.startTimer = some (s.now + 250) := congrArg Power.startTimer power
  obtain ⟨nv, store⟩ := failLoad_faults s
  obtain ⟨odometer, slot⟩ := failLoad_odometer s
  have items := fun i listed => failLoad_item (i := i) (items_length_of_banksWhole whole) listed
  obtain ⟨closed, ring, number⟩ := failLoad_journey s
  refine ⟨t, carried, ?_⟩
  obtain ended | ended := ended
  case inl =>
    rw [ended]
    exact ⟨mode, timer, nv, store, odometer, slot, items, closed, ring, number, only⟩
  case inr =>
    rw [ended]
    rw [settled_mode, settled_startTimer, settled_faults, settled_trip, settled_nsp, settled_journey]
    refine ⟨mode, timer, nv, store, odometer, slot, fun i listed => ?_, closed, ring, number,
      only.settled (by decide) (by decide)⟩
    rw [(settled_kept i (failLoad s)).item]
    exact items i listed

/-- Settles O19: each stage of the load takes its records from the words, and what follows leaves them and the flag. -/
theorem loadTakesTheStoredRecords : Obligations.LoadTakesTheStoredRecords := by
  intro s loading whole
  let words : Option (List (Nat × Word)) := some s.nsp.memory
  let begun : State := { s with
    faults := { s.faults with nv := false }, nsp := { s.nsp with loadTries := 0, loadRetry := none } }
  have load : completeLoad s = finishLoad words begun := rfl
  have bank : begun.service.items.length = 8 := items_length_of_banksWhole whole
  have journey := finishLoad_journey_taken words begun
  have memory := (completeLoad_store s).memory
  have only : OnlyIn (mayChange (.loadComplete true)) s (completeLoad s) := (completeLoad_only s).mono (by decide)
  obtain ⟨largest, taken⟩ := loadOdometer_largest s.nsp.memory begun
  obtain ⟨empty, each, early⟩ := loadRing_spec s.nsp.memory (loadHeader words).1
  obtain ⟨opened, damaged⟩ := loadOpen_spec s.nsp.memory (loadHeader words).1
  rw [load] at memory only
  refine ⟨finishLoad words begun, congrArg Host.Outcome.next (if_pos loading), finishLoad_power words begun,
    finishLoad_nv words begun, ?largest, ?odometer, fun i listed => ?item, ?ring, ?openSlot, memory, only⟩
  case largest =>
    rw [finishLoad_trip]
    exact largest
  case odometer =>
    rw [finishLoad_trip]
    exact taken.imp id fun ⟨zero, store, none_⟩ => ⟨zero, finishLoad_store_of_odometer store, none_⟩
  case item =>
    split
    case h_1 km hours stored =>
      rw [finishLoad_item_stored (m := words) listed bank stored]
      exact ⟨rfl, rfl, rfl, rfl⟩
    case h_2 lost =>
      obtain ⟨d, item, waits⟩ := finishLoad_item_lost (m := words) listed bank lost
      refine ⟨?_, ?_, finishLoad_store_of_item listed lost, ?_, waits⟩ <;> rw [item]
      · rfl
      · exact lostItem_due _ _
      · rfl
  case ring =>
    rw [journey]
    refine ⟨loadRing_length_le words _, empty, fun i here => ?_, early⟩
    obtain ⟨written, good, bad⟩ := each i here
    exact ⟨written, good, fun fails =>
      ⟨(bad fails).1, finishLoad_store_of_journeys (.inr (.inl (bad fails).2))⟩⟩
  case openSlot =>
    rw [journey]
    exact ⟨rfl, opened, fun fails written => finishLoad_store_of_journeys (.inr (.inr (damaged fails written)))⟩
end
section
/-! PROOFS. The end of every command: the image and the sleep conditions against the blocks that they read (09 R140, 12
R173), how each command ends, and the statements about its blocks (O2), about the sleep timer and the image (O4) and
about the supply dip and its inputs (O13). -/

namespace Sys2Proof.Machine

/-! ### What the image and the sleep timer read -/

/-- `t` shows what `s` shows, holds the image that `s` holds, and has the sleep timer run as in `s`, under conditions as
in `s`. -/
structure ViewKept (s t : State) : Prop where
  mode : t.power.mode = s.power.mode
  timer : runs t.power.sleepTimer = runs s.power.sleepTimer
  conditions : sleepConditions t = sleepConditions s
  image : t.disp.image = s.disp.image
  shown : composeImage t = composeImage s

/-- Where the sleep timer and the image are current in `s`, they are so in `t`. -/
def CurrentKept (s t : State) : Prop := currentHolds s = true → currentHolds t = true

/-- The blocks that neither the image nor the sleep conditions read. -/
def viewFree : Block → Bool
  | .faults | .gauges | .keys | .port => true
  | _ => false

theorem currentHolds_iff {s : State} : currentHolds s = true ↔
    runs s.power.sleepTimer = (decide (s.power.mode = .watch) && sleepConditions s)
      ∧ s.disp.image = composeImage s := by
  simp only [currentHolds, Bool.and_eq_true, decide_eq_true_eq]

section
variable {s t u : State}

theorem ViewKept.refl (s : State) : ViewKept s s := ⟨rfl, rfl, rfl, rfl, rfl⟩

theorem ViewKept.trans (h : ViewKept s t) (k : ViewKept t u) : ViewKept s u :=
  ⟨k.mode.trans h.mode, k.timer.trans h.timer, k.conditions.trans h.conditions, k.image.trans h.image,
    k.shown.trans h.shown⟩

theorem ViewKept.ite {c : Prop} [Decidable c] (h : ViewKept s t) (k : ViewKept s u) :
    ViewKept s (if c then t else u) := by
  split <;> assumption

theorem ViewKept.current (h : ViewKept s t) : CurrentKept s t := fun current => by
  obtain ⟨timer, image⟩ := currentHolds_iff.mp current
  exact currentHolds_iff.mpr ⟨by rw [h.timer, h.mode, h.conditions, timer], by rw [h.image, h.shown, image]⟩

theorem CurrentKept.refl (s : State) : CurrentKept s s := id

/-- The end of a command makes both current. -/
theorem currentHolds_settled (s : State) : currentHolds (settled s) = true := by
  obtain ⟨_, sleep, image⟩ := settled_from s
  refine currentHolds_iff.mpr ⟨?_, image⟩
  rw [sleep, settled_mode, sleepConditions_settled]

/-- Out of RUN and WATCH no sleep timer runs, and the image is dark at the brightness that BODY LAMPS gives. -/
theorem CurrentKept.of_quiet (before : awake s = false) (after : awake t = false)
    (timer : t.power.sleepTimer = s.power.sleepTimer) (image : t.disp.image = s.disp.image)
    (bus : t.bus = s.bus) : CurrentKept s t := fun current => by
  have steady : ∀ u, awake u = false → decide (u.power.mode = .watch) = false := fun u asleep => by
    refine decide_eq_false fun watch => ?_
    simp [awake, watch] at asleep
  have level : brightness t = brightness s := by
    unfold brightness headlampsOn freshSlot entryIn
    rw [bus]
  obtain ⟨stopped, held⟩ := currentHolds_iff.mp current
  refine currentHolds_iff.mpr ⟨?_, ?_⟩
  · rw [timer, stopped, steady s before, steady t after]
    rfl
  · rw [image, held, composeImage_quiet s before, composeImage_quiet t after, level]

/-- A state that differs in blocks of which neither is read. -/
theorem OnlyIn.eq_of_viewFree {bs : List Block} (only : OnlyIn bs s t) (free : bs.all viewFree = true) :
    t = { s with faults := t.faults, gauges := t.gauges, keys := t.keys, port := t.port } := by
  have out : ∀ b, viewFree b = false → b ∉ bs := fun b held inside => by
    simp [List.all_eq_true.mp free b inside] at held
  obtain ⟨pending, now, power, straps, _, bus, _, fuel, trip, clock, journey, service, warn, chime, msg, disp, _, _,
    nsp⟩ := only
  cases t
  simp only [State.mk.injEq, true_and]
  exact ⟨pending, now, power (out _ rfl), straps (out _ rfl), bus (out _ rfl), fuel (out _ rfl), trip (out _ rfl),
    clock (out _ rfl), journey (out _ rfl), service (out _ rfl), warn (out _ rfl), chime (out _ rfl), msg (out _ rfl),
    disp (out _ rfl), nsp (out _ rfl)⟩

theorem ViewKept.of_free {bs : List Block} (only : OnlyIn bs s t) (free : bs.all viewFree = true) : ViewKept s t := by
  rw [only.eq_of_viewFree free]
  exact ⟨rfl, rfl, rfl, rfl, rfl⟩

/-- Of the report table the view reads BODY LAMPS alone, and nothing of its baselines. -/
theorem ViewKept.of_bus {b : Bus} (lamps : ∃ x y, b.lamps = { s.bus.lamps with base1 := x, base2 := y }) :
    ViewKept s { s with bus := b } := by
  obtain ⟨x, y, same⟩ := lamps
  have whole : b = { b with lamps := { s.bus.lamps with base1 := x, base2 := y } } := by rw [← same]
  rw [whole]
  exact ⟨rfl, rfl, rfl, rfl, rfl⟩

end

/-! ### Operations that leave the view -/

section
variable (s : State)

theorem modifyRoster_view (n : Nat) (f : RosterEntry → RosterEntry) : ViewKept s (modifyRoster n f s) :=
  .ite (.of_bus ⟨_, _, rfl⟩) (.refl s)

theorem modifyDemand_view (n : Nat) (f : PendingDemand → PendingDemand) : ViewKept s (modifyDemand n f s) :=
  .ite (.of_bus ⟨_, _, rfl⟩) (.refl s)

theorem noteHeard_view (h : Heard) : ViewKept s (noteHeard h s) := by
  have timed : ∀ t x, runs x = runs t.power.sleepTimer →
      ViewKept t { t with power := { t.power with sleepTimer := x } } := fun _ _ same => ⟨rfl, same, rfl, rfl, rfl⟩
  refine (modifyRoster_view s _ _).trans (timed _ _ ?_)
  rw [(modifyRoster_only _ _ s).power (by decide)]
  cases s.power.sleepTimer <;> rfl

theorem hearFrame_view {handle : State → State} (handles : ∀ t, ViewKept t (handle t)) (fits : Bool) (h : Heard) :
    ViewKept s (hearFrame fits h handle s) := by
  unfold hearFrame
  split
  · exact .refl s
  · exact .refl s
  · exact .of_free (noteClash_only s) rfl
  · exact (noteHeard_view s h).trans (handles _)

theorem heardPresence_view (h : Heard) : ViewKept s (heardPresence h s) := by
  refine .ite (.of_bus ?_) (.refl s)
  simp only [mapEntries]
  split
  · exact ⟨_, _, rfl⟩
  · exact ⟨_, _, rfl⟩

theorem answerBits_view (n : Nat) : ∀ (bits : List Nat) (s : State), ViewKept s (answerBits n bits s)
  | [], s => modifyDemand_view s n _
  | b :: rest, s => by
    have put : ∀ p, ViewKept s { s with port := p } := fun p => .of_free (only_port s p) rfl
    unfold answerBits
    split
    · split
      · exact ((put _).trans (modifyDemand_view _ n _)).trans (answerBits_view n rest _)
      · exact modifyDemand_view s n _
    · exact answerBits_view n rest s

theorem takeDemand_view (n : Nat) (mask : BitVec 6) (index : Option Nat) : ViewKept s (takeDemand n mask index s) :=
  .ite (modifyDemand_view s n _) ((modifyDemand_view s n _).trans (answerBits_view n _ _))

theorem reoffer_view (what : Reoffer) : ViewKept s (reoffer what s) := by
  unfold reoffer
  split
  · exact .ite (answerBits_view _ _ s) (.refl s)
  · exact .ite (.of_free (offerOwned_only _ s) rfl) (.refl s)

theorem closeSlot_view (e : TxEntry) (answer : Option Answer) : ViewKept s (closeSlot e answer s) := by
  have ended : ViewKept s (markSentWhole e.id.kind (endAttempt (answerAct s.now answer) s)) :=
    .of_free (((endAttempt_only _ s).mono (by decide)).trans (markSentWhole_only _ _)) rfl
  exact .ite (ended.trans (modifyRoster_view _ _ _)) ended

theorem mirrorPeriod_view : ViewKept s (mirrorPeriod s) := by
  have next : ViewKept s { s with bus := { s.bus with mirrorTimer := startFor s 500 } } := .of_bus ⟨_, _, rfl⟩
  exact .ite (next.trans (.of_free (offerPeriodicMirror_only _) rfl)) next

theorem stopPeriod_view : ViewKept s (stopPeriod s) := by
  have next : ViewKept s { s with fuel := { s.fuel with stopTimer := startFor s 5000 } } := ⟨rfl, rfl, rfl, rfl, rfl⟩
  exact .ite (next.trans (.of_free (offerOwned_only _ _) rfl)) next

theorem completeTransfer_view : ViewKept s (completeTransfer s) := by
  unfold completeTransfer
  split
  · exact .ite ⟨rfl, rfl, rfl, rfl, rfl⟩ ⟨rfl, rfl, rfl, rfl, rfl⟩
  · exact .refl s

/-- Of the entries of the Warning Unit the view reads whether they are raised, which a re-chime leaves. -/
theorem rechime_view (n : Nat) : ViewKept s (modifyWarn n rechimeFalls s) := by
  have same : ∀ e, raised (rechimeFalls e) = raised e := fun e => by
    unfold rechimeFalls
    split <;> rfl
  have kept := modifyWarn_kept_view s n same
  have standing : ∀ m, raised (warnEntry (modifyWarn n rechimeFalls s) m) = raised (warnEntry s m) := fun m =>
    kept.entry m (by simp)
  have only := modifyWarn_only n rechimeFalls s
  have shown : composeImage (modifyWarn n rechimeFalls s) = composeImage s := by
    unfold modifyWarn
    split <;> rfl
  refine ⟨kept.mode, by rw [only.power (by decide)], ?_, kept.image, shown⟩
  simp only [sleepConditions, standing, only.chime (by decide), only.nsp (by decide), only.disp (by decide)]

end

/-! ### Events that cannot occur -/

/-- A place that a change leaves as it is leaves the list as it is. -/
theorem modifyAt_fixed {α : Type} {f : α → α} {d : α} :
    ∀ {i : Nat} {l : List α}, f (l.getD i d) = l.getD i d → modifyAt i f l = l
  | _, [], _ => by simp [modifyAt]
  | 0, x :: rest, same => by
    have head : f x = x := same
    simp [modifyAt, head]
  | i + 1, x :: rest, same => by
    have tail : f (rest.getD i d) = rest.getD i d := by simpa using same
    simp [modifyAt, modifyAt_fixed tail]

theorem modifyRoster_fixed {n : Nat} {f : RosterEntry → RosterEntry} {s : State}
    (same : f (rosterOf s n) = rosterOf s n) : modifyRoster n f s = s := by
  unfold modifyRoster
  split
  · rename_i station
    rw [rosterOf, if_pos station] at same
    rw [modifyAt_fixed same]
  · rfl

theorem modifyWarn_fixed {n : Nat} {f : WarnEntry → WarnEntry} {s : State}
    (same : f (warnEntry s n) = warnEntry s n) : modifyWarn n f s = s := by
  unfold modifyWarn
  split
  · rename_i number
    rw [warnEntry, if_pos number] at same
    rw [modifyAt_fixed same]
  · rfl

theorem timer_stopped {timer : Timer} (off : runs timer = false) : timer = none := by simpa [runs] using off

theorem hearFrame_deaf {s : State} (deaf : receives s = false) (fits : Bool) (h : Heard) (handle : State → State) :
    hearFrame fits h handle s = s := by
  simp [hearFrame, hearing, deaf]

theorem acceptPress_idle {k : Key} {s : State} (idle : (awake s && decide (keyOf s.keys k = .released)) = false)
    (holds : State → KeyAction) (act : State → State) : acceptPress k holds act s = s := by
  rw [acceptPress, if_neg (by rw [idle]; exact Bool.false_ne_true)]

theorem acceptRelease_idle {k : Key} {s : State} (idle : (awake s && decide (keyOf s.keys k ≠ .released)) = false)
    (act : KeyAction → State → State) : acceptRelease k act s = s := by
  unfold acceptRelease
  split
  · rename_i held
    have asleep : awake s = false := by simpa [held] using idle
    simp [asleep]
  · rfl

theorem expireStale_idle {k : ReportKind} {s : State}
    (idle : ((entryIn s k).bound.isSome && runs (entryIn s k).staleTimer) = false) : expireStale k s = s := by
  unfold expireStale
  split
  · rename_i bound
    have off : runs (entryIn s k).staleTimer = false := by simpa [bound] using idle
    simp [off]
  · rfl

theorem answerWrite_idle {answer : StoreAnswer} {s : State} (done : s.power.mode ≠ .starting .load)
    (idle : occurs s (.busyPollRetry answer) = false) : answerWrite answer s = s := by
  simp only [occurs, if_neg done] at idle
  unfold answerWrite
  cases tried : s.nsp.writer with
  | trying n acked again =>
    rw [tried] at idle
    cases answer with
    | commandAcked =>
      have barred : (acked || s.power.dip) = true := by
        simpa [Bool.or_eq_true, Classical.or_iff_not_imp_left] using idle
      simp [barred]
    | commandUnacked =>
      have barred : (acked || s.power.dip) = true := by
        simpa [Bool.or_eq_true, Classical.or_iff_not_imp_left] using idle
      simp [barred]
    | dataUnacked =>
      have barred : (s.power.dip && !acked) = true := by simpa [and_comm] using idle
      simp [barred]
  | _ => rfl

theorem answerOperation_idle {answer : StoreAnswer} {s : State} (idle : occurs s (.busyPollRetry answer) = false) :
    answerOperation answer s = s := by
  unfold answerOperation
  by_cases load : s.power.mode = .starting .load
  · have data : answer = .dataUnacked := by simpa [occurs, load] using idle
    rw [if_pos load, data]
    rfl
  · rw [if_neg load]
    exact answerWrite_idle load idle

theorem completeWrite_idle {s : State} (idle : occurs s .writeComplete = false) : completeWrite s = s := by
  simp only [occurs] at idle
  unfold completeWrite
  cases tried : s.nsp.writer with
  | trying n acked again =>
    cases waiting : s.nsp.queue with
    | nil => rfl
    | cons e rest =>
      have barred : (s.power.dip && !acked) = true := by simpa [tried, waiting, and_comm] using idle
      simp [barred]
  | _ => rfl

theorem endWriteWait_idle {s : State} (idle : occurs s .failedWriteWaitExpiry = false) : endWriteWait s = s := by
  simp only [occurs] at idle
  unfold endWriteWait
  cases tried : s.nsp.writer with
  | waiting deadline => simp [tried] at idle
  | _ => rfl

theorem beginAttempt_idle {s : State} (idle : (mayTransmit s && (txHead s.port.queue).isSome) = false) :
    beginAttempt s = s := by
  unfold beginAttempt
  split
  · have empty : txHead s.port.queue = none := by simpa [‹mayTransmit s = true›] using idle
    rw [empty]
  · rfl

/-! ### How a command ends -/

/-- The commands whose own effect reaches the power block, beside the sleep timer that their end settles. -/
def reachesPower : Instr → Bool
  | .standbySupplyUp _ _ | .standbySupplyLoss _ | .settleEnd _ | .loadComplete _ | .listenEnd | .ignOn | .ignOff
  | .sleepTimerExpiry | .wakePulseHeard | .keyWake _ | .supplyDipBegin _ | .dipInputsClear | .supplyDipEnd
  | .restartRequestWarmRestart | .reportArrival _ _ | .rollCall _ | .presence _ | .otherFrameHeard _ _ _
  | .addressedFrameAnswer _ _ | .busyPollRetry _ => true
  | _ => false

/-- The blocks that a command's own effect reaches. -/
def effectBlocks (c : Instr) : List Block :=
  if reachesPower c then mayChange c else (mayChange c).filter (fun b => decide (b ≠ .power))

/-- A command leads from `s` to its own effect `x`, which is `s` where its event cannot occur, and ends there with the
sleep timer and the image brought up to date, or with both as current as they were. -/
def Ends (c : Instr) (s t : State) : Prop :=
  ∃ x, OnlyIn (effectBlocks c) s x ∧ (occurs s c = false → x = s)
    ∧ (settledBlocks.all (mayChange c).contains = true ∧ t = settled x ∨ t = x ∧ CurrentKept s x)

theorem effectBlocks_subset (c : Instr) : effectBlocks c ⊆ mayChange c := by
  unfold effectBlocks
  split
  · exact List.Subset.refl _
  · exact List.filter_subset_self _

theorem subset_of_all {bs cs : List Block} (all : bs.all cs.contains = true) : bs ⊆ cs := fun b inside => by
  simpa using List.all_eq_true.mp all b inside

section
variable {c : Instr} {s x : State} {bs : List Block}

theorem Ends.idle (c : Instr) (s : State) : Ends c s s := ⟨s, .refl _ s, fun _ => rfl, .inr ⟨rfl, .refl s⟩⟩

theorem Ends.settled (only : OnlyIn bs s x) (still : occurs s c = false → x = s)
    (sub : bs.all (effectBlocks c).contains = true := by rfl)
    (settles : settledBlocks.all (mayChange c).contains = true := by rfl) : Ends c s (settled x) :=
  ⟨x, only.mono (subset_of_all sub), still, .inl ⟨settles, rfl⟩⟩

theorem Ends.current (only : OnlyIn bs s x) (kept : CurrentKept s x) (still : occurs s c = false → x = s)
    (sub : bs.all (effectBlocks c).contains = true := by rfl) : Ends c s x :=
  ⟨x, only.mono (subset_of_all sub), still, .inr ⟨rfl, kept⟩⟩

/-- A command whose test is that its event occurs, and whose effect is settled. -/
theorem Ends.settled_if {p : Prop} [Decidable p] (occur : p → occurs s c = true) (only : OnlyIn bs s x)
    (sub : bs.all (effectBlocks c).contains = true := by rfl)
    (settles : settledBlocks.all (mayChange c).contains = true := by rfl) :
    Ends c s (if p then Machine.settled x else s) := by
  split
  · exact .settled only (fun off => absurd (occur ‹_›) (by simp [off])) sub settles
  · exact .idle c s

/-- A command whose test is that its event occurs, and whose effect leaves the view. -/
theorem Ends.current_if {p : Prop} [Decidable p] (occur : p → occurs s c = true) (only : OnlyIn bs s x)
    (kept : CurrentKept s x) (sub : bs.all (effectBlocks c).contains = true := by rfl) :
    Ends c s (if p then x else s) := by
  split
  · exact .current only kept (fun off => absurd (occur ‹_›) (by simp [off])) sub
  · exact .idle c s

theorem Ends.only {t : State} (ends : Ends c s t) : OnlyIn (mayChange c) s t := by
  obtain ⟨x, only, _, ⟨settles, rfl⟩ | ⟨rfl, _⟩⟩ := ends
  · have sub := subset_of_all settles
    exact (only.mono (effectBlocks_subset c)).settled (sub (by decide)) (sub (by decide))
  · exact only.mono (effectBlocks_subset c)

theorem Ends.still {t : State} (ends : Ends c s t) (off : occurs s c = false) : t = s ∨ SettledFrom s t := by
  obtain ⟨x, _, still, ⟨_, rfl⟩ | ⟨rfl, _⟩⟩ := ends
  · rw [still off]
    exact .inr (settled_from s)
  · exact .inl (still off)

theorem Ends.currentKept {t : State} (ends : Ends c s t) : CurrentKept s t := by
  obtain ⟨x, _, _, ⟨_, rfl⟩ | ⟨rfl, kept⟩⟩ := ends
  · exact fun _ => currentHolds_settled x
  · exact kept

/-- A command whose event occurs and whose effect is settled. -/
theorem Ends.occurred (occur : occurs s c = true) (only : OnlyIn bs s x)
    (sub : bs.all (effectBlocks c).contains = true := by rfl)
    (settles : settledBlocks.all (mayChange c).contains = true := by rfl) : Ends c s (Machine.settled x) :=
  .settled only (fun off => absurd occur (by simp [off])) sub settles

/-- A command whose event occurs and whose effect leaves the view. -/
theorem Ends.happened (occur : occurs s c = true) (only : OnlyIn bs s x) (kept : CurrentKept s x)
    (sub : bs.all (effectBlocks c).contains = true := by rfl) : Ends c s x :=
  .current only kept (fun off => absurd occur (by simp [off])) sub

/-- A command whose effect lies in blocks that the view does not read. -/
theorem Ends.unseen (only : OnlyIn bs s x) (still : occurs s c = false → x = s)
    (free : bs.all viewFree = true := by rfl) (sub : bs.all (effectBlocks c).contains = true := by rfl) : Ends c s x :=
  .current only (ViewKept.of_free only free).current still sub

theorem Ends.unseen_if {p : Prop} [Decidable p] (occur : p → occurs s c = true) (only : OnlyIn bs s x)
    (free : bs.all viewFree = true := by rfl) (sub : bs.all (effectBlocks c).contains = true := by rfl) :
    Ends c s (if p then x else s) :=
  .current_if occur only (ViewKept.of_free only free).current sub

end

/-! ### Commands of the power supervisor -/

theorem dipInput_only (input : DipInput) (s : State) : OnlyIn ([.power, .nsp] ++ warnBlocks) s (dipInput input s) :=
  .ite ((only_power s _).mono (by decide)) (((only_power s _).mono (by decide)).trans (beginDip_only _))

theorem keyWakes_only (key : Key) (s : State) : OnlyIn startBlocks s (keyWakes key s) := by
  refine ((wakeStart_only false s).mono (cs := startBlocks) (by decide)).trans ?_
  constructor <;> simp [keyWakes, startBlocks]

theorem coldStart_only (crank lowv : Bool) (s : State) : OnlyIn allBlocks s (coldStart crank lowv s) := by
  constructor <;> simp [coldStart, allBlocks]

theorem coldStart_currentKept (crank lowv : Bool) (s : State) : CurrentKept s (coldStart crank lowv s) :=
  fun _ => currentHolds_iff.mpr ⟨rfl, rfl⟩

theorem supplyLost_currentKept (cut : Option Word) (s : State) : CurrentKept s (supplyLost cut s) :=
  fun _ => currentHolds_iff.mpr ⟨rfl, rfl⟩

theorem supplyLost_only (cut : Option Word) (s : State) : OnlyIn allBlocks s (supplyLost cut s) := by
  constructor <;> simp [supplyLost, allBlocks]

theorem sampleStraps_only (pins : StrapPins) (s : State) :
    OnlyIn [.power, .straps, .faults, .nsp] s (sampleStraps pins s) := by
  constructor <;> simp [sampleStraps]

theorem sampleStraps_currentKept {pins : StrapPins} {s : State} (settle : s.power.mode = .starting .settle) :
    CurrentKept s (sampleStraps pins s) :=
  .of_quiet (by simp [awake, settle]) rfl rfl rfl rfl

/-- The end of the load goes from STARTING to STARTING. -/
theorem load_currentKept {s t : State} (load : s.power.mode = .starting .load)
    (only : OnlyIn ([.power, .faults] ++ storeBlocks) s t) (mode : t.power.mode = .starting .listen)
    (timer : t.power.sleepTimer = s.power.sleepTimer) : CurrentKept s t :=
  .of_quiet (by simp [awake, load]) (by simp [awake, mode]) timer
    (by rw [only.disp (by decide)]) (only.bus (by decide))

/-- The accepted level of IGN is read by neither the image nor the sleep timer. -/
theorem setIgn_currentKept (on : Bool) (s : State) : CurrentKept s (setIgn on s) :=
  ViewKept.current ⟨rfl, rfl, rfl, rfl, rfl⟩

theorem ignitionOn_ends (s : State) : Ends .ignOn s (ignitionOn s) := by
  have level := fun occur => Ends.happened (c := .ignOn) occur (only_power s _) (setIgn_currentKept true s)
  have set := (only_power s { s.power with ignOn := true }).mono (cs := startBlocks) (by decide)
  unfold ignitionOn
  split
  · exact .idle _ s
  · exact level (by simp [occurs, powered, *])
  · exact level (by simp [occurs, powered, *])
  · exact .occurred (by simp [occurs, powered, *]) (set.trans ((enterRun_only _).mono (by decide)))
  · exact .occurred (by simp [occurs, powered, *]) (set.trans ((wakeStart_only true _).mono (by decide)))

theorem ignitionOff_ends (s : State) : Ends .ignOff s (ignitionOff s) := by
  have level := fun occur => Ends.happened (c := .ignOff) occur (only_power s _) (setIgn_currentKept false s)
  have set := (only_power s { s.power with ignOn := false }).mono (cs := startBlocks) (by decide)
  unfold ignitionOff
  split
  · exact .idle _ s
  · exact level (by simp [occurs, powered, *])
  · exact level (by simp [occurs, powered, *])
  · exact level (by simp [occurs, powered, *])
  · exact .occurred (by simp [occurs, powered, *]) (set.trans ((enterWatch_only _).mono (by decide)))

theorem pulseHeard_ends (s : State) : Ends .wakePulseHeard s (pulseHeard s) := by
  have line : OnlyIn [.port] s (pulseOnLine s) := only_port s _
  have other : powered s = true → Ends .wakePulseHeard s (pulseOnLine s) := fun up =>
    .unseen line fun off => absurd (off.symm.trans up) Bool.false_ne_true
  unfold pulseHeard
  split
  · exact .idle _ s
  · exact .occurred (by simp [occurs, powered, *])
      ((line.mono (cs := startBlocks) (by decide)).trans ((wakeStart_only _ _).mono (by decide)))
  all_goals exact other (by simp [powered, *])

theorem dipInputsClear_currentKept (s : State) : CurrentKept s (dipInputsClear s) :=
  ViewKept.current ⟨rfl, rfl, rfl, rfl, rfl⟩

theorem endListen_only (s : State) : OnlyIn enterBlocks s (endListen s) :=
  (((only_power s _).mono (by decide)).trans (startInto_only _ _)).trans ((offerOwned_only _ _).mono (by decide))

/-! ### Commands of the other units -/

theorem mirrorPeriod_only (s : State) : OnlyIn [.bus, .port] s (mirrorPeriod s) := by
  have next := (only_bus s { s.bus with mirrorTimer := startFor s 500 }).mono (cs := [.bus, .port]) (by decide)
  exact .ite (next.trans ((offerPeriodicMirror_only _).mono (by decide))) next

theorem stopPeriod_only (s : State) : OnlyIn [.fuel, .port] s (stopPeriod s) := by
  have next := (only_fuel s { s.fuel with stopTimer := startFor s 5000 }).mono (cs := [.fuel, .port]) (by decide)
  exact .ite (next.trans ((offerOwned_only _ _).mono (by decide))) next

theorem slotClosed_only (e : TxEntry) (answer : Option Answer) (s : State) :
    OnlyIn [.port, .faults, .bus] s (closeSlot e answer s) :=
  (((endAttempt_only _ s).mono (by decide)).trans ((markSentWhole_only _ _).mono (by decide))).trans
    ((closeSlot_only e answer s).mono (by decide))

theorem answerOperation_only (answer : StoreAnswer) (s : State) :
    OnlyIn ([.power, .faults] ++ storeBlocks) s (answerOperation answer s) := by
  unfold answerOperation
  split
  · cases answer
    · constructor <;> simp [answerLoad, storeBlocks]
    · exact .ite ((only_nsp s _).mono (by decide)) (failLoad_only s)
    · exact .refl _ s
  · exact (answerWrite_only answer s).mono (by decide)

theorem reoffer_idle {what : Reoffer} {s : State} (speaks : mayQueue s = true)
    (off : occurs s (.ownerReoffer what) = false) : reoffer what s = s := by
  cases what
  case answers n => exact if_neg (by simpa [occurs, speaks] using off)
  all_goals exact if_neg (Bool.eq_false_iff.mp (by simpa only [occurs, speaks, Bool.true_and] using off))

theorem endRetry_idle {name : FrameId} {s : State} (off : occurs s (.retryDelayExpiry name) = false) :
    { s with port := { s.port with
      queue := s.port.queue.map (fun e => if e.id = name then { e with retry := none } else e) } } = s := by
  have stopped : ∀ e ∈ s.port.queue, e.id = name → e.retry = none := by simpa [occurs, runs] using off
  have same : s.port.queue.map (fun e => if e.id = name then { e with retry := none } else e) = s.port.queue := by
    refine (List.map_congr_left fun e inside => ?_).trans (List.map_id _)
    by_cases named : e.id = name
    · rw [if_pos named, ← stopped e inside named]
      rfl
    · simp [named]
  rw [same]

/-! ### Every command -/

theorem exec_ends (c : Instr) (s : State) : ∃ t, exec c s = .next t ∧ Ends c s t := by
  cases c
  case standbySupplyUp crank lowv =>
    refine ⟨_, rfl, ?_⟩
    split
    · exact .idle _ s
    · exact .happened (by simpa [occurs] using ‹¬ powered s = true›) (coldStart_only crank lowv s)
        (coldStart_currentKept crank lowv s)
  case standbySupplyLoss cut =>
    exact ⟨_, rfl, .current_if id (supplyLost_only cut s) (supplyLost_currentKept cut s)⟩
  case settleEnd pins =>
    refine ⟨_, rfl, ?_⟩
    split
    · rename_i settle
      exact .happened (decide_eq_true settle) (sampleStraps_only pins s) (sampleStraps_currentKept settle)
    · exact .idle _ s
  case loadComplete whole =>
    refine ⟨_, rfl, ?_⟩
    split
    · rename_i load
      have occur : occurs s (.loadComplete whole) = true := decide_eq_true load
      have power : ∀ m t, (finishLoad m t).power.mode = .starting .listen
          ∧ (finishLoad m t).power.sleepTimer = t.power.sleepTimer := fun m t => by simp [finishLoad_power]
      split
      · exact .happened occur (completeLoad_only s)
          (load_currentKept load (completeLoad_only s) (power _ _).1 (power _ _).2)
      · exact .happened occur (failLoad_only s) (load_currentKept load (failLoad_only s) (power _ _).1 (power _ _).2)
    · exact .idle _ s
  case listenEnd => exact ⟨_, rfl, .settled_if decide_eq_true (endListen_only s)⟩
  case ignOn => exact ⟨_, rfl, ignitionOn_ends s⟩
  case ignOff => exact ⟨_, rfl, ignitionOff_ends s⟩
  case sleepTimerExpiry => exact ⟨_, rfl, .settled_if id (enterSleep_only s)⟩
  case wakePulseHeard => exact ⟨_, rfl, pulseHeard_ends s⟩
  case keyWake key => exact ⟨_, rfl, .settled_if decide_eq_true (keyWakes_only key s)⟩
  case supplyDipBegin input => exact ⟨_, rfl, .settled_if id (dipInput_only input s)⟩
  case dipInputsClear => exact ⟨_, rfl, .current_if id (only_power s _) (dipInputsClear_currentKept s)⟩
  case supplyDipEnd => exact ⟨_, rfl, .settled_if id (endDip_only s)⟩
  case restartRequestRosterRefresh =>
    refine ⟨_, rfl, ?_⟩
    split
    · exact .occurred (by simp [occurs, *]) (((dropHead_only s).mono (by decide)).trans (rosterRefresh_only _))
    · exact .idle _ s
  case restartRequestWarmRestart =>
    refine ⟨_, rfl, ?_⟩
    split
    · exact .occurred (by simp [occurs, *]) (((dropHead_only s).mono (by decide)).trans (warmRestart_only _))
    · exact .idle _ s
  case reportArrival kind frame =>
    exact ⟨_, rfl, .settled (hearFrame_only (offerReport_only kind frame) _ frame s)
      (fun off => hearFrame_deaf off _ _ _) (by cases kind <;> rfl) (by cases kind <;> rfl)⟩
  case rollCall frame =>
    have view : ∀ t, ViewKept t (offerOwned .presence t) := fun t => .of_free (offerOwned_only _ t) rfl
    exact ⟨_, rfl, .current (hearFrame_only (offerOwned_only .presence) _ frame s)
      (hearFrame_view s view _ frame).current (fun off => hearFrame_deaf off _ _ _)⟩
  case presence frame =>
    exact ⟨_, rfl, .current (hearFrame_only (heardPresence_only frame) _ frame s)
      (hearFrame_view s (heardPresence_view · frame) _ frame).current (fun off => hearFrame_deaf off _ _ _)⟩
  case otherFrameHeard kind target frame =>
    have none : ∀ t, OnlyIn [] t (id t) := .refl []
    refine ⟨_, rfl, ?_⟩
    split
    · rename_i further
      exact .current (hearFrame_only none _ frame s) (hearFrame_view s ViewKept.refl _ frame).current fun off =>
        hearFrame_deaf (by simpa [occurs, further] using off) _ _ _
    · exact .idle _ s
  case ownAddressFrameHeard => exact ⟨_, rfl, .unseen_if id (noteClash_only s)⟩
  case frameDiscarded cause =>
    refine ⟨_, rfl, ?_⟩
    split
    · cases cause
      case wakePulse => exact .unseen (only_port s _) fun off => absurd off (by simp [occurs, *])
      all_goals exact .idle _ s
    · exact .idle _ s
  case addressedFrameAnswer kind frame =>
    have view : ∀ t, ViewKept t (answerHeard kind frame t) := fun t => .of_free (answerHeard_only kind frame t) rfl
    exact ⟨_, rfl, .current (hearFrame_only (answerHeard_only kind frame) _ frame s)
      (hearFrame_view s view _ frame).current (fun off => hearFrame_deaf off _ _ _)⟩
  case demand =>
    refine ⟨_, rfl, ?_⟩
    split
    · exact .happened (by simp [occurs, *])
        (((dropHead_only s).mono (by decide)).trans (takeDemand_only _ _ _ _))
        ((ViewKept.of_free (dropHead_only s) rfl).trans (takeDemand_view _ _ _ _)).current
    · exact .idle _ s
  case chimeRequest =>
    refine ⟨_, rfl, ?_⟩
    split
    · exact .occurred (by simp [occurs, *])
        (((dropHead_only s).mono (by decide)).trans (peerChime_only _ _ _ _))
    · exact .idle _ s
  case notice =>
    refine ⟨_, rfl, ?_⟩
    split
    · exact .occurred (by simp [occurs, *])
        (((dropHead_only s).mono (by decide)).trans
          ((postNote_only _ _ _ _ _).mono (cs := [.port, .warn, .msg, .disp, .service]) (by decide)))
    · exact .idle _ s
  case serviceReset =>
    have dropped := (dropHead_only s).mono (cs := .port :: ([.warn, .msg, .disp] ++ storeBlocks)) (by decide)
    refine ⟨_, rfl, ?_⟩
    split
    · have occur : occurs s .serviceReset = true := by simp [occurs, *]
      split
      · exact .occurred occur (dropped.trans ((serviceResetOp_only _ _).mono (by decide)))
      · exact .unseen (dropHead_only s) fun off => absurd occur (by simp [off])
    · exact .idle _ s
  case journeyClear =>
    have dropped := (dropHead_only s).mono (cs := .port :: ([.warn, .msg, .disp] ++ storeBlocks)) (by decide)
    refine ⟨_, rfl, ?_⟩
    split
    · have occur : occurs s .journeyClear = true := by simp [occurs, *]
      split
      · exact .occurred occur (dropped.trans ((clearJourneys_only _).mono (by decide)))
      · exact .unseen (dropHead_only s) fun off => absurd occur (by simp [off])
    · exact .idle _ s
  case clockSet =>
    refine ⟨_, rfl, ?_⟩
    split
    · exact .occurred (by simp [occurs, *])
        (((dropHead_only s).mono (by decide)).trans ((setClock_only _ _).mono (cs := [.port, .clock]) (by decide)))
    · exact .idle _ s
  case attemptBegin => exact ⟨_, rfl, .unseen (beginAttempt_only s) beginAttempt_idle⟩
  case lostArbitration =>
    refine ⟨_, rfl, ?_⟩
    split
    · exact .unseen (endAttempt_only _ s) fun off => absurd off (by simp [occurs, *])
    · exact .idle _ s
  case readbackFault =>
    refine ⟨_, rfl, ?_⟩
    split
    · exact .unseen (((endAttempt_only _ s).mono (by decide)).trans (countFault_only _))
        fun off => absurd off (by simp [occurs, *])
    · exact .idle _ s
  case lineFaultPauseExpiry =>
    exact ⟨_, rfl, .unseen (only_port s _) fun off => by rw [← timer_stopped off]⟩
  case broadcastSentWhole =>
    refine ⟨_, rfl, ?_⟩
    split
    · exact .unseen_if (fun broadcast => by simp [occurs, *])
        (((endAttempt_only _ s).mono (by decide)).trans (markSentWhole_only _ _))
    · exact .idle _ s
  case answerSlotClose run =>
    refine ⟨_, rfl, ?_⟩
    split
    · split
      · exact .idle _ s
      · exact .happened (by simp [occurs, *]) (slotClosed_only _ _ s) (closeSlot_view s _ _).current
    · exact .idle _ s
  case retryDelayExpiry name =>
    exact ⟨_, rfl, .unseen (only_port s _) endRetry_idle⟩
  case holdOffExpiry =>
    exact ⟨_, rfl, .unseen (only_port s _) fun off => by rw [← timer_stopped off]⟩
  case wakePulseSend => exact ⟨_, rfl, .unseen_if id (only_port s _)⟩
  case wakePulseEnd =>
    refine ⟨_, rfl, ?_⟩
    split
    · exact .idle _ s
    · exact .idle _ s
    all_goals exact .unseen (only_port s _) fun off => absurd off (by simp [occurs, *])
  case ownerReoffer what =>
    refine ⟨_, rfl, ?_⟩
    split
    · exact .current (reoffer_only what s) (reoffer_view s what).current (reoffer_idle ‹_›)
    · exact .idle _ s
  case staleTimerExpiry kind => exact ⟨_, rfl, .settled (expireStale_only kind s) expireStale_idle⟩
  case rosterTimerExpiry station =>
    refine ⟨_, rfl, .current (modifyRoster_only _ _ s) (modifyRoster_view s _ _).current fun off =>
      modifyRoster_fixed ?_⟩
    exact if_neg (by simpa [occurs] using off)
  case mirrorTimerExpiry => exact ⟨_, rfl, .current_if id (mirrorPeriod_only s) (mirrorPeriod_view s).current⟩
  case dampingStep => exact ⟨_, rfl, .unseen_if id (dampingPeriod_only s)⟩
  case coilOffTimerExpiry => exact ⟨_, rfl, .unseen_if id (only_gauges s _)⟩
  case correctionTimerExpiry => exact ⟨_, rfl, .settled_if id (correctionPeriod_only s)⟩
  case standstillTimerExpiry | pumpTimerExpiry =>
    exact ⟨_, rfl, .current_if id (only_fuel s _) (ViewKept.current ⟨rfl, rfl, rfl, rfl, rfl⟩)⟩
  case transferStopTimerExpiry => exact ⟨_, rfl, .current_if id (stopPeriod_only s) (stopPeriod_view s).current⟩
  case tripSecondTimerExpiry | instantSamplerExpiry => exact ⟨_, rfl, .settled_if id (only_trip s _)⟩
  case clockSecond => exact ⟨_, rfl, .settled_if id (clockPeriod_only s)⟩
  case modePress =>
    exact ⟨_, rfl, .settled (acceptPress_only modeAction_only _ _ s) fun off =>
      acceptPress_idle (k := .mode) off _ _⟩
  case selectPress =>
    exact ⟨_, rfl, .settled (acceptPress_only selectAction_only _ _ s) fun off =>
      acceptPress_idle (k := .select) off _ _⟩
  case resetPress =>
    exact ⟨_, rfl, .settled (acceptPress_only resetAction_only _ _ s) fun off =>
      acceptPress_idle (k := .reset) off _ _⟩
  case notePress =>
    exact ⟨_, rfl, .settled (acceptPress_only noteAction_only _ _ s) fun off =>
      acceptPress_idle (k := .note) off _ _⟩
  case journeyPress =>
    exact ⟨_, rfl, .settled (acceptPress_only journeyAction_only _ _ s) fun off =>
      acceptPress_idle (k := .journey) off _ _⟩
  case journeyRelease =>
    exact ⟨_, rfl, .settled (acceptRelease_only journeyShort_only _ s) fun off =>
      acceptRelease_idle (k := .journey) off _⟩
  case keyRelease key =>
    have none : ∀ (a : KeyAction) t, OnlyIn [] t t := fun _ => .refl []
    refine ⟨_, rfl, ?_⟩
    split
    · exact .idle _ s
    · exact .unseen (acceptRelease_only none key s) fun off => acceptRelease_idle (by simpa [occurs, *] using off) _
  case journeyLongPress =>
    have taken := (takeLong_only .journey s).mono (cs := .keys :: ([.warn, .msg, .disp] ++ storeBlocks)) (by decide)
    refine ⟨_, rfl, ?_⟩
    split
    · exact .settled_if (fun up => by simp_all [occurs, keyOf]) (taken.trans ((journeyLong_only _).mono (by decide)))
    · exact .idle _ s
  case tripReset =>
    refine ⟨_, rfl, ?_⟩
    split
    · exact .settled_if (fun up => by simp_all [occurs, keyOf])
        (((takeLong_only _ s).mono (by decide)).trans ((tripResetOp_only _ _).mono (cs := [.keys, .trip]) (by decide)))
    · exact .idle _ s
  case serviceResetPress =>
    have taken := (takeLong_only .reset s).mono (cs := .keys :: ([.warn, .msg, .disp] ++ storeBlocks)) (by decide)
    refine ⟨_, rfl, ?_⟩
    split
    · exact .settled_if (fun up => by simp_all [occurs, keyOf])
        (taken.trans (.ite ((serviceResetOp_only _ _).mono (by decide)) (.refl _ _)))
    · exact .idle _ s
  case setModeTimeout | blinkTimerExpiry | journeyReadoutAlternate | displayTimerExpiry =>
    exact ⟨_, rfl, .settled_if id (only_disp s _)⟩
  case displayTransferComplete =>
    refine ⟨_, rfl, .current (completeTransfer_only s) (completeTransfer_view s).current fun off => ?_⟩
    have none : s.disp.transfer = none := by simpa [occurs] using off
    simp [completeTransfer, none]
  case minimumShowTimeExpiry =>
    exact ⟨_, rfl, .settled_if id (((only_msg s _).mono (by decide)).trans (select_only _))⟩
  case maximumShowTimeExpiry => exact ⟨_, rfl, .settled_if id (showTimeOver_only s)⟩
  case reminderRepostTimerExpiry => exact ⟨_, rfl, .settled_if id (repost_only s)⟩
  case evaluationTimerExpiry => exact ⟨_, rfl, .settled_if id (evaluationPeriod_only s)⟩
  case reOfferTimerExpiry entry => exact ⟨_, rfl, .settled_if id (postOutstanding_only entry s)⟩
  case reChimeTimerExpiry entry =>
    exact ⟨_, rfl, .current (modifyWarn_only _ _ s) (rechime_view s entry).current fun off =>
      modifyWarn_fixed (if_neg (by simpa [occurs] using off))⟩
  case reviewTimerExpiry => exact ⟨_, rfl, .settled_if id (moveReview_only s)⟩
  case flashTimerExpiry | staleGraceExpiry | engineRunningTimerExpiry =>
    exact ⟨_, rfl, .current_if id (only_warn s _) (ViewKept.current ⟨rfl, rfl, rfl, rfl, rfl⟩)⟩
  case lampProvingExpiry =>
    exact ⟨_, rfl, .settled_if id (((only_warn s _).mono (by decide)).trans (setCursor_only _ _))⟩
  case windowTimerExpiry =>
    exact ⟨_, rfl, .settled_if id (((only_warn s _).mono (by decide)).trans (applyGates_only _))⟩
  case elementEnd => exact ⟨_, rfl, .settled_if id (elementOver_only s)⟩
  case busyPollRetry answer => exact ⟨_, rfl, .settled (answerOperation_only answer s) answerOperation_idle⟩
  case failedWriteWaitExpiry => exact ⟨_, rfl, .settled (endWriteWait_only s) endWriteWait_idle⟩
  case writeComplete => exact ⟨_, rfl, .settled (completeWrite_only s) completeWrite_idle⟩

/-! ### The image and the sleep timer after every step -/

theorem step_currentKept {s t : State} (stepped : step s = .next t) : CurrentKept s t := by
  unfold step at stepped
  split at stepped
  · cases stepped
    exact ViewKept.current ⟨rfl, rfl, rfl, rfl, rfl⟩
  · rename_i c rest _
    obtain ⟨u, carried, ends⟩ := exec_ends c { s with pending := rest }
    cases carried.symm.trans stepped
    have taken : ViewKept s { s with pending := rest } := ⟨rfl, rfl, rfl, rfl, rfl⟩
    exact fun current => ends.currentKept (taken.current current)

section
variable {s : State}

theorem settled_sleepTimer : (settled s).power.sleepTimer = (settleSleep s).power.sleepTimer :=
  congrArg Power.sleepTimer (refreshDisplay_power _)

theorem settled_sleepTimer_starts (watch : s.power.mode = .watch) (idle : sleepConditions s = true)
    (off : s.power.sleepTimer = none) : (settled s).power.sleepTimer = some (s.now + 5000) := by
  rw [settled_sleepTimer]
  simp [settleSleep, watch, idle, off, runs, startFor]

theorem composeImage_settleSleep : composeImage (settleSleep s) = composeImage s := by
  rw [settleSleep_eq]
  rfl

theorem settled_changed_sends (changed : composeImage s ≠ s.disp.image) (free : s.disp.transfer = none) :
    (settled s).disp.transfer = some (composeImage s) := by
  unfold settled refreshDisplay
  rw [composeImage_settleSleep, settleSleep_disp, if_neg changed, free]

theorem settled_changed_waits (changed : composeImage s ≠ s.disp.image) (busy : s.disp.transfer ≠ none) :
    (settled s).disp.transfer = s.disp.transfer ∧ (settled s).disp.changed = true := by
  obtain ⟨sent, going⟩ := Option.ne_none_iff_exists'.mp busy
  unfold settled refreshDisplay
  rw [composeImage_settleSleep, settleSleep_disp, if_neg changed, going]
  exact ⟨going, rfl⟩

end

/-! ### The supply dip and its inputs -/

/-- The dip and its inputs are in `t` as in `s`. -/
structure InputsKept (s t : State) : Prop where
  crank : t.power.crank = s.power.crank
  lowv : t.power.lowv = s.power.lowv
  dip : t.power.dip = s.power.dip
  settling : t.power.settleTimer = s.power.settleTimer

/-- Where the dip goes with its inputs in `s`, it does so in `t`. -/
def DipKept (s t : State) : Prop := dipHolds s.power = true → dipHolds t.power = true

section
variable {s t u : State}

theorem InputsKept.refl (s : State) : InputsKept s s := ⟨rfl, rfl, rfl, rfl⟩

theorem InputsKept.trans (h : InputsKept s t) (k : InputsKept t u) : InputsKept s u :=
  ⟨k.crank.trans h.crank, k.lowv.trans h.lowv, k.dip.trans h.dip, k.settling.trans h.settling⟩

theorem InputsKept.of_only {bs : List Block} (only : OnlyIn bs s t) (free : .power ∉ bs := by decide) :
    InputsKept s t := by
  have same := only.power free
  exact ⟨by rw [same], by rw [same], by rw [same], by rw [same]⟩

theorem InputsKept.settled (h : InputsKept s t) : InputsKept s (settled t) := by
  refine h.trans ?_
  rw [(settled_from t).rest]
  exact ⟨rfl, rfl, rfl, rfl⟩

theorem InputsKept.dipKept (h : InputsKept s t) : DipKept s t := by
  unfold DipKept dipHolds
  rw [h.crank, h.lowv, h.dip, h.settling]
  exact id

theorem DipKept.refl (s : State) : DipKept s s := id

theorem DipKept.ite {c : Prop} [Decidable c] (h : DipKept s t) (k : DipKept s u) : DipKept s (if c then t else u) := by
  split <;> assumption

theorem DipKept.settled (h : DipKept s t) : DipKept s (settled t) :=
  fun holds => (InputsKept.settled (.refl t)).dipKept (h holds)

/-- A command that does not reach the power block, but for the sleep timer. -/
theorem Ends.inputs {c : Instr} (ends : Ends c s t) (free : reachesPower c = false) : InputsKept s t := by
  obtain ⟨x, only, _, after⟩ := ends
  have kept : InputsKept s x := .of_only only (by simp [effectBlocks, free])
  obtain ⟨_, rfl⟩ | ⟨rfl, _⟩ := after
  · exact kept.settled
  · exact kept

end

section
variable (s : State)

theorem startInto_inputs (toRun : Bool) : InputsKept s (startInto toRun s) := by
  have run : InputsKept s (runBegun s) := ⟨rfl, rfl, rfl, rfl⟩
  have watch : InputsKept s (watchBegun (gaugesGathering s) s) := ⟨rfl, rfl, rfl, rfl⟩
  unfold startInto
  split
  · exact run.trans (.of_only (applyGates_only _))
  · exact watch.trans (.of_only (applyGates_only _))

theorem enterWatch_inputs : InputsKept s (enterWatch s) := by
  have watch : InputsKept s (watchBegun (gaugesParking s) s) := ⟨rfl, rfl, rfl, rfl⟩
  exact ((watch.trans (.of_only (endReminders_only _))).trans (.of_only (applyGates_only _))).trans
    (.of_only (offerStores_only _))

theorem wakeBlocks_inputs (warm : Bool) (kind : Nat) : InputsKept s (wakeBlocks warm kind s) := by
  have quiet : InputsKept s (emptyMessages (emptyChimes { s with port := wakePort warm s.port })) :=
    ((InputsKept.of_only (only_port s _)).trans (.of_only (emptyChimes_only _))).trans (.of_only (emptyMessages_only _))
  exact quiet.trans ⟨rfl, rfl, rfl, rfl⟩

theorem wakeStart_inputs (toRun : Bool) : InputsKept s (wakeStart toRun s) :=
  ((((wakeBlocks_inputs s false 1).trans (startInto_inputs _ toRun)).trans (.of_only (reofferAll_only _))).trans
    (.of_only (kickWriter_only _))).trans (.of_only (offerOwned_only _ _))

theorem keyWakes_inputs (key : Key) : InputsKept s (keyWakes key s) := by
  refine (wakeStart_inputs s false).trans ?_
  have same : (keyWakes key s).power = (wakeStart false s).power := by simp only [keyWakes]
  exact ⟨by rw [same], by rw [same], by rw [same], by rw [same]⟩

theorem warmRestart_inputs : InputsKept s (warmRestart s) :=
  ((wakeBlocks_inputs s true 2).trans (startInto_inputs _ _)).trans (.of_only (offerOwned_only _ _))

theorem endListen_inputs : InputsKept s (endListen s) := by
  refine InputsKept.trans (InputsKept.trans ?_ (startInto_inputs _ s.power.ignOn)) (.of_only (offerOwned_only _ _))
  exact ⟨rfl, rfl, rfl, rfl⟩

theorem hearFrame_inputs {handle : State → State} {bs : List Block} (handles : ∀ t, OnlyIn bs t (handle t))
    (fits : Bool) (h : Heard) (free : .power ∉ bs := by decide) : InputsKept s (hearFrame fits h handle s) := by
  have heard : InputsKept s (noteHeard h s) := by
    have power := noteHeard_power h s
    exact ⟨by rw [power], by rw [power], by rw [power], by rw [power]⟩
  unfold hearFrame
  split
  · exact .refl s
  · exact .refl s
  · exact .of_only (noteClash_only s)
  · exact heard.trans (.of_only (handles _) free)

theorem finishLoad_inputs (m : Option (List (Nat × Word))) : InputsKept s (finishLoad m s) := by
  have power := finishLoad_power m s
  exact ⟨by rw [power], by rw [power], by rw [power], by rw [power]⟩

theorem failLoad_inputs : InputsKept s (failLoad s) := by
  refine InputsKept.trans ?_ (finishLoad_inputs _ none)
  exact ⟨rfl, rfl, rfl, rfl⟩

theorem completeLoad_inputs : InputsKept s (completeLoad s) := by
  refine InputsKept.trans ?_ (finishLoad_inputs _ (some s.nsp.memory))
  exact ⟨rfl, rfl, rfl, rfl⟩

theorem answerOperation_inputs (answer : StoreAnswer) : InputsKept s (answerOperation answer s) := by
  unfold answerOperation answerLoad
  split
  · split
    · exact ⟨rfl, rfl, rfl, rfl⟩
    · split
      · exact ⟨rfl, rfl, rfl, rfl⟩
      · exact failLoad_inputs s
    · exact .refl s
  · exact .of_only (answerWrite_only answer s)

theorem beginDip_power : (beginDip s).power = { s.power with dip := true } :=
  ((applyGates_only _).power (by decide)).trans ((silenceForDip_only _).power (by decide))

theorem endDip_power : (endDip s).power = { s.power with dip := false, settleTimer := none } :=
  ((dipFreesWriter_only _).power (by decide)).trans
    ((withArbiter_only (fun t => .refl [.chime] t) _).power (by decide))

/-- An input turned active holds the dip, with the settle timer stopped. -/
theorem dipInput_dipHolds (input : DipInput) : dipHolds (dipInput input s).power = true := by
  have stopped : (setDipInput input s.power).settleTimer = none := by cases input <;> rfl
  simp only [dipInput]
  split
  · simp [dipHolds, runs, *]
  · rw [beginDip_power]
    simp [dipHolds, stopped, runs]

theorem dipInputsClear_dipHolds : dipHolds (dipInputsClear s).power = true := by
  cases on : s.power.dip <;> simp [dipHolds, dipInputsClear, on, runs]

/-- The settle timer runs out with both inputs inactive. -/
theorem endDip_dipKept (settling : runs s.power.settleTimer = true) : DipKept s (endDip s) := fun holds => by
  rw [endDip_power]
  simp only [dipHolds, settling, Bool.not_true, Bool.false_or, Bool.and_eq_true, Bool.not_eq_true'] at holds
  obtain ⟨_, ⟨_, crank⟩, lowv⟩ := holds
  simp [dipHolds, crank, lowv, runs]

end

/-- Every command keeps the dip with its inputs. -/
theorem exec_dipKept {c : Instr} {s t : State} (done : exec c s = .next t) : DipKept s t := by
  by_cases free : reachesPower c = false
  · obtain ⟨u, carried, ends⟩ := exec_ends c s
    cases carried.symm.trans done
    exact (ends.inputs free).dipKept
  have level : ∀ on, InputsKept s (setIgn on s) := fun _ => ⟨rfl, rfl, rfl, rfl⟩
  have drop : InputsKept s (dropHead s) := .of_only (dropHead_only s)
  cases c
  case standbySupplyUp crank lowv =>
    cases done
    exact .ite (.refl s) fun _ => by cases crank <;> cases lowv <;> rfl
  case standbySupplyLoss => cases done; exact .ite (fun _ => rfl) (.refl s)
  case settleEnd => cases done; exact .ite (InputsKept.dipKept ⟨rfl, rfl, rfl, rfl⟩) (.refl s)
  case loadComplete =>
    cases done
    exact .ite (.ite (completeLoad_inputs s).dipKept (failLoad_inputs s).dipKept) (.refl s)
  case listenEnd => cases done; exact .ite (endListen_inputs s).settled.dipKept (.refl s)
  case ignOn =>
    cases done
    unfold ignitionOn
    split
    · exact .refl s
    · exact (level true).dipKept
    · exact (level true).dipKept
    · exact ((level true).trans (startInto_inputs _ true)).settled.dipKept
    · exact ((level true).trans (wakeStart_inputs _ true)).settled.dipKept
  case ignOff =>
    cases done
    unfold ignitionOff
    split
    · exact .refl s
    · exact (level false).dipKept
    · exact (level false).dipKept
    · exact (level false).dipKept
    · exact ((level false).trans (enterWatch_inputs _)).settled.dipKept
  case sleepTimerExpiry =>
    cases done
    have asleep : InputsKept s (enterSleep s) := ⟨rfl, rfl, rfl, rfl⟩
    exact .ite asleep.settled.dipKept (.refl s)
  case wakePulseHeard =>
    cases done
    have line : InputsKept s (pulseOnLine s) := ⟨rfl, rfl, rfl, rfl⟩
    unfold pulseHeard
    split
    · exact .refl s
    · exact (line.trans (wakeStart_inputs _ _)).settled.dipKept
    all_goals exact line.dipKept
  case keyWake key =>
    cases done
    exact .ite (keyWakes_inputs s key).settled.dipKept (.refl s)
  case supplyDipBegin input =>
    cases done
    exact .ite (DipKept.settled fun _ => dipInput_dipHolds s input) (.refl s)
  case dipInputsClear => cases done; exact .ite (fun _ => dipInputsClear_dipHolds s) (.refl s)
  case supplyDipEnd =>
    cases done
    split
    · exact (endDip_dipKept s ‹_›).settled
    · exact .refl s
  case restartRequestWarmRestart =>
    cases done
    split
    · exact (drop.trans (warmRestart_inputs _)).settled.dipKept
    · exact .refl s
  case reportArrival kind frame =>
    cases done
    exact (hearFrame_inputs s (offerReport_only kind frame) _ frame (by cases kind <;> decide)).settled.dipKept
  case rollCall frame => cases done; exact (hearFrame_inputs s (offerOwned_only .presence) _ frame).dipKept
  case presence frame => cases done; exact (hearFrame_inputs s (heardPresence_only frame) _ frame).dipKept
  case otherFrameHeard kind target frame =>
    cases done
    exact .ite (hearFrame_inputs s (fun t => .refl [] t) _ frame).dipKept (.refl s)
  case addressedFrameAnswer kind frame =>
    cases done
    exact (hearFrame_inputs s (answerHeard_only kind frame) _ frame).dipKept
  case busyPollRetry answer => cases done; exact (answerOperation_inputs s answer).settled.dipKept
  all_goals exact absurd rfl free

theorem step_dipKept {s t : State} (stepped : step s = .next t) : DipKept s t := by
  unfold step at stepped
  split at stepped
  · cases stepped
    exact InputsKept.dipKept ⟨rfl, rfl, rfl, rfl⟩
  · have kept := exec_dipKept stepped
    exact kept

end Sys2Proof.Machine

open Sys2Proof Sys2Proof.Machine

/-- Settles O4: a command ends with `settled`, which makes the timer and the image current, or it leaves all that they
read; out of RUN and WATCH they are at rest. -/
theorem sleepTimerAndImageStayCurrent : Obligations.SleepTimerAndImageStayCurrent :=
  ⟨fun _ _ current stepped => step_currentKept stepped current, fun s => ⟨settled_from s,
    fun watch idle _ on => settled_sleepTimer_kept watch idle on, settled_sleepTimer_starts, settled_changed_sends,
    settled_changed_waits⟩⟩

/-- Settles O13: only an input's change and the settle timer's expiry change the dip, its inputs or the settle timer in
a powered part, and each leads to a dip that goes with its inputs. -/
theorem dipStaysWithItsInputs : Obligations.DipStaysWithItsInputs :=
  fun _ _ holds stepped => step_dipKept stepped holds

/-- Settles O2: a command's own effect lies in its blocks and is nothing where its event cannot occur. -/
theorem everyCommandKeepsToItsBlocks : Obligations.EveryCommandKeepsToItsBlocks := fun c s => by
  obtain ⟨t, carried, ends⟩ := exec_ends c s
  exact ⟨t, carried, ends.only, ends.still⟩
end
section
/-! PROOFS. The state of reset and the ends of the supply: the statements about the bounds that reset meets (O5), about
the supply (O17) and about the entry to SLEEP (O24). -/

namespace Sys2Proof.Machine

/-! ### The supply -/

theorem exec_standbySupplyUp {s : State} (down : s.power.mode = .offline) (crank lowv : Bool) :
    exec (.standbySupplyUp crank lowv) s = .next (coldStart crank lowv s) := by
  have off : ¬ powered s = true := by simp [powered, down]
  exact congrArg Host.Outcome.next (if_neg off)

theorem exec_standbySupplyLoss {s : State} (up : s.power.mode ≠ .offline) (cut : Option Word) :
    exec (.standbySupplyLoss cut) s = .next (supplyLost cut s) := by
  have on : powered s = true := by simp [powered, up]
  exact congrArg Host.Outcome.next (if_pos on)

/-- A cut memory reads as before but for the word that was being stored. -/
theorem readWord_cutMemory {cut : Option Word} {n : Nsp} (rises : memoryWf n.memory = true) (a : Nat) :
    readWord (cutMemory cut n) a = match n.storing, cut with
      | some b, some v => if a = b % 128 then v else readWord n.memory a
      | _, _ => readWord n.memory a := by
  unfold cutMemory
  cases n.storing with
  | none => rfl
  | some b =>
    cases cut with
    | none => rfl
    | some v => exact readWord_writeWord rises

/-! ### The entry to SLEEP -/

/-- Out of WATCH the end of a command starts no sleep timer. -/
theorem settled_power_of_mode {s : State} (mode : s.power.mode ≠ .watch) (off : s.power.sleepTimer = none) :
    (settled s).power = s.power := by
  obtain ⟨rest, sleep, _⟩ := settled_from s
  have stopped : (settled s).power.sleepTimer = none := timer_stopped (by rw [sleep]; simp [mode])
  have power := congrArg State.power rest
  rw [stopped, ← off] at power
  exact power

/-- The brightness reads the BODY LAMPS entry but for its stale timer. -/
theorem brightness_congr {s t : State} {x : Timer}
    (lamps : entryIn t .bodyLamps = { entryIn s .bodyLamps with staleTimer := x }) : brightness t = brightness s := by
  unfold brightness headlampsOn freshSlot fresh
  rw [lamps]

theorem entryIn_enterSleep (s : State) (k : ReportKind) :
    entryIn (enterSleep s) k = { entryIn s k with staleTimer := none } :=
  entryOf_mapEntries (fun _ e => { e with staleTimer := none }) s.bus k

theorem roster_enterSleep (s : State) : ∀ r ∈ (enterSleep s).bus.roster, r.timer = none := fun r inside => by
  obtain ⟨_, _, rfl⟩ := List.mem_map.mp inside
  rfl

/-- An entry of a quiet Warning Unit is IDLE, whatever its number. -/
theorem warnEntry_of_cleared {s : State} (cleared : s.warn.entries = List.replicate 24 .clear) (n : Nat) :
    warnEntry s n = .clear := by
  unfold warnEntry
  rw [cleared]
  split
  · rw [List.getD_eq_getElem?_getD, List.getElem?_replicate]
    split <;> rfl
  · rfl

/-- In SLEEP the image is dark, and the end of the entry composes it so. -/
theorem settled_enterSleep_image (s : State) : (settled (enterSleep s)).disp.image
    = { chars := blankChars, brightness := brightness s, lit := false } := by
  have dark := composeImage_quiet (settled (enterSleep s)) (by simp [awake, enterSleep])
  have lamps : entryIn (settled (enterSleep s)) .bodyLamps = { entryIn s .bodyLamps with staleTimer := none } := by
    simp only [entryIn, settled_bus]
    exact entryIn_enterSleep s .bodyLamps
  rw [(settled_from (enterSleep s)).image, dark, brightness_congr lamps]

end Sys2Proof.Machine

open Sys2Proof Sys2Proof.Machine

/-- Settles O5: every queue and set is empty, every timer stopped, and every figure at its least. -/
theorem resetMeetsEveryBound : Obligations.ResetMeetsEveryBound := by
  refine ⟨rfl, rfl, ?_, rfl, rfl, rfl, rfl, rfl, rfl, rfl, rfl, rfl, rfl, rfl⟩
  decide

/-- Settles O17: a cold start and the end of the state write every block out; a word being stored may be cut. -/
theorem supplyBeginsAndEndsTheState : Obligations.SupplyBeginsAndEndsTheState :=
  ⟨fun crank lowv _ down => exec_standbySupplyUp down crank lowv, fun cut s up rises =>
    ⟨cutMemory cut s.nsp, exec_standbySupplyLoss up cut, memoryWf_cutMemory cut s.nsp rises,
      readWord_cutMemory rises⟩⟩

/-- Settles O24: the entry to SLEEP writes every block's table out, and its end adds the dark image alone. -/
theorem sleepEntryQuietsThePart : Obligations.SleepEntryQuietsThePart := fun s watch running => by
  have due : (s.power.mode = .watch && runs s.power.sleepTimer) = true := by
    simp [watch, runs, Option.isSome_iff_ne_none.mpr running]
  have power : (settled (enterSleep s)).power = (enterSleep s).power :=
    settled_power_of_mode (by simp [enterSleep]) rfl
  have only : OnlyIn (mayChange .sleepTimerExpiry) s (settled (enterSleep s)) :=
    ((enterSleep_only s).mono (by decide)).settled (by decide) (by decide)
  have bus : (settled (enterSleep s)).bus = (enterSleep s).bus := settled_bus _
  have warn : (settled (enterSleep s)).warn = quietWarn s.warn.engineEst s.warn := settled_warn _
  have trip := settled_trip (enterSleep s)
  have port : (settled (enterSleep s)).port = sleepPort s.port := settled_port _
  exact ⟨settled (enterSleep s), congrArg Host.Outcome.next (if_pos due), power, settled_gauges _,
    warnEntry_of_cleared (congrArg Warn.entries warn), (congrArg Warn.gateSpeed warn :),
    (congrArg Warn.engineEst warn :), congrArg Warn.evalTimer warn, congrArg Warn.flashTimer warn,
    congrArg Chime.requests (settled_chime _),
    congrArg Messages.queue (settled_msg _), congrArg Port.intake port, congrArg Port.queue port,
    (congrArg Port.sending port :), fun k => by rw [entryIn, bus]; exact entryIn_enterSleep s k,
    by rw [bus]; exact roster_enterSleep s, congrArg Bus.mirrorTimer bus, congrArg Fuel.corrTimer (settled_fuel _),
    congrArg TripComputer.samplerTimer trip, congrArg TripComputer.tripSecondTimer trip, settled_keys _,
    settled_enterSleep_image s, only⟩
end
section
/-! PROOFS. Changes of power state: the departure of posts behind a closed gate (07 R116), a judging of the gates that
finds every entry IDLE, the offer of the odometer, and the statements about the end of LISTEN (O21) and about IGN on
(O22) and off (O23). -/

namespace Sys2Proof.Machine

theorem exec_only {c : Instr} {s t : State} (done : exec c s = .next t) : OnlyIn (mayChange c) s t := by
  obtain ⟨u, carried, ends⟩ := exec_ends c s
  cases carried.symm.trans done
  exact ends.only

/-! ### The departure of posts -/

/-- The blocks that an entry's return to IDLE reaches. -/
def idleBlocks : List Block := [.fuel, .warn, .chime, .msg, .disp, .port]

/-- Records have left the queue and a selection may have followed: no new origin is queued, set mode is at most left,
and the display timer is at most started afresh in WATCH. -/
structure Departed (s t : State) : Prop where
  mode : t.power.mode = s.power.mode
  now : t.now = s.now
  origins : queuedOrigins t ⊆ queuedOrigins s
  setMode : s.disp.setMode = .none → t.disp.setMode = .none
  timer : t.disp.displayTimer = s.disp.displayTimer
    ∨ s.power.mode = .watch ∧ t.disp.displayTimer = some (s.now + 30000)

section
variable {s t u : State}

theorem Departed.refl (s : State) : Departed s s := ⟨rfl, rfl, List.Subset.refl _, id, .inl rfl⟩

theorem Departed.trans (h : Departed s t) (k : Departed t u) : Departed s u := by
  refine ⟨k.mode.trans h.mode, k.now.trans h.now, List.Subset.trans k.origins h.origins, k.setMode ∘ h.setMode, ?_⟩
  obtain same | ⟨watch, started⟩ := k.timer
  · rw [same]
    exact h.timer
  · rw [h.mode] at watch
    rw [h.now] at started
    exact .inr ⟨watch, started⟩

theorem Departed.ite {c : Prop} [Decidable c] (h : Departed s t) (k : Departed s u) :
    Departed s (if c then t else u) := by
  split <;> assumption

theorem Departed.foldl {α : Type} {f : State → α → State} (h : ∀ t a, Departed t (f t a)) :
    ∀ (l : List α) (s : State), Departed s (l.foldl f s)
  | [], s => .refl s
  | a :: rest, s => (h s a).trans (Departed.foldl h rest (f s a))

/-- The blocks that the relation does not read. -/
def departFree : Block → Bool
  | .power | .msg | .disp => false
  | _ => true

theorem Departed.of_only {bs : List Block} (only : OnlyIn bs s t) (free : bs.all departFree = true) :
    Departed s t := by
  have out : ∀ b, departFree b = false → b ∉ bs := fun b held inside => by
    simp [List.all_eq_true.mp free b inside] at held
  refine ⟨by rw [only.power (out _ rfl)], only.now, ?_, ?_, .inl (by rw [only.disp (out _ rfl)])⟩
  · rw [queuedOrigins, only.msg (out _ rfl)]
    exact List.Subset.refl _
  · rw [only.disp (out _ rfl)]
    exact id

end

theorem wakeDisplay_departed (s : State) : Departed s (wakeDisplay s) := by
  unfold wakeDisplay
  split
  · exact ⟨rfl, rfl, List.Subset.refl _, id, .inr ⟨‹_›, rfl⟩⟩
  · exact .refl s

theorem becomeShowing_departed (r : MsgRecord) (s : State) : Departed s (becomeShowing r s) := by
  unfold becomeShowing
  refine Departed.trans ?_ (wakeDisplay_departed _)
  refine ⟨rfl, rfl, fun o listed => ?_, fun _ => rfl, .inl rfl⟩
  obtain ⟨x, here, rfl⟩ := List.mem_map.mp listed
  obtain ⟨y, there, rfl⟩ := List.mem_map.mp here
  exact List.mem_map.mpr ⟨y, there, by split <;> rfl⟩

theorem select_departed (s : State) : Departed s (select s) := by
  have waiting : Departed s (backToWaiting s) := by
    refine ⟨rfl, rfl, fun o listed => ?_, id, .inl rfl⟩
    obtain ⟨x, here, rfl⟩ := List.mem_map.mp listed
    obtain ⟨y, there, rfl⟩ := List.mem_map.mp here
    exact List.mem_map.mpr ⟨y, there, by split <;> rfl⟩
  unfold select
  split
  · exact becomeShowing_departed _ s
  · exact .ite (waiting.trans (becomeShowing_departed _ _)) (.refl s)
  · exact .refl s

theorem removeRecord_departed (o : MsgOrigin) (s : State) : Departed s (removeRecord o s) := by
  have dropped : Departed s (dropRecord o s) := by
    refine ⟨rfl, rfl, fun a listed => ?_, id, .inl rfl⟩
    obtain ⟨x, here, rfl⟩ := List.mem_map.mp listed
    exact List.mem_map_of_mem (List.mem_of_mem_filter here)
  exact .ite (dropped.trans (select_departed _)) (.refl s)

theorem enterIdle_departed (n : Nat) (s : State) : Departed s (enterIdle n s) :=
  ((Departed.of_only (changeWarn_only n _ s) rfl).trans (.of_only (withdrawChime_only _ _) rfl)).trans
    (removeRecord_departed _ _)

theorem applyGates_departed (s : State) : Departed s (applyGates s) :=
  .foldl (fun t n => .ite (enterIdle_departed n t) (.refl t)) warnNumbers s

theorem endReminders_departed (s : State) : Departed s (endReminders s) :=
  (Departed.of_only (only_service s _) rfl).trans (removeRecord_departed _ _)

/-! ### The gates judged -/

theorem applyGates_idleBlocks (s : State) : OnlyIn idleBlocks s (applyGates s) := by
  have entered : ∀ t n, OnlyIn idleBlocks t (enterIdle n t) := fun t n =>
    (((changeWarn_only n _ t).mono (by decide)).trans ((withdrawChime_only _ _).mono (by decide))).trans
      ((removeRecord_only _ _).mono (by decide))
  exact .foldl (fun t n => .ite (entered t n) (.refl _ t)) warnNumbers s

theorem warn_of_unitOf {v w : Warn} (same : unitOf v = unitOf w) :
    v = { w with entries := v.entries, review := v.review, reviewTimer := v.reviewTimer } := by
  cases v
  cases w
  simp_all [unitOf]

theorem provingTimer_of_unitOf {v w : Warn} (same : unitOf v = unitOf w) : v.provingTimer = w.provingTimer :=
  (congrArg Warn.provingTimer (warn_of_unitOf same) :)

theorem corrTimer_of_kept {s t : State} (kept : CountersKept s t) : t.fuel.corrTimer = s.fuel.corrTimer := by
  rw [kept.fuel]

/-- Where every entry is IDLE, a judging of the gates finds nothing to end. -/
theorem applyGates_of_idle {s : State} (idle : ∀ n ∈ warnNumbers, (warnEntry s n).status = .idle) :
    applyGates s = s := by
  have fixed : ∀ l : List Nat, (∀ n ∈ l, (warnEntry s n).status = .idle) → l.foldl gateEntry s = s := fun l => by
    induction l with
    | nil => exact fun _ => rfl
    | cons n rest ih =>
      intro quiet
      obtain ⟨head, tail⟩ := List.forall_mem_cons.mp quiet
      have left : gateEntry s n = s := by simp [gateEntry, head]
      rw [List.foldl_cons, left, ih tail]
  exact fixed warnNumbers idle

theorem gateTrue_starting {s : State} {x : StartStep} (starting : s.power.mode = .starting x) (g : Gate) :
    gateTrue s g = false := by
  cases g <;> simp [gateTrue, awake, runGate, starting]

/-- In STARTING every gate is false, so every entry is IDLE. -/
theorem idle_of_starting {s : State} {x : StartStep} (starting : s.power.mode = .starting x)
    (hold : gatesHold s = true) : ∀ n ∈ warnNumbers, (warnEntry s n).status = .idle := fun n listed => by
  have entry := List.all_eq_true.mp hold n listed
  simpa [gateTrue_starting starting] using entry

/-- `t` is `s` with the gates judged, at the end of a command. -/
structure GatesEnded (s t : State) : Prop where
  only : OnlyIn (.power :: idleBlocks) s t
  warn : t.warn = { s.warn with
    entries := t.warn.entries, review := t.warn.review, reviewTimer := t.warn.reviewTimer }
  fuel : t.fuel = { s.fuel with stopTimer := t.fuel.stopTimer }
  setMode : s.disp.setMode = .none → t.disp.setMode = .none
  timer : t.disp.displayTimer = s.disp.displayTimer
    ∨ s.power.mode = .watch ∧ t.disp.displayTimer = some (s.now + 30000)
  power : s.power.mode ≠ .watch → s.power.sleepTimer = none → t.power = s.power
  gates : gatesHold t = true

theorem gatesEnded (s : State) : GatesEnded s (settled (applyGates s)) := by
  have only := applyGates_idleBlocks s
  have departed := applyGates_departed s
  have power := only.power (by decide)
  constructor
  case only => exact (only.mono (by decide)).settled (by decide) (by decide)
  case warn => rw [settled_warn]; exact warn_of_unitOf (applyGates_entries s).unit
  case fuel => rw [settled_fuel]; exact (applyGates_kept s).fuel
  case setMode => rw [settled_setMode]; exact departed.setMode
  case timer => rw [settled_displayTimer]; exact departed.timer
  case power =>
    intro mode off
    rw [settled_power_of_mode (by rwa [power]) (by rwa [power]), power]
  case gates => exact GatesKept.settled (.refl _) (gatesHold_applyGates s)

/-! ### Entering RUN and WATCH -/

section
variable (s : State)

theorem channelOf_runBegun (g : Gauge) :
    channelOf (runBegun s).gauges g = { channelOf s.gauges g with mode := .track, holdCount := 0 } :=
  channelOf_mapChannels (fun _ c => { c with mode := .track, holdCount := 0 }) s.gauges g

theorem channelOf_gathering (g : Gauge) :
    channelOf (gaugesGathering s) g = { channelOf s.gauges g with mode := .park, holdCount := 0 } :=
  channelOf_mapChannels (fun _ c => { c with mode := .park, holdCount := 0 }) s.gauges g

theorem channelOf_parking (g : Gauge) :
    channelOf (gaugesParking s) g = { channelOf s.gauges g with mode := .park, holdCount := 0 } :=
  channelOf_mapChannels (fun _ c => { c with mode := .park, holdCount := 0 }) s.gauges g

end

/-- The state that a start enters, where every entry is IDLE. -/
def started (toRun : Bool) (s : State) : State := if toRun then runBegun s else watchBegun (gaugesGathering s) s

theorem startInto_of_idle {s : State} (idle : ∀ n ∈ warnNumbers, (warnEntry s n).status = .idle) (toRun : Bool) :
    startInto toRun s = started toRun s := by
  have kept : ∀ t, t.warn.entries = s.warn.entries → applyGates t = t := fun t same =>
    applyGates_of_idle fun n listed => by
      rw [warnEntry_congr same]
      exact idle n listed
  cases toRun
  · exact kept (watchBegun (gaugesGathering s) s) rfl
  · exact kept (runBegun s) rfl

section
variable (toRun : Bool) (s : State)

theorem started_power : (started toRun s).power
    = { s.power with mode := if toRun then .run else .watch, sleepTimer := none } := by
  cases toRun <;> rfl

theorem started_port : (started toRun s).port = s.port := by cases toRun <;> rfl

theorem started_straps : (started toRun s).straps = s.straps := by cases toRun <;> rfl

theorem started_awake : awake (started toRun s) = true := by cases toRun <;> rfl

theorem started_coilOn : (started toRun s).gauges.coilOn = true := by cases toRun <;> rfl

theorem channelOf_started (g : Gauge) : channelOf (started toRun s).gauges g
    = { channelOf s.gauges g with mode := if toRun then .track else .park, holdCount := 0 } := by
  cases toRun
  · exact channelOf_gathering s g
  · exact channelOf_runBegun s g

theorem started_warn : (started toRun s).warn = warnAtChange s (if toRun then some (s.now + 3000) else none) := by
  cases toRun <;> rfl

theorem started_disp : (started toRun s).disp = dispAtChange s.disp (if toRun then none else some (s.now + 30000)) := by
  cases toRun <;> rfl

end

/-! ### The PRESENCE of a start -/

/-- `t` is `s` with the part's PRESENCE offered, at the end of a command. -/
structure PresenceEnded (s t : State) : Prop where
  only : OnlyIn [.power, .disp, .port] s t
  power : t.power = { s.power with sleepTimer := t.power.sleepTimer }
  timer : t.disp.displayTimer = s.disp.displayTimer
  readout : t.disp.readout = s.disp.readout
  port : t.port = (offerOwned .presence s).port

theorem settled_power_but (s : State) :
    (settled s).power = { s.power with sleepTimer := (settled s).power.sleepTimer } :=
  congrArg State.power (settled_from s).rest

theorem presenceEnded (s : State) : PresenceEnded s (settled (offerOwned .presence s)) := by
  have offer := offerOwned_only .presence s
  refine ⟨(offer.mono (by decide)).settled (by decide) (by decide), ?_, ?_, ?_, settled_port _⟩
  · rw [settled_power_but, offer.power (by decide)]
  · rw [settled_displayTimer, offer.disp (by decide)]
  · rw [settled_readout, offer.disp (by decide)]

/-! ### The end of LISTEN -/

/-- At the end of LISTEN no entry is out of IDLE. -/
theorem endListen_of_gates {s : State} {x : StartStep} (starting : s.power.mode = .starting x)
    (hold : gatesHold s = true) : endListen s = offerOwned .presence
      (started s.power.ignOn { s with power := { s.power with startTimer := none, lastStart := 0 } }) := by
  have idle := idle_of_starting starting hold
  have entered : ∀ p, startInto s.power.ignOn { s with power := p } = started s.power.ignOn { s with power := p } :=
    fun p => startInto_of_idle (s := { s with power := p }) idle _
  unfold endListen
  rw [entered]

/-- The PRESENCE is all that a part with an empty transmit queue sends, unless it is listen-only. -/
theorem offerPresence_alone {s : State} (up : awake s = true) (empty : s.port.queue = []) :
    (offerOwned .presence s).port.queue = if s.straps.address.isSome
      then [joined .presence 0 [numSlot s.power.lastStart] s.port.nextOrder] else [] := by
  by_cases named : s.straps.address.isSome = true
  · have may : mayQueue s = true := by simp [mayQueue, up, named]
    rw [if_pos named, (offerPresence_queue may).1 (by simp [empty]) (by simp [empty]), empty]
    rfl
  · have may : mayQueue s = false := by simp [mayQueue, named]
    rw [if_neg named, offerOwned_silent .presence may, empty]

/-! ### IGN on -/

theorem exec_ignOn_watch {s : State} (watch : s.power.mode = .watch) :
    exec .ignOn s = .next (settled (applyGates (runBegun (setIgn true s)))) := by
  have done : ignitionOn s = settled (enterRun (setIgn true s)) := by simp only [ignitionOn, watch]
  exact congrArg Host.Outcome.next done

theorem exec_ign_starting {s : State} {x : StartStep} (starting : s.power.mode = .starting x) :
    exec .ignOn s = .next (setIgn true s) ∧ exec .ignOff s = .next (setIgn false s) := by
  have on : ignitionOn s = setIgn true s := by simp only [ignitionOn, starting]
  have off : ignitionOff s = setIgn false s := by simp only [ignitionOff, starting]
  exact ⟨congrArg Host.Outcome.next on, congrArg Host.Outcome.next off⟩

/-! ### The odometer offered -/

/-- What no record but the odometer writes: the Trip Computer, the slot last written, and the reminder cursor. -/
def unofferedOf (s : State) : TripComputer × Nat × Option Nat := (s.trip, s.nsp.lastSlot, s.service.cursor)

theorem unofferedOf_eq_iff {s t : State} : unofferedOf t = unofferedOf s ↔
    t.trip = s.trip ∧ t.nsp.lastSlot = s.nsp.lastSlot ∧ t.service.cursor = s.service.cursor := by
  simp only [unofferedOf, Prod.mk.injEq]

theorem foldl_queueWord_lastSlot (words : List (Nat × Word)) (n : Nsp) :
    (words.foldl queueWord n).lastSlot = n.lastSlot := by
  induction words generalizing n with
  | nil => rfl
  | cons aw rest ih =>
    rw [List.foldl_cons, ih]
    unfold queueWord
    split <;> rfl

theorem kickWriter_unoffered (s : State) : unofferedOf (kickWriter s) = unofferedOf s := by
  unfold kickWriter
  split <;> rfl

theorem modifyItem_unoffered (i : Nat) (f : Item → Item) (s : State) :
    unofferedOf (modifyItem i f s) = unofferedOf s := by
  unfold modifyItem
  split <;> rfl

theorem offerRecord_unoffered {r : StoreRecord} (other : r ≠ .odometer) (s : State) :
    unofferedOf (offerRecord r s) = unofferedOf s := by
  rw [offerRecord, kickWriter_unoffered]
  rcases takeRecord_cases s r with ⟨_, _, _, _, taken⟩ | left
  · have words : unofferedOf { s with nsp := (recordWords s r).foldl queueWord s.nsp } = unofferedOf s := by
      simp only [unofferedOf, foldl_queueWord_lastSlot]
    rw [taken]
    cases r with
    | odometer => exact absurd rfl other
    | item i => exact (modifyItem_unoffered i _ _).trans words
    | _ => exact words
  · rw [left]

theorem markMoved_unoffered (s : State) (i : Nat) : unofferedOf (markMoved s i) = unofferedOf s := by
  have marked : unofferedOf (markItem i s) = unofferedOf s := by
    unfold markItem
    split
    · exact modifyItem_unoffered i _ s
    · exact (offerRecord_unoffered (by simp) _).trans (modifyItem_unoffered i _ s)
  unfold markMoved
  split
  · exact marked
  · rfl

theorem offerStores_unoffered (s : State) : unofferedOf (offerStores s) = unofferedOf (markOdometer s) := by
  have slot : unofferedOf (markOpenSlot (markOdometer s)) = unofferedOf (markOdometer s) :=
    offerRecord_unoffered (by simp) _
  unfold offerStores
  rw [foldl_keeps (p := unofferedOf) markMoved_unoffered]
  split
  · exact slot
  · rfl

/-- Both words of the odometer fit into a write queue of at most 14, and its offer is taken. -/
theorem markOdometer_taken {s : State} (free : storeOpen s = true) (room : s.nsp.queue.length ≤ 14) :
    (markOdometer s).trip.odoDirty = false ∧ (markOdometer s).nsp.lastSlot = (s.nsp.lastSlot + 1) % 8 := by
  let dirty : State := { s with trip := { s.trip with odoDirty := true } }
  have words : ((recordWords dirty .odometer).filter fun aw => !wordQueued aw.1 dirty.nsp.queue).length ≤ 2 :=
    List.length_filter_le _ (recordWords dirty .odometer)
  have fits : recordFits dirty .odometer = true := by
    refine decide_eq_true ?_
    have queue : dirty.nsp.queue.length ≤ 14 := room
    simp only [Config.writeCapacity]
    omega
  have taken : takeRecord dirty .odometer
      = markTaken .odometer { dirty with nsp := (recordWords dirty .odometer).foldl queueWord dirty.nsp } := by
    unfold takeRecord
    have opens : storeOpen dirty = true := free
    simp [opens, isDirty, heldBack, fits, dirty]
  have kept : unofferedOf (markOdometer s) = unofferedOf (takeRecord dirty .odometer) := kickWriter_unoffered _
  rw [taken] at kept
  simp only [unofferedOf, markTaken, nextSlot, foldl_queueWord_lastSlot, Prod.mk.injEq] at kept
  obtain ⟨trip, slot, _⟩ := kept
  exact ⟨by rw [trip], slot⟩

/-! ### IGN off in RUN -/

/-- The reminder cycle ended and the gates judged: what a change to WATCH does before its offers to the store. -/
def remindersQuieted (s : State) : State := applyGates (endReminders s)

section
variable (s : State)

theorem remindersQuieted_only : OnlyIn (.service :: idleBlocks) s (remindersQuieted s) :=
  ((endReminders_only s).mono (by decide)).trans ((applyGates_idleBlocks _).mono (by decide))

theorem remindersQuieted_departed : Departed s (remindersQuieted s) :=
  (endReminders_departed s).trans (applyGates_departed _)

theorem remindersQuieted_provingTimer : (remindersQuieted s).warn.provingTimer = s.warn.provingTimer := by
  have units := (applyGates_entries (endReminders s)).unit.trans (endReminders_entries s).unit
  exact provingTimer_of_unitOf units

theorem remindersQuieted_corrTimer : (remindersQuieted s).fuel.corrTimer = s.fuel.corrTimer :=
  corrTimer_of_kept ((endReminders_kept s).trans (applyGates_kept _))

theorem remindersQuieted_cursor : (remindersQuieted s).service.cursor = none := by
  have ended : (endReminders s).service.cursor = none := by
    rw [endReminders, (removeRecord_only _ _).service (by decide)]
  rw [remindersQuieted, (applyGates_idleBlocks _).service (by decide), ended]

theorem remindersQuieted_reminder : ∀ r ∈ (remindersQuieted s).msg.queue, r.origin ≠ .reminder := fun r here => by
  have listed : r.origin ∈ queuedOrigins (remindersQuieted s) := List.mem_map_of_mem here
  obtain ⟨x, there, same⟩ := List.mem_map.mp ((applyGates_departed _).origins listed)
  rw [← same]
  exact removeRecord_absent _ _ x there

end

theorem exec_ignOff_run {s : State} (run : s.power.mode = .run) : exec .ignOff s = .next (settled (offerStores
    (remindersQuieted (watchBegun (gaugesParking (setIgn false s)) (setIgn false s))))) := by
  have done : ignitionOff s = settled (enterWatch (setIgn false s)) := by simp only [ignitionOff, run]
  exact congrArg Host.Outcome.next done

theorem tripSecondTimer_offerStores (s : State) :
    (offerStores s).trip.tripSecondTimer = s.trip.tripSecondTimer := by
  obtain ⟨trip, _, _⟩ := unofferedOf_eq_iff.mp (offerStores_unoffered s)
  obtain ⟨dirty, marked⟩ := markOdometer_trip s
  rw [trip, marked]

theorem cursor_offerStores (s : State) : (offerStores s).service.cursor = s.service.cursor := by
  obtain ⟨_, _, cursor⟩ := unofferedOf_eq_iff.mp (offerStores_unoffered s)
  rw [cursor, (markOdometer_only_trip s).service (by decide)]

/-- `t` is `s`, WATCH as it begins, with the reminder cycle ended, the gates judged and the records offered, at the end
of a command. -/
structure WatchEnded (s t : State) : Prop where
  power : t.power = { s.power with sleepTimer := t.power.sleepTimer }
  gauges : t.gauges = s.gauges
  proving : t.warn.provingTimer = s.warn.provingTimer
  corrections : t.fuel.corrTimer = s.fuel.corrTimer
  seconds : t.trip.tripSecondTimer = s.trip.tripSecondTimer
  setMode : s.disp.setMode = .none → t.disp.setMode = .none
  timer : t.disp.displayTimer = s.disp.displayTimer
    ∨ s.power.mode = .watch ∧ t.disp.displayTimer = some (s.now + 30000)
  cursor : t.service.cursor = none
  reminder : ∀ r ∈ t.msg.queue, r.origin ≠ .reminder
  gates : gatesHold t = true
  odometer : storeOpen s = true → s.nsp.queue.length ≤ 14 →
    t.trip.odoDirty = false ∧ t.nsp.lastSlot = (s.nsp.lastSlot + 1) % 8

theorem watchEnded (s : State) : WatchEnded s (settled (offerStores (remindersQuieted s))) := by
  have quieted := remindersQuieted_only s
  have departed := remindersQuieted_departed s
  have offered := offerStores_only (remindersQuieted s)
  have power := (offered.power (by decide)).trans (quieted.power (by decide))
  constructor
  case power => rw [settled_power_but, power]
  case gauges => rw [settled_gauges, offered.gauges (by decide), quieted.gauges (by decide)]
  case proving => rw [settled_warn, offered.warn (by decide), remindersQuieted_provingTimer]
  case corrections => rw [settled_fuel, offered.fuel (by decide), remindersQuieted_corrTimer]
  case seconds => rw [settled_trip, tripSecondTimer_offerStores, quieted.trip (by decide)]
  case setMode => rw [settled_setMode, offered.disp (by decide)]; exact departed.setMode
  case timer => rw [settled_displayTimer, offered.disp (by decide)]; exact departed.timer
  case cursor => rw [settled_service, cursor_offerStores, remindersQuieted_cursor]
  case reminder => rw [settled_msg, offered.msg (by decide)]; exact remindersQuieted_reminder s
  case gates =>
    exact GatesKept.settled (.refl _) (GatesKept.of_free offered rfl (gatesHold_applyGates (endReminders s)))
  case odometer =>
    intro free room
    have nsp := quieted.nsp (by decide)
    have open_ : storeOpen (remindersQuieted s) = true := by
      unfold storeOpen receives
      rw [quieted.power (by decide)]
      exact free
    have taken := markOdometer_taken open_ (by rw [nsp]; exact room)
    obtain ⟨trip, slot, _⟩ := unofferedOf_eq_iff.mp (offerStores_unoffered (remindersQuieted s))
    rw [settled_trip, settled_nsp, trip, slot, ← nsp]
    exact taken

end Sys2Proof.Machine

open Sys2Proof Sys2Proof.Machine

/-- Settles O21: in STARTING no entry is out of IDLE, so the judging of the gates leaves the state that the start
enters, and its PRESENCE finds an empty queue. -/
theorem listenEndsInRunOrWatch : Obligations.ListenEndsInRunOrWatch := fun s listen hold empty => by
  have done : exec .listenEnd s = .next (settled (endListen s)) := congrArg Host.Outcome.next (if_pos listen)
  rw [endListen_of_gates listen hold] at done
  obtain ⟨only, power, timer, _, port⟩ := presenceEnded (started s.power.ignOn
    { s with power := { s.power with startTimer := none, lastStart := 0 } })
  rw [started_power] at power
  have gauges := only.gauges (by decide)
  have warn := (only.warn (by decide)).trans (started_warn _ _)
  refine ⟨_, done, (congrArg Power.mode power :), (congrArg Power.startTimer power :),
    (congrArg Power.lastStart power :), ?_, fun g => ?_, (congrArg Warn.evalTimer warn :),
    (congrArg Warn.provingTimer warn :), ?_, ?_, exec_only done⟩
  · rw [gauges, started_coilOn]
  · rw [gauges, channelOf_started]
  · rw [timer, started_disp]
    rfl
  · rw [port, offerPresence_alone (started_awake _ _) (by rw [started_port]; exact empty), started_straps, started_port,
      started_power]
    rfl

/-- Settles O22: the judging of the gates leaves what the change to RUN set, and its own withdrawals write neither
the unit's timers nor, out of WATCH, the display timer. -/
theorem ignitionOnEntersRun : Obligations.IgnitionOnEntersRun := by
  refine ⟨fun s watch => ?_, fun s x starting => exec_ign_starting starting⟩
  have done := exec_ignOn_watch watch
  obtain ⟨only, warn, fuel, setMode, timer, power, gates⟩ := gatesEnded (runBegun (setIgn true s))
  have gauges := only.gauges (by decide)
  have trip := only.trip (by decide)
  refine ⟨_, done, power nofun rfl, (congrArg Gauges.coilOn gauges :), (congrArg Gauges.coilOffTimer gauges :),
    fun g => ?_, (congrArg Warn.provingTimer warn :), (congrArg Warn.evalTimer warn :),
    (congrArg Warn.windowTimer warn :), (congrArg Warn.window warn :), (congrArg Warn.graceTimer warn :),
    (congrArg Warn.graceEnded warn :), (congrArg Fuel.corrTimer fuel :),
    (congrArg TripComputer.tripSecondTimer trip :), ?_, setMode rfl, gates, exec_only done⟩
  · exact (congrArg (channelOf · g) gauges).trans (channelOf_runBegun (setIgn true s) g)
  · exact timer.resolve_right fun ⟨in_watch, _⟩ => nomatch in_watch

/-- Settles O23: the parking, the timers and the ended cycle are those of WATCH as it begins; the gates' withdrawals
leave them, and the offers that follow write no more than the marks and the slot of the odometer. -/
theorem ignitionOffEntersWatch : Obligations.IgnitionOffEntersWatch := fun s run => by
  have done := exec_ignOff_run run
  have ended := watchEnded (watchBegun (gaugesParking (setIgn false s)) (setIgn false s))
  refine ⟨_, done, (congrArg Power.mode ended.power :), (congrArg Power.ignOn ended.power :),
    (congrArg Gauges.coilOn ended.gauges :), (congrArg Gauges.coilOffTimer ended.gauges :), fun g => ?_, ended.proving,
    ended.corrections, ended.seconds, ?_, ended.setMode rfl, ended.cursor, ended.reminder, ended.gates,
    ended.odometer ?_, exec_only done⟩
  · exact (congrArg (channelOf · g) ended.gauges).trans (channelOf_parking (setIgn false s) g)
  · exact ended.timer.elim id And.right
  · rfl
end
section
/-! PROOFS. Wake starts: what the blocks set for a wake start leave (01 TABLE 1-12, 03 TABLE 3-8, 10 TABLE 10-8), the
state that RUN or WATCH is entered from there, and the statements about the wake start (O25) and about the restart
requests (O27). -/

namespace Sys2Proof.Machine

/-! ### Offers leave the rest of the port -/

/-- The port but for its transmit queue and what its owners hold. -/
def unqueuedOf (p : Port) : Port := { p with queue := [], nextOrder := 0, owed := [] }

theorem txOffer_unqueued (id : FrameId) (slots : List Slot) (periodic : Bool) (p : Port) :
    unqueuedOf (txOffer id slots periodic p).2 = unqueuedOf p := by
  rcases txOffer_cases id slots periodic p with ⟨_, eq⟩ | ⟨_, _, eq⟩ | ⟨_, _, _, eq⟩ | ⟨_, _, _, _, eq⟩ |
    ⟨_, _, _, _, eq⟩ <;> rw [eq] <;> rfl

theorem offerOwned_unqueued (what : Reoffer) (s : State) :
    unqueuedOf (offerOwned what s).port = unqueuedOf s.port := by
  rcases offerOwned_cases what s with ⟨_, eq⟩ | ⟨_, _, eq⟩ | ⟨id, slots, _, _, _, eq⟩ | ⟨id, slots, _, _, _, eq⟩
  · rw [eq]
  · rw [eq]
    rfl
  · rw [eq]
    exact txOffer_unqueued id slots false s.port
  · rw [eq]
    exact txOffer_unqueued id slots false s.port

theorem unqueuedOf_iff {p q : Port} : unqueuedOf q = unqueuedOf p ↔
    q = { p with queue := q.queue, nextOrder := q.nextOrder, owed := q.owed } := by
  cases p
  cases q
  simp [unqueuedOf]

/-! ### The blocks of a wake start -/

section
variable (warm : Bool) (kind : Nat) (s : State)

/-- The chime set and the message queue emptied, with the port of a wake start. -/
def wakeQuieted : State := emptyMessages (emptyChimes { s with port := wakePort warm s.port })

theorem wakeQuieted_only : OnlyIn [.chime, .msg, .port] s (wakeQuieted warm s) :=
  (((only_port s _).mono (by decide)).trans ((emptyChimes_only _).mono (by decide))).trans
    ((emptyMessages_only _).mono (by decide))

theorem wakeQuieted_requests : (wakeQuieted warm s).chime.requests = [] :=
  congrArg Chime.requests (reportSource_chime _ _)

theorem wakeBlocks_power : (wakeBlocks warm kind s).power = { s.power with lastStart := kind, sleepTimer := none } := by
  change { (wakeQuieted warm s).power with lastStart := kind, sleepTimer := none } = _
  rw [(wakeQuieted_only warm s).power (by decide)]

theorem wakeBlocks_bus : (wakeBlocks warm kind s).bus = wakeBus s := by
  have quiet := wakeQuieted_only warm s
  have entry : wakeEntry (wakeQuieted warm s) = wakeEntry s := by
    funext k e
    simp only [wakeEntry, startFor, quiet.now]
  change wakeBus (wakeQuieted warm s) = _
  simp only [wakeBus, entry, quiet.bus (by decide)]

theorem wakeBlocks_fuel : (wakeBlocks warm kind s).fuel = wakeFuel s.fuel :=
  congrArg wakeFuel ((wakeQuieted_only warm s).fuel (by decide))

theorem wakeBlocks_trip : (wakeBlocks warm kind s).trip
    = { s.trip with ring := [], instant := none, tripSecondTimer := none, samplerTimer := none } := by
  change { (wakeQuieted warm s).trip with
    ring := [], instant := none, tripSecondTimer := none, samplerTimer := none } = _
  rw [(wakeQuieted_only warm s).trip (by decide)]

theorem wakeBlocks_readout : (wakeBlocks warm kind s).disp.readout = s.disp.readout :=
  (congrArg Display.readout ((wakeQuieted_only warm s).disp (by decide)) :)

theorem wakeBlocks_requests : (wakeBlocks warm kind s).chime.requests = [] := wakeQuieted_requests warm s

theorem wakeBlocks_records : (wakeBlocks warm kind s).msg.queue = [] := rfl

theorem wakeBlocks_idle : ∀ n ∈ warnNumbers, (warnEntry (wakeBlocks warm kind s) n).status = .idle := fun n _ => by
  rw [warnEntry_of_cleared rfl]
  rfl

theorem wakeBlocks_now : (wakeBlocks warm kind s).now = s.now := (wakeBlocks_only warm kind s).now

theorem wakeBlocks_straps : (wakeBlocks warm kind s).straps = s.straps :=
  (wakeBlocks_only warm kind s).straps (by decide)

theorem wakeBlocks_unqueued : unqueuedOf (wakeBlocks warm kind s).port = unqueuedOf (wakePort warm s.port) := by
  change unqueuedOf (emptyChimes { s with port := wakePort warm s.port }).port = _
  unfold emptyChimes reportSource
  split
  · rfl
  · exact offerOwned_unqueued _ _

/-- A part that may not queue reports no change of source. -/
theorem wakeBlocks_silent (may : mayQueue s = false) : (wakeBlocks warm kind s).port = wakePort warm s.port := by
  have silent : ∀ t, t.power = s.power → t.straps = s.straps → (offerOwned .chimeStatus t).port = t.port :=
    fun t power straps => by rw [offerOwned_silent .chimeStatus (by rw [mayQueue_congr power straps, may])]
  change (emptyChimes { s with port := wakePort warm s.port }).port = _
  unfold emptyChimes reportSource
  split
  · rfl
  · exact silent _ rfl rfl

end

/-! ### RUN or WATCH entered from the blocks of a wake start -/

/-- The state of RUN or WATCH that a wake start or a warm restart enters. -/
def restarted (warm : Bool) (kind : Nat) (toRun : Bool) (s : State) : State := started toRun (wakeBlocks warm kind s)

theorem startInto_wakeBlocks (warm : Bool) (kind : Nat) (toRun : Bool) (s : State) :
    startInto toRun (wakeBlocks warm kind s) = restarted warm kind toRun s :=
  startInto_of_idle (wakeBlocks_idle warm kind s) toRun

section
variable (toRun : Bool) (s : State)

theorem started_bus : (started toRun s).bus
    = { s.bus with mirrorTimer := keepOrStart s 500 s.bus.mirrorTimer } := by cases toRun <;> rfl

theorem started_fuel : (started toRun s).fuel
    = { s.fuel with corrTimer := if toRun then some (s.now + 1000) else none } := by cases toRun <;> rfl

theorem started_trip : (started toRun s).trip
    = { s.trip with tripSecondTimer := if toRun then some (s.now + 1000) else none,
                    samplerTimer := keepOrStart s 250 s.trip.samplerTimer } := by cases toRun <;> rfl

theorem started_readout : (started toRun s).disp.readout = s.disp.readout := by cases toRun <;> rfl

theorem started_chime : (started toRun s).chime = s.chime := by cases toRun <;> rfl

theorem started_msg : (started toRun s).msg = s.msg := by cases toRun <;> rfl

end

section
variable (warm : Bool) (kind : Nat) (toRun : Bool) (s : State)

theorem restarted_power : (restarted warm kind toRun s).power
    = { s.power with mode := if toRun then .run else .watch, sleepTimer := none, lastStart := kind } := by
  rw [restarted, started_power, wakeBlocks_power]

theorem restarted_bus : (restarted warm kind toRun s).bus = { wakeBus s with mirrorTimer := some (s.now + 500) } := by
  rw [restarted, started_bus, wakeBlocks_bus]
  simp [keepOrStart, wakeBus, runs, startFor, wakeBlocks_now]

theorem restarted_fuel : (restarted warm kind toRun s).fuel
    = { wakeFuel s.fuel with corrTimer := if toRun then some (s.now + 1000) else none } := by
  rw [restarted, started_fuel, wakeBlocks_fuel, wakeBlocks_now]

theorem restarted_trip : (restarted warm kind toRun s).trip = { s.trip with
    ring := [], instant := none, samplerTimer := some (s.now + 250)
    tripSecondTimer := if toRun then some (s.now + 1000) else none } := by
  rw [restarted, started_trip, wakeBlocks_trip]
  simp [keepOrStart, runs, startFor, wakeBlocks_now]

theorem restarted_readout : (restarted warm kind toRun s).disp.readout = s.disp.readout := by
  rw [restarted, started_readout, wakeBlocks_readout]

theorem restarted_requests : (restarted warm kind toRun s).chime.requests = [] := by
  rw [restarted, started_chime, wakeBlocks_requests]

theorem restarted_records : (restarted warm kind toRun s).msg.queue = [] := by
  rw [restarted, started_msg, wakeBlocks_records]

theorem restarted_straps : (restarted warm kind toRun s).straps = s.straps := by
  rw [restarted, started_straps, wakeBlocks_straps]

theorem restarted_port : (restarted warm kind toRun s).port = (wakeBlocks warm kind s).port := started_port toRun _

theorem restarted_awake : awake (restarted warm kind toRun s) = true := started_awake toRun _

/-- A bound entry is stale with its timer afresh, an unbound one is not (01 TABLE 1-12). -/
theorem entryOf_wakeBus (k : ReportKind) : entryOf (wakeBus s) k = if (entryIn s k).bound.isSome then
      { entryIn s k with stale := true, staleTimer := some (s.now + staleLimit k) }
    else { entryIn s k with stale := false, staleTimer := none } :=
  entryOf_mapEntries (wakeEntry s) s.bus k

theorem roster_wakeBus : ∀ r ∈ (wakeBus s).roster, r.status ≠ .live ∧ r.timer = none := fun r here => by
  obtain ⟨x, _, rfl⟩ := List.mem_map.mp here
  refine ⟨?_, rfl⟩
  by_cases live : x.status = .live <;> simp [wakeRoster, live]

theorem demands_wakeBus : ∀ d ∈ (wakeBus s).demands, d = .empty := fun d here => by
  obtain ⟨_, _, rfl⟩ := List.mem_map.mp here
  rfl

end

/-! ### The wake start from SLEEP -/

/-- `t` is as a wake start from `s` into RUN or WATCH leaves the part. -/
structure Woken (toRun : Bool) (s t : State) : Prop where
  mode : t.power.mode = if toRun then .run else .watch
  lastStart : t.power.lastStart = 1
  bus : t.bus = { wakeBus s with mirrorTimer := some (s.now + 500) }
  fuel : t.fuel = { wakeFuel s.fuel with corrTimer := if toRun then some (s.now + 1000) else none }
  requests : t.chime.requests = []
  records : t.msg.queue = []
  sentWhole : t.port.sentWhole = []
  faults : t.port.faultCount = 0
  queue : t.port.queue
    = if s.straps.address.isSome then [joined .presence 0 [some 1] s.port.nextOrder] else []

/-- RUN or WATCH entered, and the records marked in SLEEP offered, before the PRESENCE. -/
def restored (toRun : Bool) (s : State) : State := kickWriter (reofferAll (restarted false 1 toRun s))

theorem wakeStart_eq (toRun : Bool) (s : State) : wakeStart toRun s = offerOwned .presence (restored toRun s) := by
  unfold wakeStart restored
  rw [startInto_wakeBlocks]

theorem restored_only (toRun : Bool) (s : State) : OnlyIn storeBlocks (restarted false 1 toRun s) (restored toRun s) :=
  (reofferAll_only _).trans ((kickWriter_only _).mono (by decide))

theorem restored_power (toRun : Bool) (s : State) : (restored toRun s).power
    = { s.power with mode := if toRun then .run else .watch, sleepTimer := none, lastStart := 1 } :=
  ((restored_only toRun s).power (by decide)).trans (restarted_power false 1 toRun s)

theorem restored_awake (toRun : Bool) (s : State) : awake (restored toRun s) = true := by
  have mode := congrArg Power.mode (restored_power toRun s)
  cases toRun <;> simp [awake, mode]

theorem restored_port {s : State} (asleep : awake s = false) (toRun : Bool) :
    (restored toRun s).port = wakePort false s.port := by
  rw [(restored_only toRun s).port (by decide), restarted_port]
  exact wakeBlocks_silent false 1 s (by simp [mayQueue, asleep])

/-- Of the port, a wake start writes the PRESENCE alone beside what the table gives. -/
theorem wakeStart_port {s : State} (asleep : awake s = false) (toRun : Bool) :
    unqueuedOf (wakeStart toRun s).port = unqueuedOf (wakePort false s.port) := by
  rw [wakeStart_eq, offerOwned_unqueued, restored_port asleep]

theorem wakeStart_woken {s : State} (asleep : awake s = false) (toRun : Bool) : Woken toRun s (wakeStart toRun s) := by
  have stores := restored_only toRun s
  have offer := offerOwned_only .presence (restored toRun s)
  have power := restored_power toRun s
  have port := restored_port asleep toRun
  have line := unqueuedOf_iff.mp (wakeStart_port asleep toRun)
  rw [wakeStart_eq] at line ⊢
  constructor
  case mode => rw [offer.power (by decide), power]
  case lastStart => rw [offer.power (by decide), power]
  case bus => rw [offer.bus (by decide), stores.bus (by decide), restarted_bus]
  case fuel => rw [offer.fuel (by decide), stores.fuel (by decide), restarted_fuel]
  case requests => rw [offer.chime (by decide), stores.chime (by decide), restarted_requests]
  case records => rw [offer.msg (by decide), stores.msg (by decide), restarted_records]
  case sentWhole => rw [line]; rfl
  case faults => rw [line]; rfl
  case queue =>
    rw [offerPresence_alone (restored_awake toRun s) (by rw [port]; rfl), stores.straps (by decide), restarted_straps,
      port, power]
    rfl

/-- A wake pulse asked for and the line's hold stay through the start. -/
theorem wakeStart_wakeWanted {s : State} (asleep : awake s = false) (toRun : Bool) :
    (wakeStart toRun s).port.wakeWanted = s.port.wakeWanted ∧ (wakeStart toRun s).port.lineHeld = s.port.lineHeld := by
  rw [unqueuedOf_iff.mp (wakeStart_port asleep toRun)]
  exact ⟨rfl, rfl⟩

theorem Woken.settled {toRun : Bool} {s t : State} (h : Woken toRun s t) : Woken toRun s (settled t) := by
  have power := settled_power_but t
  exact ⟨by rw [settled_mode, h.mode], by rw [power, h.lastStart], by rw [settled_bus, h.bus],
    by rw [settled_fuel, h.fuel], by rw [settled_chime, h.requests], by rw [settled_msg, h.records],
    by rw [settled_port, h.sentWhole],
    by rw [settled_port, h.faults], by rw [settled_port, h.queue]⟩

/-- The level of IGN and the line are not among what a wake start reads. -/
theorem Woken.of_level {toRun : Bool} {s t : State} {on : Bool} (h : Woken toRun (setIgn on s) t) : Woken toRun s t :=
  ⟨h.mode, h.lastStart, h.bus, h.fuel, h.requests, h.records, h.sentWhole, h.faults, h.queue⟩

theorem Woken.of_pulse {toRun : Bool} {s t : State} (h : Woken toRun (pulseOnLine s) t) : Woken toRun s t :=
  ⟨h.mode, h.lastStart, h.bus, h.fuel, h.requests, h.records, h.sentWhole, h.faults, h.queue⟩

theorem keyWakes_beside (key : Key) (s : State) : OnlyIn [.port, .keys] (wakeStart false s) (keyWakes key s) := by
  constructor <;> simp [keyWakes]

theorem keyWakes_port (key : Key) (s : State) : (keyWakes key s).port
    = { (wakeStart false s).port with wakeWanted := s.straps.address.isSome } := by
  simp only [keyWakes, (wakeStart_only false s).straps (by decide)]

/-- The key that wakes asks for a wake pulse, and is the one whose press is the waking one. -/
theorem keyWakes_woken {s : State} (asleep : awake s = false) (key : Key) : Woken false s (keyWakes key s) := by
  have h := wakeStart_woken asleep false
  have beside := keyWakes_beside key s
  have port := keyWakes_port key s
  exact ⟨by rw [beside.power (by decide), h.mode], by rw [beside.power (by decide), h.lastStart],
    by rw [beside.bus (by decide), h.bus], by rw [beside.fuel (by decide), h.fuel],
    by rw [beside.chime (by decide), h.requests], by rw [beside.msg (by decide), h.records],
    by rw [port, h.sentWhole], by rw [port, h.faults], by rw [port, h.queue]⟩

/-- What the cause of a wake start leaves of the wake pulse and of the line. -/
structure LineWoken (s : State) (c : Instr) (t : State) : Prop where
  key : (∃ k, c = .keyWake k) → t.port.wakeWanted = s.straps.address.isSome
  ign : c = .ignOn → t.port.wakeWanted = s.port.wakeWanted
  pulse : c = .wakePulseHeard → t.port.wakeWanted = false ∧ t.port.lineHeld = true

theorem exec_wakes {s : State} {c : Instr} {toRun : Bool} (sleeping : s.power.mode = .sleep)
    (cause : (c = .ignOn ∧ toRun = true) ∨ (c = .wakePulseHeard ∧ toRun = s.power.ignOn)
      ∨ (∃ k, c = .keyWake k) ∧ toRun = false) :
    ∃ t, exec c s = .next t ∧ Woken toRun s t ∧ LineWoken s c t := by
  have asleep : awake s = false := by simp [awake, sleeping]
  obtain ⟨rfl, rfl⟩ | ⟨rfl, rfl⟩ | ⟨⟨key, rfl⟩, rfl⟩ := cause
  · have done : ignitionOn s = settled (wakeStart true (setIgn true s)) := by simp only [ignitionOn, sleeping]
    refine ⟨_, congrArg Host.Outcome.next done, ((wakeStart_woken (s := setIgn true s) asleep true).settled).of_level,
      nofun, fun _ => ?_, nofun⟩
    rw [settled_port]
    exact (wakeStart_wakeWanted (s := setIgn true s) asleep true).1
  · have done : pulseHeard s = settled (wakeStart s.power.ignOn (pulseOnLine s)) := by simp only [pulseHeard, sleeping]
    refine ⟨_, congrArg Host.Outcome.next done,
      ((wakeStart_woken (s := pulseOnLine s) asleep s.power.ignOn).settled).of_pulse, nofun, nofun, fun _ => ?_⟩
    rw [settled_port]
    exact wakeStart_wakeWanted (s := pulseOnLine s) asleep s.power.ignOn
  · refine ⟨_, congrArg Host.Outcome.next (if_pos sleeping), (keyWakes_woken asleep key).settled, fun _ => ?_, nofun,
      nofun⟩
    rw [settled_port, keyWakes_port]

/-! ### Offers to a queue with room -/

/-- With room the entries queued keep their places, and the offered frame takes one of them or joins at the end. -/
theorem txOffer_ids {p : Port} (room : p.queue.length < 8) (id : FrameId) (slots : List Slot) (periodic : Bool) :
    ∃ more, (txOffer id slots periodic p).2.queue.map (fun e => e.id) = p.queue.map (fun e => e.id) ++ more := by
  rcases txOffer_cases id slots periodic p with ⟨_, eq⟩ | ⟨_, _, eq⟩ | ⟨_, full, _⟩ | ⟨_, full, _⟩ | ⟨_, full, _⟩
  · refine ⟨[], ?_⟩
    rw [eq, List.append_nil, List.map_map]
    exact List.map_congr_left fun e _ => replaceTx_id id slots periodic e
  · exact ⟨[id], by rw [eq, List.map_append]; rfl⟩
  all_goals exact absurd room (Nat.not_lt.mpr full)

theorem offerOwned_ids {s : State} (room : s.port.queue.length < 8) (what : Reoffer) :
    ∃ more, (offerOwned what s).port.queue.map (fun e => e.id) = s.port.queue.map (fun e => e.id) ++ more := by
  rcases offerOwned_cases what s with ⟨_, eq⟩ | ⟨_, _, eq⟩ | ⟨id, slots, _, _, _, eq⟩ | ⟨id, slots, _, _, _, eq⟩
  · exact ⟨[], by rw [eq, List.append_nil]⟩
  · exact ⟨[], by rw [eq, List.append_nil]; rfl⟩
  · rw [eq]
    exact txOffer_ids room id slots false
  · rw [eq]
    exact txOffer_ids room id slots false

theorem reportSource_length (before after : State) :
    (reportSource before after).port.queue.length ≤ after.port.queue.length + 1 := by
  unfold reportSource
  split
  · exact Nat.le_succ _
  · exact offerOwned_length _ _

theorem emptyChimes_length (s : State) : (emptyChimes s).port.queue.length ≤ s.port.queue.length + 1 :=
  reportSource_length _ _

theorem reportSource_ids {before after : State} (room : after.port.queue.length < 8) : ∃ more,
    (reportSource before after).port.queue.map (fun e => e.id) = after.port.queue.map (fun e => e.id) ++ more := by
  unfold reportSource
  split
  · exact ⟨[], (List.append_nil _).symm⟩
  · exact offerOwned_ids room _

theorem emptyChimes_ids {s : State} (room : s.port.queue.length < 8) :
    ∃ more, (emptyChimes s).port.queue.map (fun e => e.id) = s.port.queue.map (fun e => e.id) ++ more := by
  unfold emptyChimes
  exact reportSource_ids room

/-! ### The roster refresh -/

/-- Report table, roster and demands as after a cold start, but for the held road speed (01 R19). -/
def rosterCleared (s : State) : State := { s with
  bus := { Bus.cold with heldSpeed := s.bus.heldSpeed, mirrorTimer := s.bus.mirrorTimer }
  fuel := { s.fuel with standTimer := none, standstill := false, pumpTimer := none, pumpLong := false }
  port := { s.port with owed := s.port.owed.filter (fun o => match o.1 with
    | .staleDemand _ => false
    | _ => true) } }

theorem rosterRefresh_eq (s : State) : rosterRefresh s = offerOwned .rollCall (hushChanged (rosterCleared s)) := rfl

theorem exec_rosterRefresh {s : State} {n : Nat} {rest : List IntakeEntry} (up : awake s = true)
    (intake : s.port.intake = ⟨n, .rosterRefresh⟩ :: rest) : exec .restartRequestRosterRefresh s
      = .next (settled (rosterRefresh { s with port := { s.port with intake := rest } })) := by
  have done : exec .restartRequestRosterRefresh s = execRestartRequestRosterRefresh s := rfl
  rw [done, execRestartRequestRosterRefresh, intakeHead_cons up intake, dropHead_cons intake]

/-- A roster refresh has the arbiter decide, and offers the ROLL CALL behind the CHIME STATUS it may bring. -/
theorem rosterRefresh_rollCall {s : State} (may : mayQueue s = true) (room : s.port.queue.length ≤ 6) :
    Carried (broadcastId .rollCall) [] (rosterRefresh s).port := by
  have decided := hushChanged_only (rosterCleared s)
  have length : (hushChanged (rosterCleared s)).port.queue.length ≤ s.port.queue.length + 1 := by
    refine (reportSource_length _ _).trans ?_
    rw [(arbiterDecide_only _).port (by decide)]
    exact Nat.le_refl _
  have speaks : mayQueue (hushChanged (rosterCleared s)) = true :=
    (mayQueue_congr (decided.power (by decide)) (decided.straps (by decide))).trans may
  rw [rosterRefresh_eq]
  exact offerOwned_carried speaks rfl (by omega)

theorem rosterRefresh_blocks (s : State) :
    (rosterRefresh s).bus = { Bus.cold with heldSpeed := s.bus.heldSpeed, mirrorTimer := s.bus.mirrorTimer }
      ∧ (rosterRefresh s).fuel
        = { s.fuel with standTimer := none, standstill := false, pumpTimer := none, pumpLong := false }
      ∧ (rosterRefresh s).power.mode = s.power.mode ∧ (rosterRefresh s).port.intake = s.port.intake := by
  have only : OnlyIn [.chime, .port] (rosterCleared s) (rosterRefresh s) :=
    (hushChanged_only (rosterCleared s)).trans ((offerOwned_only .rollCall _).mono (cs := [.chime, .port]) (by decide))
  exact ⟨only.bus (by decide), only.fuel (by decide), congrArg Power.mode (only.power (by decide)),
    rosterRefresh_intake s⟩

/-! ### The warm restart -/

theorem exec_warmRestart {s : State} {n : Nat} {rest : List IntakeEntry} (up : awake s = true)
    (intake : s.port.intake = ⟨n, .warmRestart⟩ :: rest) : exec .restartRequestWarmRestart s
      = .next (settled (warmRestart { s with port := { s.port with intake := rest } })) := by
  have done : exec .restartRequestWarmRestart s = execRestartRequestWarmRestart s := rfl
  rw [done, execRestartRequestWarmRestart, intakeHead_cons up intake, dropHead_cons intake]

/-- `t` is as a warm restart from `s` leaves the part, but for its transmit queue. -/
structure WarmRestarted (s t : State) : Prop where
  mode : t.power.mode = if s.power.ignOn then .run else .watch
  lastStart : t.power.lastStart = 2
  dip : t.power.dip = s.power.dip
  bus : t.bus = { wakeBus s with mirrorTimer := some (s.now + 500) }
  fuel : t.fuel = { wakeFuel s.fuel with corrTimer := if s.power.ignOn then some (s.now + 1000) else none }
  trip : t.trip = { s.trip with
    ring := [], instant := none, samplerTimer := some (s.now + 250)
    tripSecondTimer := if s.power.ignOn then some (s.now + 1000) else none }
  requests : t.chime.requests = []
  records : t.msg.queue = []
  readout : t.disp.readout = s.disp.readout

theorem warmRestart_eq (s : State) :
    warmRestart s = offerOwned .presence (restarted true 2 s.power.ignOn s) := by
  unfold warmRestart
  rw [startInto_wakeBlocks]

theorem warmRestart_restarted (s : State) : WarmRestarted s (settled (warmRestart s)) := by
  obtain ⟨only, power, _, readout, _⟩ := presenceEnded (restarted true 2 s.power.ignOn s)
  rw [restarted_power] at power
  rw [warmRestart_eq]
  constructor
  case mode => rw [power]
  case lastStart => rw [power]
  case dip => rw [power]
  case bus => rw [only.bus (by decide), restarted_bus]
  case fuel => rw [only.fuel (by decide), restarted_fuel]
  case trip => rw [only.trip (by decide), restarted_trip]
  case requests => rw [only.chime (by decide), restarted_requests]
  case records => rw [only.msg (by decide), restarted_records]
  case readout => rw [readout, restarted_readout]

section
variable {s : State}

/-- The emptied chime set may bring a CHIME STATUS, behind what the transmit queue holds. -/
theorem restarted_queue (room : s.port.queue.length ≤ 6) (kind : Nat) (toRun : Bool) :
    (restarted true kind toRun s).port.queue.length ≤ 7
      ∧ ∃ more, (restarted true kind toRun s).port.queue.map (fun e => e.id)
          = s.port.queue.map (fun e => e.id) ++ more := by
  have length := emptyChimes_length { s with port := wakePort true s.port }
  have ids := emptyChimes_ids (s := { s with port := wakePort true s.port }) (Nat.lt_of_le_of_lt room (by decide))
  rw [restarted_port]
  exact ⟨length.trans (Nat.succ_le_succ room), ids⟩

theorem restarted_mayQueue (named : s.straps.address.isSome = true) (warm : Bool) (kind : Nat) (toRun : Bool) :
    mayQueue (restarted warm kind toRun s) = true := by
  simp [mayQueue, restarted_awake, restarted_straps, named]

/-- The PRESENCE of a warm restart is queued behind what the transmit queue holds. -/
theorem warmRestart_presence (named : s.straps.address.isSome = true) (room : s.port.queue.length ≤ 6) :
    Carried (broadcastId .presence) [some 2] (warmRestart s).port
      ∧ ∃ more, (warmRestart s).port.queue.map (fun e => e.id) = s.port.queue.map (fun e => e.id) ++ more := by
  obtain ⟨length, status, ids⟩ := restarted_queue room 2 s.power.ignOn
  have frame : ownedFrame (restarted true 2 s.power.ignOn s) .presence = some (broadcastId .presence, [some 2]) := by
    simp only [ownedFrame, restarted_power]
    rfl
  obtain ⟨more, joined_⟩ := offerOwned_ids (s := restarted true 2 s.power.ignOn s) (by omega) .presence
  rw [warmRestart_eq]
  exact ⟨offerOwned_carried (restarted_mayQueue named true 2 _) frame (by omega),
    status ++ more, by rw [joined_, ids, List.append_assoc]⟩

theorem warmRestart_listenOnly (unnamed : s.straps.address = none) : (warmRestart s).port.queue = s.port.queue := by
  have before : mayQueue s = false := by simp [mayQueue, unnamed]
  have after : mayQueue (restarted true 2 s.power.ignOn s) = false := by simp [mayQueue, restarted_straps, unnamed]
  rw [warmRestart_eq, offerOwned_silent .presence after, restarted_port, wakeBlocks_silent true 2 s before]
  rfl

theorem warmRestart_emptied (s : State) : (warmRestart s).port.intake = [] ∧ (warmRestart s).port.sentWhole = [] := by
  have line := unqueuedOf_iff.mp ((offerOwned_unqueued .presence (restarted true 2 s.power.ignOn s)).trans
    ((congrArg unqueuedOf (restarted_port true 2 s.power.ignOn s)).trans (wakeBlocks_unqueued true 2 s)))
  rw [warmRestart_eq, line]
  exact ⟨rfl, rfl⟩

end

end Sys2Proof.Machine

open Sys2Proof Sys2Proof.Machine

/-- Settles O25: the three causes make one wake start, which enters RUN or WATCH with every entry IDLE and finds the
transmit queue empty. -/
theorem wakeStartLeavesSleep : Obligations.WakeStartLeavesSleep := fun s c toRun sleeping cause => by
  obtain ⟨t, done, woken, line⟩ := exec_wakes sleeping cause
  have only : OnlyIn startBlocks s t := by
    have ends := exec_only done
    obtain ⟨rfl, _⟩ | ⟨rfl, _⟩ | ⟨⟨key, rfl⟩, _⟩ := cause <;> exact ends
  have bus := woken.bus
  have fuel := woken.fuel
  refine ⟨t, done, woken.mode, woken.lastStart, fun k => ?_, ?_, ?_, ?_, (congrArg Fuel.mainRing fuel :),
    (congrArg Fuel.auxRing fuel :), (congrArg Fuel.snapPending fuel :), (congrArg Fuel.mainEst fuel :),
    (congrArg Fuel.auxEst fuel :), woken.requests, woken.records, woken.sentWhole, woken.faults, woken.queue, line.key,
    line.ign, line.pulse, only⟩
  · rw [entryIn, bus]
    exact entryOf_wakeBus s k
  · rw [bus]
    exact roster_wakeBus s
  · rw [bus]
    exact demands_wakeBus s
  · rw [bus]
    rfl

/-- Settles O27: both requests are taken from the intake queue; a refresh writes the cold tables out, and a warm restart
enters RUN or WATCH with every entry IDLE, and each offers its frame behind the CHIME STATUS it may bring. -/
theorem restartRequestsAreCarriedOut : Obligations.RestartRequestsAreCarriedOut := by
  refine ⟨fun s n rest up intake => ?_, fun s n rest up intake => ?_⟩
  · have done := exec_rosterRefresh up intake
    obtain ⟨bus, fuel, mode, left⟩ := rosterRefresh_blocks { s with port := { s.port with intake := rest } }
    refine ⟨_, done, ?_, ?_, ?_, ?_, fun named room => ?_, exec_only done⟩
    · rw [settled_bus, bus]
    · rw [settled_mode, mode]
    · rw [settled_port, left]
    · rw [settled_fuel, fuel]
    · have may : mayQueue s = true := by simp [mayQueue, up, named]
      obtain ⟨e, here, id, _⟩ := rosterRefresh_rollCall
        (s := { s with port := { s.port with intake := rest } }) may room
      rw [settled_port]
      exact ⟨e, here, id⟩
  · have done := exec_warmRestart up intake
    have after := warmRestart_restarted { s with port := { s.port with intake := rest } }
    obtain ⟨emptied, sentWhole⟩ := warmRestart_emptied { s with port := { s.port with intake := rest } }
    have bus := after.bus
    have fuel := after.fuel
    refine ⟨_, done, after.mode, after.lastStart, after.dip, fun k => ?_, ?_, ?_, ?_, after.requests, after.records,
      (congrArg Fuel.mainRing fuel :), (congrArg Fuel.auxRing fuel :), (congrArg Fuel.snapPending fuel :),
      (congrArg Fuel.mainEst fuel :), (congrArg Fuel.auxEst fuel :), (congrArg Fuel.residue fuel :),
      (congrArg Fuel.senderWatch fuel :), (congrArg Fuel.standstill fuel :), (congrArg Fuel.pumpLong fuel :),
      after.trip, after.readout, fun named room => ?_, fun unnamed => ?_, exec_only done⟩
    · rw [entryIn, bus]
      exact entryOf_wakeBus s k
    · rw [bus]
      exact demands_wakeBus s
    · rw [settled_port, emptied]
    · rw [settled_port, sentWhole]
    · rw [settled_port]
      exact warmRestart_presence (s := { s with port := { s.port with intake := rest } }) named room
    · rw [settled_port]
      exact warmRestart_listenOnly (s := { s with port := { s.port with intake := rest } }) unnamed
end
section
/-! PROOFS. The supply dip: the silence that its beginning brings and the withdrawals behind it keep (08 R137), the
arbiter's decision at its end (08 R132, R133), the write held back (11 R167), and the statement about the dip and its
inputs (12 R175; O26). -/

namespace Sys2Proof.Machine

/-! ### The silence of a dip -/

theorem soundingRequest_none_iff {s : State} :
    soundingRequest s = none ↔ ∀ r ∈ s.chime.requests, r.sounding = false := by
  simp [soundingRequest, List.find?_eq_none]

/-- A dip is in force and no request sounds. -/
structure SilentDip (s : State) : Prop where
  dip : s.power.dip = true
  silent : soundingRequest s = none

section
variable {s t : State}

theorem SilentDip.of_only {bs : List Block} (h : SilentDip s) (only : OnlyIn bs s t)
    (free : .power ∉ bs ∧ .chime ∉ bs := by decide) : SilentDip t :=
  ⟨by rw [only.power free.1]; exact h.dip, by rw [soundingRequest, only.chime free.2]; exact h.silent⟩

theorem arbiterDecide_asleep (barred : (awake s && !s.power.dip) = false) : arbiterDecide s = s :=
  if_neg (by rw [barred]; exact Bool.false_ne_true)

theorem removeRequest_silent (silent : soundingRequest s = none) (src : ChimeSource) :
    soundingRequest (removeRequest src s) = none := by
  have dark := soundingRequest_none_iff.mp silent
  have waits : sourceSounds src s = false := by simp [sourceSounds, soundingSource, silent]
  refine soundingRequest_none_iff.mpr fun r here => dark r ?_
  simp only [removeRequest, waits, Bool.false_eq_true, if_false] at here
  exact List.mem_of_mem_filter here

theorem withdrawChime_silentDip (h : SilentDip s) (src : ChimeSource) : SilentDip (withdrawChime src s) := by
  have removed : SilentDip (removeRequest src s) :=
    ⟨by rw [(removeRequest_only src s).power (by decide)]; exact h.dip, removeRequest_silent h.silent src⟩
  unfold withdrawChime
  split
  · rw [withArbiter, arbiterDecide_asleep (by simp [removed.dip])]
    exact removed.of_only (reportSource_only _ _)
  · exact h

theorem enterIdle_silentDip (h : SilentDip s) (n : Nat) : SilentDip (enterIdle n s) :=
  (withdrawChime_silentDip (h.of_only (changeWarn_only n _ s)) _).of_only (removeRecord_only _ _)

theorem applyGates_silentDip (h : SilentDip s) : SilentDip (applyGates s) := by
  have judged : ∀ (l : List Nat) (u : State), SilentDip u → SilentDip (l.foldl gateEntry u) := fun l => by
    induction l with
    | nil => exact fun _ quiet => quiet
    | cons n rest ih =>
      intro u quiet
      refine ih _ ?_
      unfold gateEntry
      split
      · exact enterIdle_silentDip quiet n
      · exact quiet
  exact judged warnNumbers s h

theorem beginDip_silentDip (s : State) : SilentDip (beginDip s) := by
  have released : SilentDip (releaseOutput { s with power := { s.power with dip := true } }) := by
    refine ⟨rfl, soundingRequest_none_iff.mpr fun r here => ?_⟩
    obtain ⟨_, _, rfl⟩ := List.mem_map.mp here
    rfl
  exact applyGates_silentDip ((released.of_only (reportSource_only _ _)).of_only (only_nsp _ _))

end

theorem soundingRequest_settled (s : State) : soundingRequest (settled s) = soundingRequest s := by
  simp only [soundingRequest, settled_chime]

/-! ### An input turns active -/

section
variable (input : DipInput) (s : State)

theorem setDipInput_dip : (setDipInput input s.power).dip = s.power.dip := by cases input <;> rfl

theorem dipInput_goesOn (dip : s.power.dip = true) :
    dipInput input s = { s with power := setDipInput input s.power } := by
  have on : (setDipInput input s.power).dip = true := (setDipInput_dip input s).trans dip
  simp only [dipInput, on, if_true]

theorem dipInput_begins (dip : s.power.dip = false) :
    dipInput input s = beginDip { s with power := setDipInput input s.power } := by
  have off : (setDipInput input s.power).dip = false := (setDipInput_dip input s).trans dip
  simp only [dipInput, off, Bool.false_eq_true, if_false]

theorem dipInput_power : (dipInput input s).power = { s.power with
    crank := s.power.crank || decide (input = .crank), lowv := s.power.lowv || decide (input = .lowv)
    dip := true, settleTimer := none } := by
  cases dip : s.power.dip with
  | true =>
    rw [dipInput_goesOn input s dip]
    cases input <;> simp [setDipInput, dip]
  | false =>
    rw [dipInput_begins input s dip, beginDip_power]
    cases input <;> simp [setDipInput]

end

/-- Within a dip a turn to active stops the settle timer, and the end of the command is all that follows. -/
theorem settled_from_power (s : State) (p : Power) :
    SettledFrom { s with power := (settled { s with power := p }).power } (settled { s with power := p }) := by
  obtain ⟨rest, sleep, image⟩ := settled_from { s with power := p }
  refine ⟨by rw [rest], ?_, image⟩
  have mode : (settled { s with power := p }).power.mode = p.mode := settled_mode _
  rw [sleep, mode]
  rfl

/-! ### The end of the dip -/

/-- Out of WATCH the end of a command leaves no sleep timer running. -/
theorem settled_power_stopped {s : State} (mode : s.power.mode ≠ .watch) :
    (settled s).power = { s.power with sleepTimer := none } := by
  obtain ⟨_, sleep, _⟩ := settled_from s
  have stopped : (settled s).power.sleepTimer = none := timer_stopped (by rw [sleep]; simp [mode])
  rw [settled_power_but, stopped]

theorem OnlyIn.eq_chime_port {s t : State} (only : OnlyIn [.chime, .port] s t) :
    t = { s with chime := t.chime, port := t.port } := by
  obtain ⟨pending, now, power, straps, faults, bus, gauges, fuel, trip, clock, journey, service, warn, _, msg, disp,
    keys, _, nsp⟩ := only
  cases t
  simp only [State.mk.injEq, true_and]
  exact ⟨pending, now, power (by decide), straps (by decide), faults (by decide), bus (by decide), gauges (by decide),
    fuel (by decide), trip (by decide), clock (by decide), journey (by decide), service (by decide), warn (by decide),
    msg (by decide), disp (by decide), keys (by decide), nsp (by decide)⟩

/-- The part out of the dip, before the arbiter decides. -/
def dipOver (s : State) : State := { s with power := { s.power with dip := false, settleTimer := none } }

/-- The part out of the dip with the arbiter's decision, before the write held back is begun. -/
def dipDecided (s : State) : State := withArbiter id (dipOver s)

section
variable (s : State)

theorem dipDecided_only : OnlyIn [.chime, .port] (dipOver s) (dipDecided s) :=
  withArbiter_only (fun t => .refl _ t) (dipOver s)

/-- The writer at the end of a dip: a head held back, and one that waits at an idle writer, is tried (11 R167). -/
theorem dipFreesWriter_eq (free : s.power.dip = false) : dipFreesWriter s = { s with nsp := { s.nsp with writer :=
    if s.nsp.writer = .held ∨ (s.nsp.writer = .idle ∧ s.nsp.queue ≠ [] ∧ receives s = true)
    then firstTry else s.nsp.writer } } := by
  split
  · rename_i due
    obtain held | ⟨idle, waiting, opens⟩ := due
    · simp only [dipFreesWriter, held]
    · have kicked : kickWriter s = { s with nsp := { s.nsp with writer := firstTry } } :=
        if_pos (by simp [idle, waiting, free, storeOpen, opens])
      simp only [dipFreesWriter, idle, kicked]
  · rename_i due
    obtain ⟨loose, still⟩ := not_or.mp due
    have rests : kickWriter s = s := if_neg fun kicked => still (by simpa [free, storeOpen, and_assoc] using kicked)
    unfold dipFreesWriter
    split
    · exact absurd ‹_› loose
    · exact rests

theorem endDip_eq : endDip s = { s with
    power := { s.power with dip := false, settleTimer := none }, chime := (dipDecided s).chime
    port := (dipDecided s).port
    nsp := { s.nsp with writer :=
      if s.nsp.writer = .held ∨ (s.nsp.writer = .idle ∧ s.nsp.queue ≠ [] ∧ receives s = true)
      then firstTry else s.nsp.writer } } := by
  have only := dipDecided_only s
  have decided := only.eq_chime_port
  have nsp : (dipDecided s).nsp = s.nsp := only.nsp (by decide)
  have power : (dipDecided s).power = (dipOver s).power := only.power (by decide)
  have mode : receives (dipDecided s) = receives s := by
    unfold receives
    rw [power]
    rfl
  change dipFreesWriter (dipDecided s) = _
  rw [dipFreesWriter_eq _ (by rw [power]; rfl), mode, nsp, decided]
  rfl

end

/-! ### The arbiter's decision -/

section
variable {s : State}

theorem startSounding_request {b : ChimeRequest} (silent : RequestsFit 0 s) (here : b ∈ s.chime.requests) :
    soundingRequest (startSounding b s) = some { b with sounding := true } := by
  cases found : soundingRequest (startSounding b s) with
  | none =>
    have dark := soundingRequest_none_iff.mp found _ (List.mem_map_of_mem here)
    simp at dark
  | some y =>
    obtain ⟨z, there, rfl⟩ := List.mem_map.mp (List.mem_of_find?_eq_some found)
    have sounds := List.find?_some found
    split at sounds
    case isTrue same => rw [if_pos same, List.inj_on_of_nodup_map silent.keys there here same]
    case isFalse => simp [Fits.not_marked silent there] at sounds

/-- Out of a dip, in RUN or WATCH, a silent set gives the output to the request that ranks highest (08 R133). -/
theorem arbiterDecide_starts (up : awake s = true) (free : s.power.dip = false) (fit : RequestsFit 1 s)
    (silent : soundingRequest s = none) : soundingRequest (arbiterDecide s)
      = (bestRequest (hush s) s.chime.requests).map (fun b => { b with sounding := true }) := by
  have decided : arbiterDecide s = startBest s := by simp [arbiterDecide, up, free, silent]
  rw [decided, startBest]
  cases best : bestRequest (hush s) s.chime.requests with
  | none => exact silent
  | some b => exact startSounding_request (fit.silent silent) (bestRequest_some best).1

/-- A request that starts is in the set, so it sounds. -/
theorem startBest_silent (silent : soundingRequest (startBest s) = none) :
    bestRequest (hush s) s.chime.requests = none := by
  cases best : bestRequest (hush s) s.chime.requests with
  | none => rfl
  | some b =>
    simp only [startBest, best] at silent
    have dark := soundingRequest_none_iff.mp silent _ (List.mem_map_of_mem (bestRequest_some best).1)
    simp at dark

/-- Where the arbiter leaves the set silent, no request may sound. -/
theorem arbiterDecide_silent (up : awake s = true) (free : s.power.dip = false)
    (silent : soundingRequest (arbiterDecide s) = none) : bestRequest (hush s) s.chime.requests = none := by
  cases sounding : soundingRequest s with
  | none =>
    have decided : arbiterDecide s = startBest s := by simp [arbiterDecide, up, free, sounding]
    exact startBest_silent (decided ▸ silent)
  | some r =>
    simp only [arbiterDecide, up, free, sounding, Bool.not_false, Bool.and_self, if_true] at silent
    split at silent
    · exact nomatch sounding.symm.trans silent
    · split at silent
      · have none_ := startBest_silent silent
        exact Option.map_eq_none_iff.mp ((bestRequest_map (f := fun r => { r with sounding := false })
          (fun _ => rfl) (fun _ => rfl) (hush s) s.chime.requests).symm.trans none_)
      · exact nomatch sounding.symm.trans silent

end

section
variable (s : State)

theorem dipDecided_chime : (dipDecided s).chime = (arbiterDecide (dipOver s)).chime := reportSource_chime _ _

theorem dipDecided_sounding : soundingRequest (dipDecided s) = soundingRequest (arbiterDecide (dipOver s)) := by
  rw [soundingRequest, dipDecided_chime]
  rfl

theorem dipDecided_asleep (asleep : awake s = false) : dipDecided s = dipOver s := by
  have rests : arbiterDecide (dipOver s) = dipOver s := arbiterDecide_asleep (s := dipOver s) (by
    have off : awake (dipOver s) = false := asleep
    simp [off])
  change reportSource (dipOver s) (arbiterDecide (dipOver s)) = _
  rw [rests]
  exact if_pos rfl

theorem dipDecided_unreported (same : soundingSource (dipDecided s) = soundingSource s) :
    (dipDecided s).port = s.port := by
  have kept : soundingSource (arbiterDecide (dipOver s)) = soundingSource (dipOver s) := by
    rw [soundingSource, ← dipDecided_sounding]
    exact same
  change (reportSource (dipOver s) (arbiterDecide (dipOver s))).port = _
  rw [reportSource, if_pos kept, (arbiterDecide_only _).port (by decide)]
  rfl

/-- A change of the source that sounds is reported by a CHIME STATUS, where the queue has room (08 R138). -/
theorem dipDecided_reported (differs : soundingSource (dipDecided s) ≠ soundingSource s)
    (named : s.straps.address.isSome = true) (room : s.port.queue.length < 8) :
    Carried (broadcastId .chimeStatus) (chimeStatusSlots (dipDecided s)) (dipDecided s).port := by
  have up : awake s = true := by
    by_contra asleep
    rw [dipDecided_asleep s (by simpa using asleep)] at differs
    exact differs rfl
  have changed : soundingSource (arbiterDecide (dipOver s)) ≠ soundingSource (dipOver s) := fun kept => by
    rw [soundingSource, ← dipDecided_sounding] at kept
    exact differs kept
  have decided := arbiterDecide_only (dipOver s)
  have may : mayQueue (arbiterDecide (dipOver s)) = true := by
    rw [mayQueue_congr (s := dipOver s) (decided.power (by decide)) (decided.straps (by decide))]
    have opens : awake (dipOver s) = true := up
    have addressed : (dipOver s).straps.address.isSome = true := named
    simp [mayQueue, opens, addressed]
  have offered : dipDecided s = offerOwned .chimeStatus (arbiterDecide (dipOver s)) := if_neg changed
  have slots : chimeStatusSlots (dipDecided s) = chimeStatusSlots (arbiterDecide (dipOver s)) := by
    simp only [chimeStatusSlots, dipDecided_sounding]
  rw [slots, offered]
  exact offerOwned_carried may rfl (by rw [decided.port (by decide)]; exact room)

end

/-! ### Who may sound, and who ranks before whom -/

/-- Hush holds the request back (08 R132). -/
def HeldBack (s : State) (r : ChimeRequest) : Prop := hush s = true ∧ (r.priority = 4 ∨ r.priority = 5)

theorem eligible_false_iff {s : State} {r : ChimeRequest} : eligible (hush s) r = false ↔ HeldBack s r := by
  simp [eligible, HeldBack, or_iff_not_imp_left]

theorem outranks_false_iff {a b : ChimeRequest} : outranks a b = false ↔
    b.priority < a.priority ∨ (b.priority = a.priority ∧ b.order ≤ a.order) := by
  simp only [outranks, Bool.or_eq_false_iff, Bool.and_eq_false_iff, decide_eq_false_iff_not]
  omega

/-- The figures of a request, but for whether it sounds. -/
def figuresOf (r : ChimeRequest) : ChimeSource × ChimePattern × Nat × Nat × Nat :=
  (r.source, r.pattern, r.priority, r.remaining, r.order)

theorem RequestsKept.figuresOf {s t : State} (kept : RequestsKept s t) :
    t.chime.requests.map Machine.figuresOf = s.chime.requests.map Machine.figuresOf := by
  have read : ∀ u : State, u.chime.requests.map Machine.figuresOf
      = (unsounded u.chime.requests).map Machine.figuresOf := fun u => by
    rw [unsounded, List.map_map]
    rfl
  rw [read t, read s, kept]

/-- What the output goes to where nothing sounded: the request that ranks highest of those that hush lets sound, and
nothing where hush holds all of them back (08 R133). -/
def SoundsFirst (s : State) : Option ChimeRequest → Prop
  | none => ∀ x ∈ s.chime.requests, HeldBack s x
  | some r => ¬ HeldBack s r ∧ ∀ x ∈ s.chime.requests, x.source = r.source ∨ HeldBack s x
      ∨ r.priority < x.priority ∨ (r.priority = x.priority ∧ r.order ≤ x.order)

theorem dipDecided_ranks {s : State} (up : awake s = true) (within : chimeSetWithin s.chime = true)
    (silent : soundingRequest s = none) : SoundsFirst s (soundingRequest (dipDecided s)) := by
  have started : soundingRequest (arbiterDecide (dipOver s))
      = (bestRequest (hush s) s.chime.requests).map (fun b => { b with sounding := true }) :=
    arbiterDecide_starts (s := dipOver s) up rfl (chimeSetWithin_iff.mp within) silent
  rw [dipDecided_sounding, started]
  cases best : bestRequest (hush s) s.chime.requests with
  | none => exact fun x here => eligible_false_iff.mp (bestRequest_none.mp best x here)
  | some b =>
    obtain ⟨_, may, first⟩ := bestRequest_some best
    refine ⟨fun held => ?_, fun x here => ?_⟩
    · have barred : eligible (hush s) b = false := eligible_false_iff.mpr held
      exact absurd may (by simp [barred])
    · cases barred : eligible (hush s) x with
      | false => exact .inr (.inl (eligible_false_iff.mp barred))
      | true => exact .inr (.inr (outranks_false_iff.mp (first x here barred)))

end Sys2Proof.Machine

open Sys2Proof Sys2Proof.Machine

/-- Settles O26: the withdrawals behind the ENGINE gate start nothing in a dip, and its end has the arbiter decide and
the writer freed. -/
theorem supplyDipFollowsItsInputs : Obligations.SupplyDipFollowsItsInputs := by
  refine ⟨fun input s up => ?_, fun s up dip active => ?_, fun s settling => ?_⟩
  · have done : exec (.supplyDipBegin input) s = .next (settled (dipInput input s)) :=
      congrArg Host.Outcome.next (if_pos (by simp [powered, up]))
    have power := settled_power_but (dipInput input s)
    rw [dipInput_power] at power
    refine ⟨_, done, (congrArg Power.dip power :), (congrArg Power.settleTimer power :), (congrArg Power.mode power :),
      (congrArg Power.crank power :), (congrArg Power.lowv power :), fun off => ⟨?_, ?_⟩, fun on => ?_,
      exec_only done⟩
    · rw [dipInput_begins input s off, soundingRequest_settled]
      exact (beginDip_silentDip _).silent
    · rw [dipInput_begins input s off]
      exact GatesKept.settled (.refl _) (gatesHold_applyGates _)
    · rw [dipInput_goesOn input s on]
      exact settled_from_power s _
  · have clear : dipInputsClear s = { s with
        power := { s.power with crank := false, lowv := false, settleTimer := some (s.now + 500) } } := by
      rw [dipInputsClear, if_pos dip]
      rfl
    rw [← clear]
    exact congrArg Host.Outcome.next (if_pos (by simp [powered, up, active]))
  · intro held
    have done : exec .supplyDipEnd s = .next (settled (endDip s)) := congrArg Host.Outcome.next (ite_running settling)
    have chime : (settled (endDip s)).chime = (dipDecided s).chime := by rw [settled_chime, endDip_eq]
    have port : (settled (endDip s)).port = (dipDecided s).port := by rw [settled_port, endDip_eq]
    have sounding : soundingRequest (settled (endDip s)) = soundingRequest (dipDecided s) := by
      simp only [soundingRequest, chime]
    have source : soundingSource (settled (endDip s)) = soundingSource (dipDecided s) := by
      simp only [soundingSource, sounding]
    refine ⟨_, done, ?_, fun run => ?_, fun asleep => ?_, fun up silent => ?_, fun up within silent => ⟨?_, ?_⟩,
      fun same => ?_, fun differs named room => ?_, exec_only done⟩
    · rw [chime, port]
      exact endDip_eq s ▸ settled_from (endDip s)
    · rw [settled_power_stopped (by rw [endDip_power]; simp [run]), endDip_power]
    · rw [chime, port, dipDecided_asleep s asleep]
      exact ⟨rfl, rfl⟩
    · rw [sounding, dipDecided_sounding] at silent
      exact arbiterDecide_silent (s := dipOver s) up rfl silent
    · rw [chime]
      exact (withArbiter_requests id (dipOver s)).figuresOf
    · have first := dipDecided_ranks up within silent
      rw [← sounding] at first
      cases now : soundingRequest (settled (endDip s)) with
      | none => exact (now ▸ first :)
      | some r => exact (now ▸ first :)
    · rw [port]
      exact dipDecided_unreported s (source ▸ same)
    · have slots : chimeStatusSlots (settled (endDip s)) = chimeStatusSlots (dipDecided s) := by
        simp only [chimeStatusSlots, sounding]
      rw [port, slots]
      exact dipDecided_reported s (source ▸ differs) named room
end
